-- ==== Sys2Proof/Word.lean ====
section
/-! DEFINITION. The two word types of the control link (R179) and nothing else: a byte and a two-byte field.
Everything the manual treats as a number (distances, speeds, headings, times, counts) is a `Nat` or an `Int`. -/

namespace Sys2Proof

/-- One byte of a frame, or a one-byte field (R179). -/
abbrev Byte := BitVec 8

/-- A two-byte field of a frame, most significant byte first on the link (R179). -/
abbrev Half := BitVec 16

end Sys2Proof
end

