-- ==== Sys2Proof/Machine/Arith.lean ====
section
/-! DEFINITION. The roundings and clamps of the manual's conventions (00, Rounding), the byte order of the link
(R179), and the one selection the blocks share: the first of a list with the least key. -/

namespace Sys2Proof.Machine

/-- Division toward minus infinity (00, Rounding: geometry results). Every divisor in the manual is positive, where
Lean's `/` on `Int` is this division. -/
def floorDiv (a b : Int) : Int := a / b

/-- Division toward zero (00, Rounding: pose increments and merge moves). -/
def truncDiv (a b : Int) : Int := a.tdiv b

/-- A clamped value is replaced by the nearest value of the range (00, Saturation and clamping). -/
def clampTo (lo hi v : Int) : Int := if v < lo then lo else if hi < v then hi else v

/-- A room coordinate, clamped to -30000..30000 (00, Room frame; R14, R33, R46, R128, R136). -/
def clampRoom (v : Int) : Int := clampTo (-30000) 30000 v

/-- The sign of a speed: 1, 0 or -1. -/
def signOf (v : Int) : Int := if 0 < v then 1 else if v < 0 then -1 else 0

/-- `v` moved toward `goal` by at most `step`, not past it (R103, R107). -/
def approach (goal : Int) (step : Nat) (v : Int) : Int :=
  if v < goal then (if v + step < goal then v + step else goal)
  else (if goal < v - step then v - step else goal)

/-- A two-byte field as its two bytes, most significant first (R179). -/
def halfBytes (h : Half) : List Byte := [h.extractLsb' 8 8, h.extractLsb' 0 8]

/-- Two bytes of a frame as a field, most significant first (R179). -/
def halfOf (hi lo : Byte) : Half := hi ++ lo

/-- A number as a two-byte field; negative numbers in two's complement (R179). -/
def toHalf (v : Int) : Half := BitVec.ofInt 16 v

/-- A number as a one-byte field (R179). -/
def toByte (n : Nat) : Byte := BitVec.ofNat 8 n

/-- A flag in a byte of its own: 0 or 1 (R179). -/
def flagByte (b : Bool) : Byte := if b then 1 else 0

/-- The `n` bytes of a list from offset 0, zeros where the list is shorter (R179: unused bytes read 0). -/
def padTo : Nat → List Byte → List Byte
  | 0, _ => []
  | n + 1, [] => 0 :: padTo n []
  | n + 1, b :: bs => b :: padTo n bs

/-- Keep the better of the best so far and a newcomer: the newcomer only with a strictly smaller key. -/
def keepLeast {α : Type} (key : α → Nat) (best : Option α) (x : α) : Option α :=
  match best with
  | none => some x
  | some b => if key x < key b then some x else some b

/-- The first element of the list with the least key: in ascending slot order, "ties to the lowest slot" (01). -/
def leastBy {α : Type} (key : α → Nat) (l : List α) : Option α := l.foldl (keepLeast key) none

end Sys2Proof.Machine
end

