-- ==== Sys2Proof/Syntax.lean ====
section
/-! DEFINITION. The commands of the part: one constructor per row of spec/opcode_table.json, with the operands that
the owner's rule gives. Request operands are the fields of the request frame as sent (R179); events carry what the
line or the world brings. -/

namespace Sys2Proof

/-- Left and right, as seen from above facing forward (00): the two wheels, the two bumpers, the two lift switches. -/
inductive Side where
  | left | right
  deriving DecidableEq, Repr

/-- The four cliff sensors, numbers 0 to 3 on the cliff-sample line (R121). -/
inductive CliffSensor where
  | fl | fc | fr | rc
  deriving DecidableEq, Repr

/-- The block actions of one control period expiry that the rules let come in either order (R44, R62, R68, R102). -/
inductive PeriodPart where
  /-- the Segment Controller takes the period's travel and turn (R77, R79, R161) -/
  | segment
  /-- the Drive Controller takes the period's travel for a BACKOFF move (R110) -/
  | drive
  /-- the Clearance Monitor evaluates (R53) -/
  | monitor
  /-- the Drive Controller makes its slew step (R103) -/
  | slew
  deriving DecidableEq, Repr

/-- The commands: the host's requests, the events on the lines, and the expiries of the part's timers. -/
inductive Instr where
  /-- POWER_ON (R171) -/
  | powerOn
  /-- RESET_PIN_FALL (R171) -/
  | resetPinFall
  /-- START_UP_END (R171) -/
  | startUpEnd
  /-- STARTUP_TRANSACTION (R176): a transaction of `bytes` whole bytes -/
  | startupTransaction (bytes : Nat)
  /-- SHORT_TRANSACTION (R176): a transaction of `bytes` whole bytes, fewer than 20 -/
  | shortTransaction (bytes : Nat)
  /-- NOP, code 0x00 (R176) -/
  | nop
  /-- UNKNOWN_REQUEST (R176): a frame whose request code is above 0x17 -/
  | unknownRequest (code : Byte)
  /-- STATUS, code 0x01 (R182) -/
  | status
  /-- CONFIG_SET, code 0x02 (R175) -/
  | configSet (item : Byte) (value : Half)
  /-- CONFIG_GET, code 0x03 (R175) -/
  | configGet (item : Byte)
  /-- MODE_ACTIVE, code 0x04 (R166) -/
  | modeActive
  /-- MODE_CONFIG, code 0x05 (R167) -/
  | modeConfig
  /-- PARK, code 0x06 (R169) -/
  | park
  /-- WAKE, code 0x07 (R169) -/
  | wake
  /-- RESUME, code 0x08 (R166) -/
  | resume
  /-- RESTART, code 0x09 (R174) -/
  | restart
  /-- STORE, code 0x0A (R173) -/
  | store
  /-- STORE_END (R173): the bytes the memory holds at the read-back, `none` when it holds what was written -/
  | storeEnd (readBack : Option (List Byte))
  /-- RECORD_PUT, code 0x0B (R11): the fields of the record body at offsets 0, 1, 2, 3, 7, 8, 10, 12, 14, 16;
  the ignored confidence, age and hits at offsets 4 to 6 are not carried -/
  | recordPut (slot generation kind flags order : Byte) (g8 g10 g12 g14 limit : Half)
  /-- RECORD_GET, code 0x0C (R17) -/
  | recordGet (slot : Byte)
  /-- RECORD_RETIRE, code 0x0D (R19) -/
  | recordRetire (slot generation : Byte)
  /-- RECORD_NEXT, code 0x0E (R18) -/
  | recordNext (start : Byte)
  /-- POINT_QUERY, code 0x0F (R33) -/
  | pointQuery (x y : Half)
  /-- PATH_QUERY, code 0x10 (R70) -/
  | pathQuery (heading : Half) (direction : Byte)
  /-- POSE_SET, code 0x11 (R46) -/
  | poseSet (x y heading u : Half)
  /-- POSE_GET, code 0x12 (R49) -/
  | poseGet
  /-- SEGMENT_ADD, code 0x13 (R82): the segment body at offsets 0, 1, 2, 3, 4, 6 -/
  | segmentAdd (tag kind direction hold : Byte) (amount speed : Half)
  /-- SEGMENT_CANCEL, code 0x14 (R94) -/
  | segmentCancel (tag : Byte)
  /-- SEGMENT_FLUSH, code 0x15 (R96) -/
  | segmentFlush
  /-- COMPLETION_READ, code 0x16 (R98) -/
  | completionRead
  /-- NOTICE_READ, code 0x17 (R180) -/
  | noticeRead
  /-- CONTROL_PERIOD_EXPIRY (R102), with the order in which the blocks act (log 7) -/
  | controlPeriodExpiry (order : List PeriodPart)
  /-- ENCODER_EDGE (R36): the new levels of channels A and B of one wheel -/
  | encoderEdge (wheel : Side) (a b : Bool)
  /-- STALL_TIMER_EXPIRY (R116) -/
  | stallTimerExpiry (wheel : Side)
  /-- UNJAM_END (R117) -/
  | unjamEnd
  /-- REVERSAL_GUARD_EXPIRY (R104) -/
  | reversalGuardExpiry (wheel : Side)
  /-- CLIFF_SAMPLE (R121) -/
  | cliffSample (sensor : CliffSensor) (reflectance : Byte)
  /-- BUMPER_LINE_CHANGE (R126): the new raw level, true for pressed -/
  | bumperLineChange (side : Side) (pressed : Bool)
  /-- BUMPER_DEBOUNCE_EXPIRY (R127) -/
  | bumperDebounceExpiry (side : Side)
  /-- LIFT_LINE_CHANGE (R126): the new raw level, true for active -/
  | liftLineChange (side : Side) (active : Bool)
  /-- LIFT_DEBOUNCE_EXPIRY (R129) -/
  | liftDebounceExpiry (side : Side)
  /-- OBSERVATION (R143): the unit takes the oldest observation handed to it -/
  | observation
  /-- AGEING_TIMER_EXPIRY (R151) -/
  | ageingTimerExpiry
  /-- DOCK_CONTACT_MAKE (R156) -/
  | dockContactMake
  /-- DOCK_CONTACT_BREAK (R157) -/
  | dockContactBreak
  /-- DOCK_SETTLE_EXPIRY (R156) -/
  | dockSettleExpiry
  /-- UNDOCK_WAIT_EXPIRY (R159) -/
  | undockWaitExpiry
  /-- PAUSE_TIMER_EXPIRY (R81) -/
  | pauseTimerExpiry
  /-- WAKE_TIMER_EXPIRY (R169) -/
  | wakeTimerExpiry
  /-- LINK_SILENCE_EXPIRY (R178) -/
  | linkSilenceExpiry
  /-- NOTICE_TIMER_EXPIRY (R181) -/
  | noticeTimerExpiry
  /-- SEGMENT_START (R88) -/
  | segmentStart
  /-- COMPLETION_RECORD_WRITE (R92) -/
  | completionRecordWrite
  /-- POWER_LOSS (R171) -/
  | powerLoss
  deriving DecidableEq, Repr

end Sys2Proof
end

