-- ==== Sys2Proof/Decode.lean ====
section
/-! DEFINITION. What a word of the table spells (the table gives no row any bits), and what a transaction on the link
spells: the decoding of request frames and their encoder, from the layouts of R176, R177 and R179. -/

namespace Sys2Proof

/-- The command that a word spells by the bits of spec/opcode_table.json. No row of the table gives bits, so no word
spells a command. -/
def decodeTableWord (_nbits _w : Nat) : Option Instr := none

namespace Frame

open Machine

/-- The byte at an offset of a frame. -/
def byteAt (bytes : List Byte) (k : Nat) : Byte := bytes.getD k 0

/-- The two-byte field at an offset of a frame, most significant byte first (R179). -/
def halfAt (bytes : List Byte) (k : Nat) : Half := halfOf (byteAt bytes k) (byteAt bytes (k + 1))

/-- The request in a frame, by its byte 0 and the body layouts (R177, R179). -/
def decodeFrame (b : List Byte) : Instr :=
  match (byteAt b 0).toNat with
  | 0x00 => .nop
  | 0x01 => .status
  | 0x02 => .configSet (byteAt b 1) (halfAt b 2)
  | 0x03 => .configGet (byteAt b 1)
  | 0x04 => .modeActive
  | 0x05 => .modeConfig
  | 0x06 => .park
  | 0x07 => .wake
  | 0x08 => .resume
  | 0x09 => .restart
  | 0x0A => .store
  | 0x0B =>
    .recordPut (byteAt b 1) (byteAt b 2) (byteAt b 3) (byteAt b 4) (byteAt b 8) (halfAt b 9) (halfAt b 11) (halfAt b 13)
      (halfAt b 15) (halfAt b 17)
  | 0x0C => .recordGet (byteAt b 1)
  | 0x0D => .recordRetire (byteAt b 1) (byteAt b 2)
  | 0x0E => .recordNext (byteAt b 1)
  | 0x0F => .pointQuery (halfAt b 1) (halfAt b 3)
  | 0x10 => .pathQuery (halfAt b 1) (byteAt b 3)
  | 0x11 => .poseSet (halfAt b 1) (halfAt b 3) (halfAt b 5) (halfAt b 7)
  | 0x12 => .poseGet
  | 0x13 => .segmentAdd (byteAt b 1) (byteAt b 2) (byteAt b 3) (byteAt b 4) (halfAt b 5) (halfAt b 7)
  | 0x14 => .segmentCancel (byteAt b 1)
  | 0x15 => .segmentFlush
  | 0x16 => .completionRead
  | 0x17 => .noticeRead
  | _ => .unknownRequest (byteAt b 0)

/-- The command of a transaction once start-up has ended, by the whole bytes it brought: fewer than 20 are a short
transaction, otherwise the first 20 are the request frame (R176). -/
def decodeTransaction (bytes : List Byte) : Instr :=
  if bytes.length < 20 then .shortTransaction bytes.length else decodeFrame (bytes.take 20)

/-- The body of a request, from byte 1 (R179); none for a command that is no request frame. -/
def requestBody : Instr → Option (Byte × List Byte)
  | .nop => some (0x00, [])
  | .status => some (0x01, [])
  | .configSet it v => some (0x02, [it] ++ halfBytes v)
  | .configGet it => some (0x03, [it])
  | .modeActive => some (0x04, [])
  | .modeConfig => some (0x05, [])
  | .park => some (0x06, [])
  | .wake => some (0x07, [])
  | .resume => some (0x08, [])
  | .restart => some (0x09, [])
  | .store => some (0x0A, [])
  | .recordPut slot generation kind flags order g8 g10 g12 g14 limit =>
    some (0x0B, [slot, generation, kind, flags, 0, 0, 0, order] ++ halfBytes g8 ++ halfBytes g10 ++ halfBytes g12 ++
      halfBytes g14 ++ halfBytes limit)
  | .recordGet slot => some (0x0C, [slot])
  | .recordRetire slot generation => some (0x0D, [slot, generation])
  | .recordNext start => some (0x0E, [start])
  | .pointQuery x y => some (0x0F, halfBytes x ++ halfBytes y)
  | .pathQuery heading direction => some (0x10, halfBytes heading ++ [direction])
  | .poseSet x y heading u => some (0x11, halfBytes x ++ halfBytes y ++ halfBytes heading ++ halfBytes u)
  | .poseGet => some (0x12, [])
  | .segmentAdd tag kind direction hold amount speed =>
    some (0x13, [tag, kind, direction, hold] ++ halfBytes amount ++ halfBytes speed)
  | .segmentCancel tag => some (0x14, [tag])
  | .segmentFlush => some (0x15, [])
  | .completionRead => some (0x16, [])
  | .noticeRead => some (0x17, [])
  | .unknownRequest code => some (code, [])
  | .powerOn | .resetPinFall | .startUpEnd | .startupTransaction _ | .shortTransaction _ | .storeEnd _
  | .controlPeriodExpiry _ | .encoderEdge _ _ _ | .stallTimerExpiry _ | .unjamEnd | .reversalGuardExpiry _
  | .cliffSample _ _ | .bumperLineChange _ _ | .bumperDebounceExpiry _ | .liftLineChange _ _ | .liftDebounceExpiry _
  | .observation | .ageingTimerExpiry | .dockContactMake | .dockContactBreak | .dockSettleExpiry | .undockWaitExpiry
  | .pauseTimerExpiry | .wakeTimerExpiry | .linkSilenceExpiry | .noticeTimerExpiry | .segmentStart
  | .completionRecordWrite | .powerLoss => none

/-- The request frame of a request: its code and its body, 20 bytes, unused bytes 0 (R179). -/
def encode (i : Instr) : Option (List Byte) :=
  (requestBody i).map fun r => r.1 :: padTo 19 r.2

/-- A cliff sample on the shared cliff-sample line: its sensor number, 0 to 3, and its reflectance (R121). -/
def decodeSample (number : Fin 4) (reflectance : Byte) : Instr :=
  match number with
  | 0 => .cliffSample .fl reflectance
  | 1 => .cliffSample .fc reflectance
  | 2 => .cliffSample .fr reflectance
  | 3 => .cliffSample .rc reflectance

end Frame

end Sys2Proof
end

