-- ==== Sys2Proof/Machine/Items.lean ====
section
/-! DEFINITION. The 47 configuration items of chapter 10 (R175): their numbers, ranges and factory values as the
manual tables them, the reading of one item by name, and the taking of a value by CONFIG_SET. -/

namespace Sys2Proof.Machine

/-- One row of the configuration item table (10, Configuration items). -/
structure ItemRow where
  lo : Int
  hi : Int
  factory : Int
  deriving DecidableEq, Repr

/-- Items 1 to 12. -/
def itemRowsA : List ItemRow :=
  [⟨100, 250, 170⟩, ⟨0, 100, 20⟩, ⟨1, 63, 12⟩, ⟨1, 50, 5⟩, ⟨100, 1500, 500⟩, ⟨1, 100, 5⟩,
   ⟨1, 200, 15⟩, ⟨50, 1000, 200⟩, ⟨1000, 65535, 7226⟩, ⟨50, 400, 150⟩, ⟨20, 150, 60⟩, ⟨50, 500, 150⟩]

/-- Items 13 to 22. -/
def itemRowsB : List ItemRow :=
  [⟨20, 255, 120⟩, ⟨0, 50, 10⟩, ⟨50, 1500, 200⟩, ⟨50, 1500, 250⟩, ⟨0, 31, 8⟩,
   ⟨16, 512, 128⟩, ⟨1, 255, 40⟩, ⟨0, 254, 12⟩, ⟨1, 4, 2⟩, ⟨2, 15, 8⟩]

/-- Items 23 to 30: the forward and left offsets of FL, FC, FR and RC, the signed items. -/
def itemRowsC : List ItemRow :=
  [⟨-250, 250, 150⟩, ⟨-250, 250, 80⟩, ⟨-250, 250, 165⟩, ⟨-250, 250, 0⟩,
   ⟨-250, 250, 150⟩, ⟨-250, 250, -80⟩, ⟨-250, 250, -150⟩, ⟨-250, 250, 0⟩]

/-- Items 31 to 47. -/
def itemRowsD : List ItemRow :=
  [⟨10, 100, 40⟩, ⟨10, 100, 30⟩, ⟨20, 200, 60⟩, ⟨2, 15, 8⟩, ⟨1, 255, 30⟩, ⟨20, 1000, 200⟩,
   ⟨0, 4, 2⟩, ⟨50, 500, 150⟩, ⟨0, 200, 40⟩, ⟨0, 200, 50⟩, ⟨0, 1, 1⟩, ⟨0, 2, 2⟩, ⟨0, 1, 0⟩,
   ⟨0, 2000, 500⟩, ⟨1, 16, 4⟩, ⟨1, 1000, 100⟩, ⟨10, 500, 100⟩]

/-- The configuration item table, in item order (10). -/
def itemRows : List ItemRow := itemRowsA ++ itemRowsB ++ itemRowsC ++ itemRowsD

/-- The configuration: the 47 values, in item order (R172, R175). -/
abbrev Settings := Vector Int 47

/-- The factory configuration (R171, 10). -/
def factorySettings : Settings := ⟨⟨itemRows.map ItemRow.factory⟩, by decide⟩

/-- The value of item `n`, 1 to 47. -/
def item (cfg : Settings) (n : Nat) : Int := cfg.toList.getD (n - 1) 0

/-- The configuration with item `n` at `v`. -/
def setItem (cfg : Settings) (n : Nat) (v : Int) : Settings := cfg.setIfInBounds (n - 1) v

/-- An unsigned item. -/
def itemNat (cfg : Settings) (n : Nat) : Nat := (item cfg n).toNat

/-- The item numbers of the table: 1 to 47 (R175). -/
def isItem (n : Nat) : Bool := decide (1 ≤ n) && decide (n ≤ 47)

/-- The eight cliff offsets are the signed items (R175). -/
def isSignedItem (n : Nat) : Bool := decide (23 ≤ n) && decide (n ≤ 30)

def robotRadius (cfg : Settings) : Nat := itemNat cfg 1
def clearMargin (cfg : Settings) : Nat := itemNat cfg 2
def guardGain (cfg : Settings) : Nat := itemNat cfg 3
def blockGap (cfg : Settings) : Nat := itemNat cfg 4
def speedMax (cfg : Settings) : Nat := itemNat cfg 5
def accelStep (cfg : Settings) : Nat := itemNat cfg 6
def decelStep (cfg : Settings) : Nat := itemNat cfg 7
def tickLength (cfg : Settings) : Nat := itemNat cfg 8
def spinTicks (cfg : Settings) : Nat := itemNat cfg 9
def probeDistance (cfg : Settings) : Nat := itemNat cfg 10
def creepSpeed (cfg : Settings) : Nat := itemNat cfg 11
def limpSpeed (cfg : Settings) : Nat := itemNat cfg 12
def limpThreshold (cfg : Settings) : Nat := itemNat cfg 13
def driftRate (cfg : Settings) : Nat := itemNat cfg 14
def slowLimit (cfg : Settings) : Nat := itemNat cfg 15
def rugLimit (cfg : Settings) : Nat := itemNat cfg 16
def headingGain (cfg : Settings) : Nat := itemNat cfg 17
def spinSlowWindow (cfg : Settings) : Nat := itemNat cfg 18
def floorThreshold (cfg : Settings) : Nat := itemNat cfg 19
def rugThreshold (cfg : Settings) : Nat := itemNat cfg 20
def floorPersist (cfg : Settings) : Nat := itemNat cfg 21
def rugPersist (cfg : Settings) : Nat := itemNat cfg 22
def bumpRadius (cfg : Settings) : Nat := itemNat cfg 31
def dropRadius (cfg : Settings) : Nat := itemNat cfg 32
def mergeDistance (cfg : Settings) : Nat := itemNat cfg 33
def confirmLevel (cfg : Settings) : Nat := itemNat cfg 34
def ageInterval (cfg : Settings) : Nat := itemNat cfg 35
def stallTime (cfg : Settings) : Nat := itemNat cfg 36
def stallRetries (cfg : Settings) : Nat := itemNat cfg 37
def unjamTime (cfg : Settings) : Nat := itemNat cfg 38
def reversalGuard (cfg : Settings) : Nat := itemNat cfg 39
def backoffDistance (cfg : Settings) : Nat := itemNat cfg 40
def cliffResponseCode (cfg : Settings) : Nat := itemNat cfg 41
def bumpResponseCode (cfg : Settings) : Nat := itemNat cfg 42
def stallResponseCode (cfg : Settings) : Nat := itemNat cfg 43
def linkTimeout (cfg : Settings) : Nat := itemNat cfg 44
def noticeWatermark (cfg : Settings) : Nat := itemNat cfg 45
def noticeDelay (cfg : Settings) : Nat := itemNat cfg 46
def dockSettle (cfg : Settings) : Nat := itemNat cfg 47

/-- A cliff sensor's forward offset: items 23, 25, 27 and 29 (10). -/
def forwardOffset (cfg : Settings) : CliffSensor → Int
  | .fl => item cfg 23
  | .fc => item cfg 25
  | .fr => item cfg 27
  | .rc => item cfg 29

/-- A cliff sensor's left offset: items 24, 26, 28 and 30 (10). -/
def leftOffset (cfg : Settings) : CliffSensor → Int
  | .fl => item cfg 24
  | .fc => item cfg 26
  | .fr => item cfg 28
  | .rc => item cfg 30

/-- The value CONFIG_SET takes for item `n` when `v` is sent (R175): the nearest value of the range;
`link_timeout` takes 0 as off and 1 to 49 as 50; `rug_threshold` stays below the present `floor_threshold`. -/
def takeValue (cfg : Settings) (n : Nat) (v : Int) : Int :=
  let row := itemRows.getD (n - 1) ⟨0, 0, 0⟩
  let w := clampTo row.lo row.hi v
  if n = 44 then (if 0 < w ∧ w < 50 then 50 else w)
  else if n = 20 then (if item cfg 19 ≤ w then item cfg 19 - 1 else w)
  else w

/-- A sent or stored two-byte value read for item `n`: signed for the cliff offsets, unsigned otherwise (R175). -/
def readValue (n : Nat) (h : Half) : Int := if isSignedItem n then h.toInt else (h.toNat : Int)

end Sys2Proof.Machine
end

