-- ==== Sys2Proof/Machine/State.lean ====
section
/-! DEFINITION. The state of the part, block by block as the chapters give it, as plain data, and its value right
after reset. A field that the manual derives from others (a record's state, the pinned count) is not held. -/

namespace Sys2Proof.Machine

/-! ### Shapes that several blocks use -/

/-- One value for the left and one for the right. -/
structure Pair (α : Type) where
  left : α
  right : α
  deriving DecidableEq, Repr

/-- One value for each cliff sensor. -/
structure Quad (α : Type) where
  fl : α
  fc : α
  fr : α
  rc : α
  deriving DecidableEq, Repr

/-- A slot and its generation: what a completion record or a notice names a record by (R2). -/
structure Ref where
  slot : Nat
  generation : Byte
  deriving DecidableEq, Repr

/-! ### Hazard Table (chapter 1) -/

/-- The eight kinds of a record (R3). -/
inductive RecordKind where
  | post | drop | dock | keepout | slow | rug | darkRug | clear
  deriving DecidableEq, Repr

/-- The geometry of a circle kind (R3): a centre in mm and a radius in mm. -/
structure Circle where
  cx : Int
  cy : Int
  r : Nat
  deriving DecidableEq, Repr

/-- The geometry of a rectangle kind (R3): inclusive corners in mm, and the place in the region scan (R4). -/
structure Rect where
  x0 : Int
  y0 : Int
  x1 : Int
  y1 : Int
  order : Nat
  deriving DecidableEq, Repr

/-- What lies on the floor: the kind with the geometry fields it carries (R3); a speed limit is optional (R4). -/
inductive Hazard where
  | post (c : Circle)
  | drop (c : Circle)
  | dock (c : Circle) (heading : Nat)
  | keepout (b : Rect)
  | slow (b : Rect) (limit : Option Nat)
  | rug (b : Rect) (limit : Option Nat)
  | darkRug (b : Rect) (limit : Option Nat)
  | clear (b : Rect)
  deriving DecidableEq, Repr

/-- Who made a record (R5). -/
inductive Source where
  | host | bump | cliff
  deriving DecidableEq, Repr

/-- A record's derived state (R6). -/
inductive RecordState where
  | host | tentative | confirmed
  deriving DecidableEq, Repr

/-- A live slot's record (01, section 1.2). -/
structure Record where
  hazard : Hazard
  source : Source
  pinned : Bool
  confidence : Nat
  age : Nat
  hits : Nat
  observed : Bool
  deriving DecidableEq, Repr

/-- A slot: its generation, and its record when it is live (R1, R2). -/
structure Slot where
  generation : Byte
  record : Option Record
  deriving DecidableEq, Repr

/-- The 96 slots (R1). -/
abbrev Table := Vector Slot 96

/-! ### Region Classifier (chapter 2) -/

/-- The class of a point (R22). -/
inductive RegionClass where
  | bare | clear | slow | rug | darkRug | keepout
  deriving DecidableEq, Repr

/-- A classification result: the class and the deciding record (R22). -/
structure ClassResult where
  cls : RegionClass
  record : Option Ref
  deriving DecidableEq, Repr

/-- What the Region Classifier holds (R22). -/
structure Zones where
  centre : ClassResult
  probe : ClassResult
  limit : Option Nat
  deriving DecidableEq, Repr

/-! ### Pose Integrator (chapter 3) -/

/-- A pair of encoder levels, channels A and B (R36). -/
structure Levels where
  a : Bool
  b : Bool
  deriving DecidableEq, Repr

/-- What the Pose Integrator holds (R35), with the tick counters and the reference levels of R36. -/
structure Pose where
  xUm : Int
  yUm : Int
  heading : Nat
  remainder : Nat
  uFix : Nat
  distance : Nat
  u : Nat
  ticks : Pair Int
  levels : Pair Levels
  deriving DecidableEq, Repr

/-! ### Clearance Monitor (chapter 4) -/

/-- The blocking cause found at the last evaluation (R52). -/
inductive PendingCause where
  | none
  | blocked (ref : Ref)
  | blockedZone (ref : Ref)
  deriving DecidableEq, Repr

/-- What the Clearance Monitor holds (R52). -/
structure Clearance where
  gap : Option Nat
  constraining : Option Ref
  gapTerm : Option Nat
  allowance : Option Nat
  pending : PendingCause
  deriving DecidableEq, Repr

/-! ### Segment Controller (chapter 5) -/

/-- A segment's kind with its parameters as taken (R83). -/
inductive Motion where
  | line (reverse : Bool) (distance speed : Nat) (hold : Bool)
  | spin (angle : Int) (speed : Nat)
  | dock (distance speed : Nat)
  | pause (time : Nat)
  deriving DecidableEq, Repr

/-- An entry of the segment queue (R73). -/
structure Segment where
  tag : Nat
  motion : Motion
  deriving DecidableEq, Repr

/-- A running segment's phase (R89). -/
inductive Phase where
  | waiting | moving | unjam | stopping
  deriving DecidableEq, Repr

/-- The end causes, which are also the outcomes (R90, R93). -/
inductive EndKind where
  | completed | docked | dockMissed | blocked | blockedZone | cliffStop | bumpStop
  | stall | cancelled | flushed | lifted | linkLost
  deriving DecidableEq, Repr

/-- An end cause with the record it names (R90). -/
structure EndCause where
  kind : EndKind
  record : Option Ref
  deriving DecidableEq, Repr

/-- The running-segment context (R74). `progress` is in um for LINE and DOCK, in heading units for SPIN, in ms for
PAUSE. -/
structure Context where
  segment : Segment
  startHeading : Nat
  holdTarget : Option Nat
  progress : Int
  phase : Phase
  cause : Option EndCause
  cancelSeen : Bool
  deriving DecidableEq, Repr

/-- A completion record (R93). -/
structure Completion where
  segment : Segment
  outcome : EndKind
  cancelSeen : Bool
  travelled : Int
  record : Option Ref
  retries : Nat
  endTime : Half
  deriving DecidableEq, Repr

/-- What the Segment Controller holds (R73, R74, R75). The running segment is the head of the queue. -/
structure Segments where
  queue : List Segment
  running : Option Context
  completions : List Completion
  deriving DecidableEq, Repr

/-! ### Drive Controller (chapter 6) -/

/-- A running reversal guard (R104): whether the setpoint was positive before it reached 0, the ms elapsed and the
length. -/
structure Guard where
  wasPositive : Bool
  elapsed : Nat
  length : Nat
  deriving DecidableEq, Repr

/-- A running stall timer (R115): the ms elapsed since its last reload, its length, and whether that length was
taken doubled. -/
structure StallTimer where
  elapsed : Nat
  length : Nat
  doubled : Bool
  deriving DecidableEq, Repr

/-- What the Drive Controller holds for one wheel (R101). `forward` is the direction level (R113). -/
structure Wheel where
  setpoint : Int
  target : Int
  guard : Option Guard
  stall : Option StallTimer
  forward : Bool
  deriving DecidableEq, Repr

/-- The stop state (R101): a RAMP carries the ramp base of a held segment (R107), a BACKOFF its phase and, in
REVERSE alone, its progress in um (R110; log 41). -/
inductive Stop where
  | none
  | ramp (base : Option Int)
  | hard
  | release
  | backoffHalt
  | backoffReverse (progress : Int)
  | backoffClose
  deriving DecidableEq, Repr

/-- The kinds of stop that can be asked for (R107 to R110). -/
inductive StopKind where
  | ramp | hard | backoff | release
  deriving DecidableEq, Repr

/-- An unjam (R117). -/
structure Unjam where
  elapsed : Nat
  targets : Pair Int
  deriving DecidableEq, Repr

/-- What the Drive Controller holds (R101). `periodMs` is the control period timer (R102). -/
structure Drive where
  wheels : Pair Wheel
  stop : Stop
  unjam : Option Unjam
  retries : Nat
  releaseLatch : Bool
  periodMs : Nat
  deriving DecidableEq, Repr

/-! ### Floor Sensor Monitor (chapter 7) -/

/-- The state of a cliff sensor (R119). -/
inductive CliffState where
  | clear | suspect | tripped
  deriving DecidableEq, Repr

/-- What the Monitor holds for one cliff sensor (R119). -/
structure Cliff where
  state : CliffState
  count : Nat
  deriving DecidableEq, Repr

/-- What the Monitor holds for one switch (R119): true is pressed or active; `timer` is the debounce timer's ms
when it runs. -/
structure Switch where
  raw : Bool
  debounced : Bool
  timer : Option Nat
  deriving DecidableEq, Repr

/-- A bumper: its switch and its counted mark (R119, R127). -/
structure Bumper where
  switch : Switch
  counted : Bool
  deriving DecidableEq, Repr

/-- An observation (R136): true for a DROP, false for a POST, and its point. -/
structure Observation where
  isDrop : Bool
  x : Int
  y : Int
  deriving DecidableEq, Repr

/-- The result of a protective response's observation (R119, R136): still pending, behind `ahead` others handed
earlier, or arrived, naming a record or dropped. -/
inductive ObservationResult where
  | pending (ahead : Nat)
  | arrived (ref : Option Ref)
  deriving DecidableEq, Repr

/-- The protective response (R119). -/
structure Response where
  observation : Observation
  result : ObservationResult
  deriving DecidableEq, Repr

/-- What the Floor Sensor Monitor holds (R119). -/
structure Floor where
  cliffs : Quad Cliff
  bumpers : Pair Bumper
  lifts : Pair Switch
  response : Option Response
  deriving DecidableEq, Repr

/-! ### Observation and Ageing Unit (chapter 8) -/

/-- What the unit holds beside the observed flags in the table (R142), and the observations handed to it that it has
not yet taken (R143). -/
structure Ageing where
  timer : Nat
  observations : List Observation
  deriving DecidableEq, Repr

/-! ### Dock Contact Monitor (chapter 9) -/

/-- The progress of a departure (R159). -/
inductive Undock where
  | none | wait | leaving
  deriving DecidableEq, Repr

/-- A running settle timer: the ms elapsed and the length read at its start (R156). -/
structure Settle where
  elapsed : Nat
  length : Nat
  deriving DecidableEq, Repr

/-- What the Dock Contact Monitor holds (R155); charge enable is among the outputs. -/
structure Dock where
  contact : Bool
  settle : Option Settle
  docked : Bool
  undock : Undock
  undockTimer : Option Nat
  deriving DecidableEq, Repr

/-! ### Mode Controller (chapter 10) -/

/-- The seven modes (R164). -/
inductive Mode where
  | config | active | stopping | halted | parking | parked | waking
  deriving DecidableEq, Repr

/-- The cause of the most recent fall to HALTED (R164). -/
inductive HaltReason where
  | none | lifted | linkLost
  deriving DecidableEq, Repr

/-- The store state (R173): WRITING holds the image made from the snapshot and the ms since the request. -/
inductive Store where
  | idle
  | writing (image : List Byte) (elapsed : Nat)
  deriving DecidableEq, Repr

/-- What the Mode Controller holds (R164, R173). -/
structure Modes where
  mode : Mode
  haltReason : HaltReason
  haltPending : Bool
  wakeTimer : Option Nat
  store : Store
  deriving DecidableEq, Repr

/-- The non-volatile memory (R172, R173): never written; left by an interrupted store, with a CRC that does not
match; or holding these bytes, the CRC last. -/
inductive NvImage where
  | unwritten
  | torn
  | written (bytes : List Byte)
  deriving DecidableEq, Repr

/-! ### Control Link and Reporting (chapter 11) -/

/-- The kinds of notice (R179). -/
inductive NoticeKind where
  | zoneChanged | recordCreated | recordMerged | recordConfirmed | recordRetired
  | observationDropped | dockMade | dockLost
  deriving DecidableEq, Repr

/-- The causes a notice carries (R179); HOST is the state of a merged HOST record (R149). -/
inductive NoticeCause where
  | odometry | poseFix | table | host | tentative | confirmed | replaced | aged | tableFull
  deriving DecidableEq, Repr

/-- A notice (R179, R180). -/
structure Notice where
  kind : NoticeKind
  ref : Option Ref
  recordKind : Option RecordKind
  cause : Option NoticeCause
  x : Int
  y : Int
  zone : Option RegionClass
  time : Half
  deriving DecidableEq, Repr

/-- A countdown that can be stopped, running with the ms left, or expired: the link-silence timer (R178) and the
notice timer (R181). -/
inductive Countdown where
  | stopped
  | running (left : Nat)
  | expired
  deriving DecidableEq, Repr

/-- The latched causes and the store result bit (R182). -/
structure Latches where
  modeReached : Bool
  halt : Bool
  storeDone : Bool
  storeFailed : Bool
  noticeOverflow : Bool
  storeBad : Bool
  deriving DecidableEq, Repr

/-- What the link block holds but the latched causes (R176, R178, R180 to R182). `dataOut` holds the bytes shifted
out in the latest transaction (log 14). -/
structure Link where
  response : List Byte
  dataOut : List Byte
  silence : Countdown
  notices : List Notice
  noticeTimer : Countdown
  timeBase : Half
  deriving DecidableEq, Repr

/-! ### Lines, outputs and the whole -/

/-- The levels on the input lines (00, Lines of the part): true is pressed, active or made. -/
structure Lines where
  encoders : Pair Levels
  bumpers : Pair Bool
  lifts : Pair Bool
  dockContact : Bool
  deriving DecidableEq, Repr

/-- One wheel's outputs to its motor stage (R113). -/
structure MotorOut where
  duty : Nat
  forward : Bool
  enable : Bool
  brake : Bool
  deriving DecidableEq, Repr

/-- The levels of the output lines (00; R113, R158, R164, R183). -/
structure Outputs where
  motors : Pair MotorOut
  sensorPower : Bool
  chargeEnable : Bool
  attention : Bool
  deriving DecidableEq, Repr

/-- Whether the part has power, and whether start-up has ended (10, section 10.4). -/
inductive Power where
  | off
  | startUp (elapsed : Nat)
  | ready
  deriving DecidableEq, Repr

/-- The state of the part. `pending` is the queue of waiting commands, first in first out; `choices` counts the free
values drawn on an empty queue (log 8). -/
structure State where
  pending : List Instr
  choices : Nat
  power : Power
  lines : Lines
  nv : NvImage
  table : Table
  config : Settings
  pose : Pose
  zones : Zones
  clearance : Clearance
  segments : Segments
  drive : Drive
  floor : Floor
  ageing : Ageing
  dock : Dock
  modes : Modes
  latches : Latches
  link : Link
  outputs : Outputs
  deriving DecidableEq, Repr

/-- The reasons the part could stop with a fault. The manual names none: it answers every request and takes every
event. -/
inductive Fault where
  /-- Raised by no meaning of this model; it stands so that the type is not empty. Safe: it is never answered. -/
  | noneNamed
  deriving DecidableEq, Repr

/-- The reasons a command has no meaning. -/
inductive Refusal where
  /-- Raised by an arm of exec whose command has no meaning yet. Safe: the part stops where the hardware goes on. -/
  | notModelled (mnemonic : String)
  deriving DecidableEq, Repr

/-- What a meaning answers. -/
abbrev Result := Host.Outcome State Fault Refusal

/-! ### The values of the blocks at the end of start-up, and reset -/

/-- A free slot at generation 0 (R20). -/
def freshSlot : Slot := ⟨0, none⟩

/-- The table with every slot free at generation 0 (R20). -/
def freshTable : Table := Vector.replicate 96 freshSlot

/-- The result for a point that no rectangle contains (R23). -/
def bareResult : ClassResult := ⟨.bare, none⟩

/-- The Classifier over an empty table (R22), and during start-up over any table (log 40). -/
def freshZones : Zones := ⟨bareResult, bareResult, none⟩

/-- The pose that start-up sets, with the encoder levels as reference (R50). -/
def freshPose (levels : Pair Levels) : Pose := ⟨0, 0, 0, 0, 255, 0, 255, ⟨0, 0⟩, levels⟩

/-- Every item of the Clearance Monitor none (R52). -/
def freshClearance : Clearance := ⟨none, none, none, none, .none⟩

/-- Both queues empty and no segment running (R99). -/
def freshSegments : Segments := ⟨[], none, []⟩

/-- A wheel at rest after start-up (R118). -/
def freshWheel : Wheel := ⟨0, 0, none, none, true⟩

/-- The drive at the end of start-up (R118). -/
def freshDrive : Drive := ⟨⟨freshWheel, freshWheel⟩, .none, none, 0, false, 0⟩

/-- A cliff sensor CLEAR with count 0 (R119). -/
def clearCliff : Cliff := ⟨.clear, 0⟩

/-- All four cliff sensors CLEAR with count 0 (R119, R120). -/
def clearCliffs : Quad Cliff := ⟨clearCliff, clearCliff, clearCliff, clearCliff⟩

/-- A switch that takes its level from its line, with its debounce timer stopped (R119). -/
def settledSwitch (level : Bool) : Switch := ⟨level, level, none⟩

/-- A bumper that takes its level from its line (R119, R140). -/
def settledBumper (level : Bool) : Bumper := ⟨settledSwitch level, false⟩

/-- The Floor Sensor Monitor at the end of start-up, from the levels of its lines (R119). -/
def freshFloor (lines : Lines) : Floor :=
  ⟨clearCliffs, ⟨settledBumper lines.bumpers.left, settledBumper lines.bumpers.right⟩,
    ⟨settledSwitch lines.lifts.left, settledSwitch lines.lifts.right⟩, none⟩

/-- The ageing timer at 0 and no observation handed (R154). -/
def freshAgeing : Ageing := ⟨0, []⟩

/-- The Dock Contact Monitor at the end of start-up: a made contact starts its settle (R155). -/
def freshDock (contact : Bool) (settleLength : Nat) : Dock :=
  ⟨contact, if contact then some ⟨0, settleLength⟩ else none, false, .none, none⟩

/-- The Mode Controller after start-up (R164, R173). -/
def freshModes : Modes := ⟨.config, .none, false, none, .idle⟩

/-- The latched causes after start-up: STORE_BAD when the image was bad (R171, R182). -/
def freshLatches (storeBad : Bool) : Latches := ⟨false, false, false, false, false, storeBad⟩

/-- The frame that stands until the first request other than NOP is accepted: the code of NOP with STARTING and a
body of zeros (R176). -/
def startingFrame : List Byte := [0, 14, 0, 0, 0, 0, 0, 0, 0, 0, 0, 0, 0, 0, 0, 0, 0, 0, 0, 0]

/-- The link block at the start of the time base (R171, R180, R181). -/
def freshLink (silence : Countdown) : Link := ⟨startingFrame, [], silence, [], .stopped, 0⟩

/-- Every output inactive (10, section 10.4; R118). -/
def restOutputs : Outputs := ⟨⟨⟨0, true, false, false⟩, ⟨0, true, false, false⟩⟩, false, false, false⟩

/-- Every input line released, open or low (log 1). -/
def releasedLines : Lines := ⟨⟨⟨false, false⟩, ⟨false, false⟩⟩, ⟨false, false⟩, ⟨false, false⟩, false⟩

/-- The part right after reset: the end of the start-up that follows a power-on with a never-written image and every
line released (R171, log 1). Sensor power is asserted, and the attention line because STORE_BAD is latched (R183). -/
def State.reset : State where
  pending := []
  choices := 0
  power := .ready
  lines := releasedLines
  nv := .unwritten
  table := freshTable
  config := factorySettings
  pose := freshPose releasedLines.encoders
  zones := freshZones
  clearance := freshClearance
  segments := freshSegments
  drive := freshDrive
  floor := freshFloor releasedLines
  ageing := freshAgeing
  dock := freshDock false 100
  modes := freshModes
  latches := freshLatches true
  link := freshLink (.running 500)
  outputs := { restOutputs with sensorPower := true, attention := true }

end Sys2Proof.Machine
end

