-- ==== Sys2Proof/Machine/Operands.lean ====
section
/-! DEFINITION. The operands of the commands as the part takes them: the trigonometry of the conventions (00), the
record fields of RECORD_PUT (R14), the segment parameters of SEGMENT_ADD (R83), and the reading of the two-sided and
four-sided shapes of the state. -/

namespace Sys2Proof.Machine

/-! ### Sides and sensors -/

/-- The value of one side. -/
def Pair.get {α : Type} (p : Pair α) : Side → α
  | .left => p.left
  | .right => p.right

/-- The pair with one side at `v`. -/
def Pair.set {α : Type} (p : Pair α) (side : Side) (v : α) : Pair α :=
  match side with
  | .left => { p with left := v }
  | .right => { p with right := v }

/-- Both sides through one function. -/
def Pair.map {α β : Type} (f : α → β) (p : Pair α) : Pair β := ⟨f p.left, f p.right⟩

/-- The other side. -/
def otherSide : Side → Side
  | .left => .right
  | .right => .left

/-- The value of one sensor. -/
def Quad.get {α : Type} (q : Quad α) : CliffSensor → α
  | .fl => q.fl
  | .fc => q.fc
  | .fr => q.fr
  | .rc => q.rc

/-- The four values with one sensor's at `v`. -/
def Quad.set {α : Type} (q : Quad α) (sensor : CliffSensor) (v : α) : Quad α :=
  match sensor with
  | .fl => { q with fl := v }
  | .fc => { q with fc := v }
  | .fr => { q with fr := v }
  | .rc => { q with rc := v }

/-! ### Trigonometry (00) -/

/-- The quarter table T, in units of 1/4096 (00). -/
def quarterTable : List Int :=
  [0, 401, 799, 1189, 1567, 1931, 2276, 2598, 2896, 3166, 3406, 3612, 3784, 3920, 4017, 4076, 4096]

/-- The entry of T. -/
def quarter (i : Nat) : Int := quarterTable.getD i 0

/-- The sine of index `i`, 0..63 (00). -/
def sinAt (i : Nat) : Int :=
  if i ≤ 16 then quarter i
  else if i ≤ 32 then quarter (32 - i)
  else if i ≤ 48 then - quarter (i - 32)
  else - quarter (64 - i)

/-- The cosine of index `i` is the sine of (i + 16) mod 64 (00). -/
def cosAt (i : Nat) : Int := sinAt ((i + 16) % 64)

/-- The trig index of a heading (00). -/
def trigIndex (heading : Nat) : Nat := ((heading + 32) / 64) % 64

/-- A direction: its cosine and its sine. -/
structure Direction where
  c : Int
  s : Int
  deriving DecidableEq, Repr

/-- The direction of a heading, with both signs changed for backward motion (00, R27, R54). -/
def directionOf (heading : Nat) (reverse : Bool) : Direction :=
  let i := trigIndex heading
  if reverse then ⟨- cosAt i, - sinAt i⟩ else ⟨cosAt i, sinAt i⟩

/-- The signed difference of two headings, wrapped into -2048..2047 (00). -/
def headingDiff (a b : Nat) : Int := ((a : Int) - b + 2048) % 4096 - 2048

/-- The larger of |dx| and |dy| (00, Chebyshev distance). -/
def chebyshev (ax ay bx by' : Int) : Nat := max (ax - bx).natAbs (ay - by').natAbs

/-! ### Hazards -/

/-- The kind of a hazard (R3). -/
def Hazard.kind : Hazard → RecordKind
  | .post _ => .post
  | .drop _ => .drop
  | .dock _ _ => .dock
  | .keepout _ => .keepout
  | .slow _ _ => .slow
  | .rug _ _ => .rug
  | .darkRug _ _ => .darkRug
  | .clear _ => .clear

/-- The circle of a circle kind (R3). -/
def Hazard.circle? : Hazard → Option Circle
  | .post c | .drop c | .dock c _ => some c
  | _ => none

/-- The rectangle of a rectangle kind (R3). -/
def Hazard.rect? : Hazard → Option Rect
  | .keepout b | .slow b _ | .rug b _ | .darkRug b _ | .clear b => some b
  | _ => none

/-- The record's own speed limit, where it is present (R4). -/
def Hazard.limit? : Hazard → Option Nat
  | .slow _ l | .rug _ l | .darkRug _ l => l
  | _ => none

/-- The dock heading; the other kinds read 0 (R3). -/
def Hazard.dockHeading : Hazard → Nat
  | .dock _ h => h
  | _ => 0

/-- Whether a hazard is a DROP. -/
def Hazard.isDrop : Hazard → Bool
  | .drop _ => true
  | _ => false

/-- Whether a hazard is a DOCK. -/
def Hazard.isDock : Hazard → Bool
  | .dock _ _ => true
  | _ => false

/-- A circle's centre; (0, 0) for a rectangle. -/
def Hazard.centre (h : Hazard) : Int × Int :=
  match h.circle? with
  | some c => (c.cx, c.cy)
  | none => (0, 0)

/-- The class of a point that a rectangle decides (R23). A circle decides none, and BARE stands for it. -/
def Hazard.regionClass : Hazard → RegionClass
  | .keepout _ => .keepout
  | .slow _ _ => .slow
  | .rug _ _ => .rug
  | .darkRug _ _ => .darkRug
  | .clear _ => .clear
  | _ => .bare

/-- A point on an edge or a corner is inside (R23). -/
def Rect.contains (b : Rect) (x y : Int) : Bool :=
  decide (b.x0 ≤ x) && decide (x ≤ b.x1) && decide (b.y0 ≤ y) && decide (y ≤ b.y1)

/-- The derived state of a record (R6). -/
def recordState (cfg : Settings) (r : Record) : RecordState :=
  match r.source with
  | .host => .host
  | _ => if r.confidence < confirmLevel cfg then .tentative else .confirmed

/-- A HOST record counts as confirmed; a TENTATIVE one does not (R6). -/
def isConfirmed (cfg : Settings) (r : Record) : Bool := decide (recordState cfg r ≠ .tentative)

/-! ### The fields of RECORD_PUT and of a stored record (R14) -/

/-- A circle as taken: coordinates clamped, a radius above 1000 taken as 1000 (R14). -/
def takeCircle (g8 g10 g12 : Half) : Circle :=
  ⟨clampRoom g8.toInt, clampRoom g10.toInt, min g12.toNat 1000⟩

/-- A rectangle as taken: coordinates clamped, then exchanged where the first is the greater (R14). -/
def takeRect (order : Byte) (g8 g10 g12 g14 : Half) : Rect :=
  let x0 := clampRoom g8.toInt
  let y0 := clampRoom g10.toInt
  let x1 := clampRoom g12.toInt
  let y1 := clampRoom g14.toInt
  ⟨min x0 x1, min y0 y1, max x0 x1, max y0 y1, order.toNat⟩

/-- A speed limit as taken: 0 is absent, one above `speed_max` is taken as `speed_max` (R14). -/
def takeLimit (cfg : Settings) (limit : Half) : Option Nat :=
  if limit = 0 then none else some (min limit.toNat (speedMax cfg))

/-- The hazard that a kind code and the geometry fields give, as R14 takes them; none for a code above 7 (R11). -/
def takeHazard (cfg : Settings) (kind order : Byte) (g8 g10 g12 g14 limit : Half) : Option Hazard :=
  match kind.toNat with
  | 0 => some (.post (takeCircle g8 g10 g12))
  | 1 => some (.drop (takeCircle g8 g10 g12))
  | 2 => some (.dock (takeCircle g8 g10 g12) (g14.toNat % 4096))
  | 3 => some (.keepout (takeRect order g8 g10 g12 g14))
  | 4 => some (.slow (takeRect order g8 g10 g12 g14) (takeLimit cfg limit))
  | 5 => some (.rug (takeRect order g8 g10 g12 g14) (takeLimit cfg limit))
  | 6 => some (.darkRug (takeRect order g8 g10 g12 g14) (takeLimit cfg limit))
  | 7 => some (.clear (takeRect order g8 g10 g12 g14))
  | _ => none

/-! ### The fields of SEGMENT_ADD (R82, R83) -/

/-- A segment's speed as taken: 1 when 0, `speed_max` when above it (R83). -/
def takeSpeed (cfg : Settings) (speed : Half) : Nat :=
  if speed = 0 then 1 else min speed.toNat (speedMax cfg)

/-- The motion that a kind code and the parameters give, as R83 takes them; none for a kind code that is none of the
four, or a LINE direction that is neither forward nor reverse (R82, step 2). -/
def takeMotion (cfg : Settings) (kind direction hold : Byte) (amount speed : Half) : Option Motion :=
  match kind.toNat with
  | 0 =>
    if direction.toNat ≤ 1 then
      some (.line (decide (direction = 1)) (min amount.toNat 30000) (takeSpeed cfg speed) (decide (hold ≠ 0)))
    else none
  | 1 => some (.spin (clampTo (-4095) 4095 amount.toInt) (takeSpeed cfg speed))
  | 2 => some (.dock (min amount.toNat 2000) (takeSpeed cfg speed))
  | 3 => some (.pause (min amount.toNat 10000))
  | _ => none

/-- Whether a motion is a LINE or a DOCK, the kinds the Clearance Monitor judges (04). -/
def Motion.isStraight : Motion → Bool
  | .line .. | .dock .. => true
  | _ => false

/-- Whether a motion is a DOCK. -/
def Motion.isDock : Motion → Bool
  | .dock .. => true
  | _ => false

/-- Whether a motion is a PAUSE. -/
def Motion.isPause : Motion → Bool
  | .pause _ => true
  | _ => false

/-- Whether a motion runs backward: a reverse LINE (R74). -/
def Motion.isReverse : Motion → Bool
  | .line reverse _ _ _ => reverse
  | _ => false

/-- The direction sigma: -1 for a reverse LINE, +1 otherwise (R74). -/
def Motion.sigma (m : Motion) : Int := if m.isReverse then -1 else 1

/-- The distance of a LINE and the maximum distance of a DOCK (R59). -/
def Motion.distance : Motion → Nat
  | .line _ d _ _ => d
  | .dock d _ => d
  | _ => 0

/-- The speed of a segment; a PAUSE has none. -/
def Motion.speed : Motion → Nat
  | .line _ _ v _ => v
  | .spin _ v => v
  | .dock _ v => v
  | .pause _ => 0

end Sys2Proof.Machine
end

