-- ==== Sys2Proof/Machine/Flags.lean ====
section
/-! DEFINITION. The flags and the output lines: what each output is as a function of the state (R113, R158, R164,
R183), the latched causes (R182), and the tests of modes and rest that the rules share. -/

namespace Sys2Proof.Machine

/-! ### Tests the rules share -/

/-- The four modes in which floor triggers and link loss act (R120, R178). -/
def isTaking : Mode → Bool
  | .active | .stopping | .parking | .waking => true
  | _ => false

/-- The modes whose wheels are held at rest (R114). -/
def isRestMode : Mode → Bool
  | .config | .halted | .parked => true
  | _ => false

/-- The robot is lifted when the debounced level of either lift switch is active (R129). -/
def State.lifted (s : State) : Bool := s.floor.lifts.left.debounced || s.floor.lifts.right.debounced

/-- Both wheel setpoints are 0 (R87, R92, R158). -/
def State.atRest (s : State) : Bool :=
  decide (s.drive.wheels.left.setpoint = 0) && decide (s.drive.wheels.right.setpoint = 0)

/-- No reversal guard is running (R169). -/
def State.guardsClear (s : State) : Bool :=
  s.drive.wheels.left.guard.isNone && s.drive.wheels.right.guard.isNone

/-- A BACKOFF move is in progress from its request until CLOSE is entered (R110). -/
def Stop.moveInProgress : Stop → Bool
  | .backoffHalt | .backoffReverse _ => true
  | _ => false

/-- A protective response holds its observation result pending (R136). -/
def Floor.resultPending (f : Floor) : Bool :=
  match f.response with
  | some ⟨_, .pending _⟩ => true
  | _ => false

/-- The centre class doubles the stall time (R25, R115). -/
def State.onRug (s : State) : Bool :=
  match s.zones.centre.cls with
  | .rug | .darkRug => true
  | _ => false

/-- Any of the four cliff sensors is SUSPECT (R58). -/
def State.anySuspect (s : State) : Bool :=
  decide (s.floor.cliffs.fl.state = .suspect) || decide (s.floor.cliffs.fc.state = .suspect) ||
    decide (s.floor.cliffs.fr.state = .suspect) || decide (s.floor.cliffs.rc.state = .suspect)

/-! ### Outputs -/

/-- Start-up has ended and the part has power. -/
def State.isReady (s : State) : Bool := decide (s.power = .ready)

/-- Bridge enable (R113): asserted unless the mode is CONFIG, HALTED or PARKED, or a lift switch is active, or the
release latch is set; off during start-up (R118). -/
def State.bridgeOn (s : State) : Bool :=
  s.isReady && !isRestMode s.modes.mode && !s.lifted && !s.drive.releaseLatch

/-- One wheel's outputs (R113). -/
def motorOut (cfg : Settings) (bridge : Bool) (w : Wheel) : MotorOut where
  duty := if bridge then w.setpoint.natAbs * 1023 / speedMax cfg else 0
  forward := w.forward
  enable := bridge
  brake := bridge && decide (w.setpoint = 0)

/-- Charge enable (R158). -/
def State.chargeOn (s : State) : Bool :=
  s.isReady && s.dock.docked && s.atRest && decide (s.modes.mode ≠ .halted) && decide (s.dock.undock = .none)

/-- Any latched cause is set (R183); the store result bit is not a cause (R182). -/
def Latches.any (l : Latches) : Bool :=
  l.modeReached || l.halt || l.storeDone || l.noticeOverflow || l.storeBad

/-- The attention line (R183). -/
def State.attentionOn (s : State) : Bool :=
  s.isReady &&
    (!s.segments.completions.isEmpty || decide (noticeWatermark s.config ≤ s.link.notices.length) ||
      decide (s.link.noticeTimer = .expired) || s.latches.any)

/-- Sensor power: asserted in every mode except PARKED, from the end of start-up (R164, R171). -/
def State.sensorPowerOn (s : State) : Bool := s.isReady && decide (s.modes.mode ≠ .parked)

/-- Every output line as the rules give it from the state (R113, R158, R164, R183). -/
def outputsOf (s : State) : Outputs where
  motors := s.drive.wheels.map (motorOut s.config s.bridgeOn)
  sensorPower := s.sensorPowerOn
  chargeEnable := s.chargeOn
  attention := s.attentionOn

/-- The output lines follow the state at the change. -/
def refresh (s : State) : State := { s with outputs := outputsOf s }

/-! ### Latched causes -/

/-- No latched cause and no store result (R182). -/
def clearLatches : Latches := ⟨false, false, false, false, false, false⟩

/-- A part-made transition latches MODE_REACHED (R165). -/
def latchModeReached (s : State) : State := { s with latches := { s.latches with modeReached := true } }

/-- Every fall to HALTED latches HALT and MODE_REACHED (R165). -/
def latchHalt (s : State) : State := { s with latches := { s.latches with modeReached := true, halt := true } }

/-- The latched causes as the byte of the status body (R179). -/
def Latches.toByte (l : Latches) : Byte :=
  (if l.modeReached then 1 else 0) + (if l.halt then 2 else 0) + (if l.storeDone then 4 else 0) +
    (if l.storeDone && l.storeFailed then 8 else 0) + (if l.noticeOverflow then 16 else 0) +
    (if l.storeBad then 32 else 0)

end Sys2Proof.Machine
end

