-- ==== Sys2Proof/Machine/Frames.lean ====
section
/-! DEFINITION. The response frames: result codes (R177), field codes and body layouts (R179), and the answering of a
request. -/

namespace Sys2Proof.Machine

/-! ### Result codes (R177) -/

/-- The result codes of R177, in their order. -/
inductive ResultCode where
  | ok | mode | busy | queueFull | duplicateTag | notFound | stale | notLive | tableFull | pinFull | badField
  | condition | empty | unknown | starting
  deriving DecidableEq, Repr

/-- The code of a result (R177). -/
def ResultCode.byte : ResultCode → Byte
  | .ok => 0
  | .mode => 1
  | .busy => 2
  | .queueFull => 3
  | .duplicateTag => 4
  | .notFound => 5
  | .stale => 6
  | .notLive => 7
  | .tableFull => 8
  | .pinFull => 9
  | .badField => 10
  | .condition => 11
  | .empty => 12
  | .unknown => 13
  | .starting => 14

/-! ### Field codes (R179) -/

def RecordKind.byte : RecordKind → Byte
  | .post => 0
  | .drop => 1
  | .dock => 2
  | .keepout => 3
  | .slow => 4
  | .rug => 5
  | .darkRug => 6
  | .clear => 7

def Source.byte : Source → Byte
  | .host => 0
  | .bump => 1
  | .cliff => 2

def RecordState.byte : RecordState → Byte
  | .host => 0
  | .tentative => 1
  | .confirmed => 2

def RegionClass.byte : RegionClass → Byte
  | .bare => 0
  | .clear => 1
  | .slow => 2
  | .rug => 3
  | .darkRug => 4
  | .keepout => 5

def Motion.kindByte : Motion → Byte
  | .line .. => 0
  | .spin .. => 1
  | .dock .. => 2
  | .pause _ => 3

def EndKind.byte : EndKind → Byte
  | .completed => 0
  | .docked => 1
  | .dockMissed => 2
  | .blocked => 3
  | .blockedZone => 4
  | .cliffStop => 5
  | .bumpStop => 6
  | .stall => 7
  | .cancelled => 8
  | .flushed => 9
  | .lifted => 10
  | .linkLost => 11

def Mode.byte : Mode → Byte
  | .config => 0
  | .active => 1
  | .stopping => 2
  | .halted => 3
  | .parking => 4
  | .parked => 5
  | .waking => 6

def HaltReason.byte : HaltReason → Byte
  | .none => 0
  | .lifted => 1
  | .linkLost => 2

def NoticeKind.byte : NoticeKind → Byte
  | .zoneChanged => 0
  | .recordCreated => 1
  | .recordMerged => 2
  | .recordConfirmed => 3
  | .recordRetired => 4
  | .observationDropped => 5
  | .dockMade => 6
  | .dockLost => 7

def NoticeCause.byte : NoticeCause → Byte
  | .odometry => 0
  | .poseFix => 1
  | .table => 2
  | .host => 3
  | .tentative => 4
  | .confirmed => 5
  | .replaced => 6
  | .aged => 7
  | .tableFull => 8

def CliffState.byte : CliffState → Byte
  | .clear => 0
  | .suspect => 1
  | .tripped => 2

def Store.byte : Store → Byte
  | .idle => 0
  | .writing _ _ => 1

/-- A one-byte field whose value may be none: 0xFF (R179). -/
def optByte {α : Type} (code : α → Byte) : Option α → Byte
  | none => 0xFF
  | some x => code x

/-- A slot and generation; slot 255 and generation 0 for none (R179). -/
def refBytes : Option Ref → List Byte
  | none => [255, 0]
  | some r => [toByte r.slot, r.generation]

/-- A number as a two-byte field. -/
def int16 (v : Int) : List Byte := halfBytes (toHalf v)

/-! ### Bodies (R179) -/

/-- Offsets 8 to 15 of the record body: the geometry by kind. -/
def geometryBytes (h : Hazard) : List Byte :=
  match h.circle?, h.rect? with
  | some c, _ => int16 c.cx ++ int16 c.cy ++ int16 c.r ++ int16 h.dockHeading
  | none, some b => int16 b.x0 ++ int16 b.y0 ++ int16 b.x1 ++ int16 b.y1
  | none, none => []

/-- The order of a rectangle; a circle reads 0 (R3). -/
def Hazard.order (h : Hazard) : Nat :=
  match h.rect? with
  | some b => b.order
  | none => 0

/-- The record body, 18 bytes (R179); absent fields read 0 (R3). -/
def recordBody (cfg : Settings) (ref : Ref) (r : Record) : List Byte :=
  [toByte ref.slot, ref.generation, r.hazard.kind.byte,
    r.source.byte + (if r.pinned then 4 else 0) + 8 * (recordState cfg r).byte,
    toByte r.confidence, toByte r.age, toByte r.hits, toByte r.hazard.order] ++
    geometryBytes r.hazard ++ int16 (r.hazard.limit?.getD 0)

/-- Offset 2 of the segment body: a LINE's direction (R179). -/
def Motion.directionByte (m : Motion) : Byte := flagByte m.isReverse

/-- Offset 3 of the segment body: a LINE's hold flag, a set one as 1 whatever value other than 0 was sent (R83, R179;
log 32). -/
def Motion.holdByte : Motion → Byte
  | .line _ _ _ hold => flagByte hold
  | _ => 0

/-- Offsets 4 and 5 of the segment body (R179). -/
def Motion.amount : Motion → Int
  | .line _ d _ _ => d
  | .spin a _ => a
  | .dock d _ => d
  | .pause t => t

/-- The segment body as taken, offsets 0 to 7 (R179). -/
def segmentBody (g : Segment) : List Byte :=
  [toByte g.tag, g.motion.kindByte, g.motion.directionByte, g.motion.holdByte] ++
    int16 g.motion.amount ++ int16 g.motion.speed

/-- The completion body, with the number of records left (R179). -/
def completionBody (c : Completion) (left : Nat) : List Byte :=
  [toByte c.segment.tag, c.segment.motion.kindByte, c.outcome.byte, flagByte c.cancelSeen] ++
    int16 c.travelled ++ refBytes c.record ++ [toByte c.retries] ++ halfBytes c.endTime ++ [toByte left]

/-- The notice body, with the number of notices left (R179). -/
def noticeBody (n : Notice) (left : Nat) : List Byte :=
  [n.kind.byte] ++ refBytes n.ref ++ [optByte RecordKind.byte n.recordKind, optByte NoticeCause.byte n.cause] ++
    int16 n.x ++ int16 n.y ++ [optByte RegionClass.byte n.zone] ++ halfBytes n.time ++ [toByte left]

/-- Offset 7 of the status body: FL in bits 7-6 down to RC in bits 1-0 (R179). -/
def cliffByte (q : Quad Cliff) : Byte :=
  64 * q.fl.state.byte + 16 * q.fc.state.byte + 4 * q.fr.state.byte + q.rc.state.byte

/-- Offset 8 of the status body: bumpers, lift switches and docked (R139, R179). -/
def switchByte (s : State) : Byte :=
  flagByte s.floor.bumpers.left.switch.debounced + 2 * flagByte s.floor.bumpers.right.switch.debounced +
    4 * flagByte s.floor.lifts.left.debounced + 8 * flagByte s.floor.lifts.right.debounced +
    16 * flagByte s.dock.docked

/-- The status body, from the state of each owner as it stands (R179, R182). -/
def statusBody (s : State) : List Byte :=
  [s.modes.mode.byte, s.modes.haltReason.byte, s.latches.toByte, toByte s.segments.queue.length,
    toByte s.segments.completions.length, toByte s.link.notices.length,
    optByte (fun c : Context => toByte c.segment.tag) s.segments.running, cliffByte s.floor.cliffs, switchByte s,
    s.modes.store.byte, toByte s.pose.u] ++ halfBytes s.link.timeBase

/-! ### Answering -/

/-- A response frame: the echoed code, the result and the body, 20 bytes, unused bytes 0 (R179). -/
def frame (code : Byte) (result : ResultCode) (body : List Byte) : List Byte :=
  code :: result.byte :: padTo 18 body

/-- The result of a request becomes the new response frame (R176). -/
def respond (code : Byte) (result : ResultCode) (body : List Byte) (s : State) : State :=
  { s with link := { s.link with response := frame code result body } }

/-- What a load of the link-silence timer gives: a `link_timeout` of 0 stops it (R178). -/
def silenceLoad (cfg : Settings) : Countdown :=
  if linkTimeout cfg = 0 then .stopped else .running (linkTimeout cfg)

/-- The first `n` bytes of the present response frame go out on the data-out line (R176). -/
def shiftOut (n : Nat) (s : State) : State :=
  { s with link := { s.link with dataOut := s.link.response.take n } }

/-- An accepted frame: the present response is shifted out and the link-silence timer is loaded, before the frame is
routed (R176, R178). What goes out past the twentieth byte of a longer transaction is not held (log 37). -/
def acceptFrame (s : State) : State :=
  { s with link := { s.link with dataOut := s.link.response, silence := silenceLoad s.config } }

/-- A transaction during start-up is discarded, and the STARTING frame is shifted out (R176). -/
def discardInStartUp (n : Nat) (s : State) : State :=
  { s with link := { s.link with dataOut := startingFrame.take n } }

/-- A request frame: accepted and routed once start-up has ended; discarded during start-up (R176, log 5). -/
def onRequest (act : State → State) (s : State) : Result :=
  match s.power with
  | .ready => .next (refresh (act (acceptFrame s)))
  | .startUp _ => .next (discardInStartUp 20 s)
  | .off => .next s

/-- An event on a part whose start-up has ended; without power and during start-up it has no effect (log 4). -/
def onEvent (act : State → State) (s : State) : Result :=
  match s.power with
  | .ready => .next (refresh (act s))
  | _ => .next s

end Sys2Proof.Machine
end

