-- ==== Sys2Proof/Machine/Table.lean ====
section
/-! DEFINITION. The Hazard Table's slots: reading, writing and freeing one, the live records in slot order, the
lowest free slot and the pinned count (R1, R2, R8), and the scan for a point (R23). -/

namespace Sys2Proof.Machine

/-- What a slot holds. -/
def slotAt (t : Table) (k : Nat) : Slot := t.toList.getD k freshSlot

/-- The table with slot `k` changed. -/
def setSlot (t : Table) (k : Nat) (x : Slot) : Table := t.setIfInBounds k x

/-- A live record with the slot and generation that name it. -/
structure Live where
  ref : Ref
  record : Record
  deriving DecidableEq, Repr

/-- The live records of slots numbered from `k`, in ascending slot order. -/
def liveFrom : Nat → List Slot → List Live
  | _, [] => []
  | k, x :: xs =>
    match x.record with
    | some r => ⟨⟨k, x.generation⟩, r⟩ :: liveFrom (k + 1) xs
    | none => liveFrom (k + 1) xs

/-- The live records of the table, in ascending slot order. -/
def liveRecords (t : Table) : List Live := liveFrom 0 t.toList

/-- The lowest free slot (01): none when every slot is live. -/
def lowestFree (t : Table) : Option Nat := t.toList.findIdx? (fun x => x.record.isNone)

/-- The pinned count (R8). -/
def pinnedCount (t : Table) : Nat := t.toList.countP (fun x => (x.record.map Record.pinned).getD false)

/-- A record placed in a slot: a free slot goes live and its generation advances by one, 255 wrapping to 0; a live
slot keeps its generation (R2). -/
def placeRecord (t : Table) (k : Nat) (r : Record) : Table :=
  let x := slotAt t k
  setSlot t k ⟨if x.record.isNone then x.generation + 1 else x.generation, some r⟩

/-- A victim freed and its slot made live again in one change: the generation advances by one (R2, R147). -/
def replaceRecord (t : Table) (k : Nat) (r : Record) : Table :=
  setSlot t k ⟨(slotAt t k).generation + 1, some r⟩

/-- A slot freed, its generation kept (R2). -/
def freeSlot (t : Table) (k : Nat) : Table := setSlot t k ⟨(slotAt t k).generation, none⟩

/-- A new HOST record (R12, R20): confidence 15, age 0, hits 0, observed flag clear. -/
def hostRecord (hazard : Hazard) (pinned : Bool) (hits : Nat) : Record :=
  ⟨hazard, .host, pinned, 15, 0, hits, false⟩

/-- The scan of R23: the live rectangle that contains the point and comes first by order, then by slot. -/
def scan (t : Table) (x y : Int) : Option Live :=
  leastBy (fun l => (l.record.hazard.rect?.map Rect.order).getD 0)
    ((liveRecords t).filter fun l => (l.record.hazard.rect?.map (fun b => b.contains x y)).getD false)

/-- The class of a point and its deciding record (R22, R23). -/
def classAt (t : Table) (x y : Int) : ClassResult :=
  match scan t x y with
  | some l => ⟨l.record.hazard.regionClass, some l.ref⟩
  | none => bareResult

/-- The speed limit a class carries: the record's own, else the class default (R25). -/
def hazardLimit (cfg : Settings) (h : Hazard) : Option Nat :=
  match h with
  | .slow _ l => some (l.getD (slowLimit cfg))
  | .rug _ l | .darkRug _ l => some (l.getD (rugLimit cfg))
  | _ => none

/-- The speed limit at a point (R25). -/
def limitAt (cfg : Settings) (t : Table) (x y : Int) : Option Nat :=
  (scan t x y).bind fun l => hazardLimit cfg l.record.hazard

/-- The dock heading of the live DOCK record in the lowest slot (R160). -/
def lowestDockHeading (t : Table) : Option Nat :=
  ((liveRecords t).find? fun l => l.record.hazard.isDock).map fun l => l.record.hazard.dockHeading

end Sys2Proof.Machine
end

