-- ==== Sys2Proof/Machine/Zones.lean ====
section
/-! DEFINITION. The notice queue (R180, R181) and the Region Classifier: the two points (R26, R27), the zone limit
(R29) and the ZONE_CHANGED notice (R31). -/

namespace Sys2Proof.Machine

/-- A notice offered to the queue: it joins the tail when fewer than 16 are held, loading the notice timer when the
queue was empty; otherwise it is discarded and NOTICE_OVERFLOW is latched (R180, R181). -/
def offerNotice (n : Notice) (s : State) : State :=
  if s.link.notices.length < 16 then
    { s with link := { s.link with
        notices := s.link.notices ++ [n]
        noticeTimer := if s.link.notices.isEmpty then .running (noticeDelay s.config) else s.link.noticeTimer } }
  else { s with latches := { s.latches with noticeOverflow := true } }

/-- The robot centre in millimetres (R26, R35). -/
def Pose.px (p : Pose) : Int := floorDiv p.xUm 1000

/-- The robot centre in millimetres (R26, R35). -/
def Pose.py (p : Pose) : Int := floorDiv p.yUm 1000

/-- The point `probe_distance` ahead along a direction (R27, R70). -/
def probeFrom (cfg : Settings) (px py : Int) (d : Direction) : Int × Int :=
  (px + floorDiv (probeDistance cfg * d.c) 4096, py + floorDiv (probeDistance cfg * d.s) 4096)

/-- The motion of the running segment when it is a LINE or a DOCK (R27, R54). -/
def State.straightRunning (s : State) : Option Context :=
  s.segments.running.filter fun c => c.segment.motion.isStraight

/-- The probe point: ahead of the centre while a LINE or a DOCK runs, the centre point otherwise (R27). -/
def State.probePoint (s : State) : Int × Int :=
  match s.straightRunning with
  | some c => probeFrom s.config s.pose.px s.pose.py (directionOf s.pose.heading c.segment.motion.isReverse)
  | none => (s.pose.px, s.pose.py)

/-- The smaller of two speed limits, a missing one counting as no limit (R29). -/
def minLimit : Option Nat → Option Nat → Option Nat
  | some a, some b => some (min a b)
  | some a, none => some a
  | none, b => b

/-- Both points classified as the pose, the table and the running segment stand (R28, R29). -/
def classification (s : State) : Zones :=
  let probe := s.probePoint
  { centre := classAt s.table s.pose.px s.pose.py
    probe := classAt s.table probe.1 probe.2
    limit := minLimit (limitAt s.config s.table s.pose.px s.pose.py) (limitAt s.config s.table probe.1 probe.2) }

/-- The kind of record that decides a class; BARE has none (R31). -/
def RegionClass.recordKind : RegionClass → Option RecordKind
  | .bare => none
  | .clear => some .clear
  | .slow => some .slow
  | .rug => some .rug
  | .darkRug => some .darkRug
  | .keepout => some .keepout

/-- The ZONE_CHANGED notice for a new centre result (R31). -/
def zoneNotice (cause : NoticeCause) (s : State) (z : ClassResult) : Notice :=
  ⟨.zoneChanged, z.record, z.cls.recordKind, some cause, s.pose.px, s.pose.py, some z.cls, s.link.timeBase⟩

/-- Classify with no notice: at a segment start, at the end of start-up and at RESTART (R22, R28, R34). -/
def classifySilently (s : State) : State := { s with zones := classification s }

/-- Classify at a pose update or a table change: both results and the zone limit are replaced, and ZONE_CHANGED is
offered when the centre result differs from the previous one (R28, R31, R32). -/
def classify (cause : NoticeCause) (s : State) : State :=
  let t := classifySilently s
  if t.zones.centre = s.zones.centre then t else offerNotice (zoneNotice cause t t.zones.centre) t

end Sys2Proof.Machine
end

