-- ==== Sys2Proof/Machine/Clearance.lean ====
section
/-! DEFINITION. The Clearance Monitor's arithmetic: the path test of one record (R55, R56), the constraining record
(R57), the terms of the allowance (R58 to R61) and the blocking tests (R64, R65). -/

namespace Sys2Proof.Machine

/-- How far ahead a circle's centre lies along a direction (R55, step 2). -/
def alongOf (px py : Int) (d : Direction) (c : Circle) : Int :=
  floorDiv ((c.cx - px) * d.c + (c.cy - py) * d.s) 4096

/-- How far to one side of the motion line it lies (R55, step 3). -/
def lateralOf (px py : Int) (d : Direction) (c : Circle) : Int :=
  floorDiv ((((c.cy - py) * d.c - (c.cx - px) * d.s).natAbs : Nat) : Int) 4096

/-- The reach of a circle (R55, step 4). -/
def reachOf (cfg : Settings) (u : Nat) (c : Circle) : Int :=
  (robotRadius cfg + c.r + clearMargin cfg + u : Nat)

/-- The gap of a circle in the path, none when it is not in the path (R55, R56). -/
def gapOf (cfg : Settings) (u : Nat) (px py : Int) (d : Direction) (c : Circle) : Option Nat :=
  let along := alongOf px py d c
  let reach := reachOf cfg u c
  if along ≤ -reach ∨ reach ≤ lateralOf px py d c then none else some (along - reach).toNat

/-- A record in the path, with its gap. -/
structure InPath where
  ref : Ref
  gap : Nat
  deriving DecidableEq, Repr

/-- The path test of a live record (R55); a rectangle is not in the record set (R54). -/
def inPath (cfg : Settings) (u : Nat) (px py : Int) (d : Direction) (l : Live) : Option InPath :=
  l.record.hazard.circle?.bind fun c => (gapOf cfg u px py d c).map fun g => ⟨l.ref, g⟩

/-- The record set: every live circle record, the DOCK records left out during a DOCK (R54). -/
def recordSet (withDocks : Bool) (t : Table) : List Live :=
  (liveRecords t).filter fun l => withDocks || !l.record.hazard.isDock

/-- The constraining record with its gap: the smallest gap, ties to the lowest slot (R57). -/
def constraining (cfg : Settings) (t : Table) (p : Pose) (d : Direction) (withDocks : Bool) : Option InPath :=
  leastBy InPath.gap ((recordSet withDocks t).filterMap (inPath cfg p.u p.px p.py d))

/-- The gap term (R60). -/
def gapTermOf (cfg : Settings) (gap : Nat) : Nat := gap * guardGain cfg / 4

/-- The travelled distance of a LINE or a DOCK in mm (R77). -/
def travelledMm (c : Context) : Int := truncDiv c.progress 1000

/-- The remaining distance of a LINE or a DOCK (R59, R77). -/
def remainingMm (c : Context) : Int := c.segment.motion.distance - travelledMm c

/-- The remaining term (R59). -/
def remainingTerm (cfg : Settings) (remaining : Int) : Nat :=
  max 10 (floorDiv (remaining * guardGain cfg) 4).toNat

/-- The terms of the allowance that are present, the speed term and the remaining term first (R58). -/
def allowanceTerms (s : State) (c : Context) (gap : Option Nat) : List Nat :=
  [min c.segment.motion.speed (speedMax s.config), remainingTerm s.config (remainingMm c)] ++
    (gap.map (gapTermOf s.config)).toList ++ s.zones.limit.toList ++
    (if limpThreshold s.config < s.pose.u then [limpSpeed s.config] else []) ++
    (if s.anySuspect then [creepSpeed s.config] else []) ++
    (if c.segment.motion.isDock then [creepSpeed s.config] else [])

/-- The least of the terms (R58). -/
def leastTerm : List Nat → Nat
  | [] => 0
  | x :: xs => xs.foldl min x

/-- The KEEPOUT test of the probe class (R65). -/
def zoneBlock (probe : ClassResult) : PendingCause :=
  match probe with
  | ⟨.keepout, some r⟩ => .blockedZone r
  | _ => .none

/-- The pending cause of an evaluation: BLOCKED before BLOCKED_ZONE (R64, R65). -/
def blockingCause (s : State) (found : Option InPath) : PendingCause :=
  match found with
  | some p => if p.gap < blockGap s.config then .blocked p.ref else zoneBlock s.zones.probe
  | none => zoneBlock s.zones.probe

/-- What an evaluation finds for a running LINE or DOCK (R53 to R65). -/
def evaluation (s : State) (c : Context) : Clearance :=
  let found := constraining s.config s.table s.pose
    (directionOf s.pose.heading c.segment.motion.isReverse) (!c.segment.motion.isDock)
  let gap := found.map InPath.gap
  { gap := gap
    constraining := found.map InPath.ref
    gapTerm := gap.map (gapTermOf s.config)
    allowance := some (leastTerm (allowanceTerms s c gap))
    pending := blockingCause s found }

/-- A reported gap: at most 65534, 65535 for none (R57). -/
def reportedGap : Option Nat → Nat
  | none => 65535
  | some g => min g 65534

/-- A reported gap term: at most 65535, 65535 for none (R71). -/
def reportedTerm : Option Nat → Nat
  | none => 65535
  | some g => min g 65535

end Sys2Proof.Machine
end

