-- ==== Sys2Proof/Machine/Wheels.lean ====
section
/-! DEFINITION. The wheels: what a setpoint's move does to its guard, its stall timer and its direction level (R104,
R113, R115), the slewing of one setpoint (R103), heading hold (R106) and the stops (R107 to R111). -/

namespace Sys2Proof.Machine

/-- A reload of a stall timer: elapsed 0, the length doubled on a rug (R115). -/
def stallReload (cfg : Settings) (rug : Bool) : StallTimer :=
  ⟨0, if rug then 2 * stallTime cfg else stallTime cfg, rug⟩

/-- The guard that starts when a setpoint reaches 0 from `v`; with `reversal_guard` 0 it does not run (R104). -/
def guardFrom (cfg : Settings) (v : Int) : Option Guard :=
  if reversalGuard cfg = 0 then none else some ⟨decide (0 < v), 0, reversalGuard cfg⟩

/-- A wheel's setpoint set to `v`. Reaching 0 starts the guard and stops the stall timer; leaving 0 clears the guard
and reloads the stall timer; the direction level follows a setpoint that is not 0 (R104, R113, R115). -/
def moveSetpoint (cfg : Settings) (rug : Bool) (v : Int) (w : Wheel) : Wheel :=
  { w with
    setpoint := v
    guard := if v = 0 then (if w.setpoint = 0 then w.guard else guardFrom cfg w.setpoint) else none
    stall := if v = 0 then none else if w.setpoint = 0 then some (stallReload cfg rug) else w.stall
    forward := if v = 0 then w.forward else decide (0 < v) }

/-- A wheel set to rest at once: its setpoint and its target are 0 (R105, R108, R110, R114). -/
def restWheel (cfg : Settings) (w : Wheel) : Wheel := { moveSetpoint cfg false 0 w with target := 0 }

/-- Both wheels set to rest at once (R108 to R110, R114; the targets at a RELEASE: log 33). -/
def zeroWheels (cfg : Settings) (d : Drive) : Drive := { d with wheels := d.wheels.map (restWheel cfg) }

/-- A wheel whose target is 0, its setpoint left to slew there (R107, R110). -/
def zeroTarget (w : Wheel) : Wheel := { w with target := 0 }

/-- Both targets at 0 (R107, R110). -/
def zeroTargets (d : Drive) : Drive := { d with wheels := d.wheels.map zeroTarget }

/-- A running guard leaves the setpoint at 0 against the sign opposite to the one it records (R104). -/
def guardHolds (g : Option Guard) (target : Int) : Bool :=
  match g with
  | none => false
  | some g => if g.wasPositive then decide (target < 0) else decide (0 < target)

/-- A setpoint after one slew step toward its target (R103). -/
def slewed (cfg : Settings) (g : Option Guard) (setpoint target : Int) : Int :=
  if setpoint = 0 then
    (if guardHolds g target then 0 else approach target (accelStep cfg) 0)
  else if signOf setpoint = signOf target then
    (if setpoint.natAbs < target.natAbs then approach target (accelStep cfg) setpoint
     else approach target (decelStep cfg) setpoint)
  else approach 0 (decelStep cfg) setpoint

/-- One wheel's slew step toward a target, which is clamped first (R103, R105). -/
def slewWheel (cfg : Settings) (rug : Bool) (target : Int) (w : Wheel) : Wheel :=
  let t := clampTo (-(speedMax cfg : Int)) (speedMax cfg) target
  let w := { w with target := t }
  moveSetpoint cfg rug (slewed cfg w.guard w.setpoint t) w

/-- The correction of heading hold about a base, limited to a quarter of it (R106, R107). -/
def correction (cfg : Settings) (base : Int) (hold : Option Nat) (heading : Nat) : Int :=
  match hold with
  | none => 0
  | some h =>
    let limit : Int := (base.natAbs / 4 : Nat)
    clampTo (-limit) limit (truncDiv (headingDiff h heading * headingGain cfg) 16)

/-- The left and right targets about a base: base - corr and base + corr (R106, R107). -/
def steered (cfg : Settings) (base : Int) (hold : Option Nat) (heading : Nat) : Pair Int :=
  let corr := correction cfg base hold heading
  ⟨base - corr, base + corr⟩

/-- The left and right targets of a running SPIN (R78). -/
def spinTargets (cfg : Settings) (angle : Int) (speed : Nat) (turned : Int) : Pair Int :=
  let remaining : Int := if 0 < angle then angle - turned else - angle + turned
  let m : Int := if (spinSlowWindow cfg : Int) < remaining then speed else min speed (creepSpeed cfg)
  if 0 < angle then ⟨-m, m⟩ else ⟨m, -m⟩

/-- What the slew step does to the stop state first: HALT passes to REVERSE, and a ramp base moves toward 0 (R107,
R110). -/
def advanceStop (cfg : Settings) : Stop → Stop
  | .ramp (some r) => .ramp (some (approach 0 (decelStep cfg) r))
  | .backoffHalt => .backoffReverse 0
  | stop => stop

/-- The ramp base that a RAMP of a held LINE or DOCK forms from the setpoints (R107). -/
def rampBase (held : Bool) (d : Drive) : Option Int :=
  if held then some (truncDiv (d.wheels.left.setpoint + d.wheels.right.setpoint) 2) else none

/-- A RAMP stop. With no ramp base, or one of 0, both targets are 0 from the request on; with another one they are formed
about it at the slew steps. An unjam ends (R107). -/
def beginRamp (held : Bool) (d : Drive) : Drive :=
  { (if (rampBase held d).getD 0 = 0 then zeroTargets d else d) with stop := .ramp (rampBase held d), unjam := none }

/-- The entry of a BACKOFF into CLOSE, whose targets are 0; its progress is held no longer (R110; log 41). -/
def closeBackoff (d : Drive) : Drive := { zeroTargets d with stop := .backoffClose }

/-- A HARD stop (R108). -/
def hardStop (cfg : Settings) (d : Drive) : Drive :=
  { zeroWheels cfg d with stop := .hard, unjam := none }

/-- A RELEASE stop (R109). -/
def releaseStop (cfg : Settings) (d : Drive) : Drive :=
  { zeroWheels cfg d with stop := .release, unjam := none, releaseLatch := true }

/-- A BACKOFF stop in its HALT phase (R110). -/
def backoffStop (cfg : Settings) (d : Drive) : Drive :=
  { zeroWheels cfg d with stop := .backoffHalt, unjam := none }

/-- A stop asked for during a running segment, combined with the stop in progress (R110, R111). `straight` says that
the segment is a LINE or a DOCK, `held` that it has a hold target. -/
def combineStop (cfg : Settings) (straight held : Bool) (kind : StopKind) (d : Drive) : Drive :=
  match kind, d.stop with
  | .ramp, .none => beginRamp held d
  | .ramp, _ => d
  | .hard, .hard => d
  | .hard, .release => d
  | .hard, _ => hardStop cfg d
  | .backoff, .none =>
    if straight && d.unjam.isNone then backoffStop cfg d else hardStop cfg d
  | .backoff, .ramp _ => if straight then backoffStop cfg d else hardStop cfg d
  | .backoff, .hard => d
  | .backoff, .release => d
  | .backoff, _ => hardStop cfg d
  | .release, .release => d
  | .release, _ => releaseStop cfg d

/-- A stop asked for with no segment running: a RELEASE sets the release latch, and the others find the wheels at
rest (R109, R110, log 16). -/
def idleStop (cfg : Settings) (kind : StopKind) (d : Drive) : Drive :=
  match kind with
  | .release => { zeroWheels cfg d with releaseLatch := true }
  | _ => d

/-- The forced rest: setpoints and targets to 0, an unjam or a BACKOFF move in progress ends, and the stop state is otherwise
left to its owner (R114). -/
def forcedRest (cfg : Settings) (d : Drive) : Drive :=
  { zeroWheels cfg d with
    unjam := none
    stop := if d.stop.moveInProgress then .backoffClose else d.stop }

/-- A wheel's target in an unjam: against its setpoint, or against its target where the setpoint is 0 (R117). -/
def unjamTarget (cfg : Settings) (w : Wheel) : Int :=
  let v : Int := min (creepSpeed cfg) (speedMax cfg)
  if w.setpoint ≠ 0 then - signOf w.setpoint * v else - signOf w.target * v

/-- A stall timer that runs is reloaded (R115). -/
def reloadStall (cfg : Settings) (rug : Bool) (w : Wheel) : Wheel :=
  { w with stall := w.stall.map fun _ => stallReload cfg rug }

/-- An unjam begins: the retry count rises and both stall timers are reloaded (R116, R117). -/
def beginUnjam (cfg : Settings) (rug : Bool) (d : Drive) : Drive :=
  { d with
    retries := d.retries + 1
    unjam := some ⟨0, d.wheels.map (unjamTarget cfg)⟩
    wheels := d.wheels.map (reloadStall cfg rug) }

end Sys2Proof.Machine
end

