-- ==== Sys2Proof/Machine/Ops.lean ====
section
/-! DEFINITION. The operations that several blocks share: asking for a stop, handing an end cause (R90, R91), an
evaluation and what it hands on (R53), flushing and writing completion records (R92, R96), mode transitions (R164 to
R169), the start of a segment (R88), and the settling that brings about at an event all that the rules attach to it
(R87, R92, R169; log 6). -/

namespace Sys2Proof.Machine

/-! ### Stops and end causes -/

/-- A stop asked of the Drive Controller (R107 to R111). -/
def requestStop (kind : StopKind) (s : State) : State :=
  match s.segments.running with
  | some c =>
    { s with drive := combineStop s.config c.segment.motion.isStraight c.holdTarget.isSome kind s.drive }
  | none => { s with drive := idleStop s.config kind s.drive }

/-- The stop kind that belongs to an end cause; CLIFF_STOP and BUMP_STOP have theirs from the response table, and a
completed PAUSE has none (R90). -/
def stopForCause (cfg : Settings) (m : Motion) : EndKind → Option StopKind
  | .cliffStop | .bumpStop => none
  | .lifted => some .release
  | .stall => some (if stallResponseCode cfg = 1 then .release else .ramp)
  | .completed => if m.isPause then none else some .ramp
  | _ => some .ramp

/-- Whether a later cause replaces the standing one (R91). -/
def replacesCause (m : Motion) (standing new : EndKind) : Bool :=
  match new with
  | .lifted => true
  | .linkLost => decide (standing ≠ .lifted)
  | .completed => decide (standing = .cancelled) && (match m with | .line .. | .spin .. => true | _ => false)
  | _ => false

/-- Whether an end cause of this kind is taken by a running segment: as its first cause, or over the standing one
(R90, R91). -/
def takesCause (c : Context) (kind : EndKind) : Bool :=
  match c.cause with
  | none => true
  | some old => replacesCause c.segment.motion old.kind kind

/-- LIFTED and LINK_LOST end the wait for an observation result: a response whose result is pending is discarded
(R132, R136; log 17). -/
def dropPendingResponse (kind : EndKind) (f : Floor) : Floor :=
  match kind with
  | .lifted | .linkLost => if f.resultPending then { f with response := none } else f
  | _ => f

/-- The cause set on the running segment, whose phase becomes STOPPING (R90). -/
def withCause (c : Context) (kind : EndKind) (record : Option Ref) : Context :=
  { c with cause := some ⟨kind, record⟩, phase := .stopping }

/-- An end cause handed to the Segment Controller: the first one stands, a later one is dropped but for the
exceptions of R91, and one that is taken asks for its stop (R90). -/
def handCause (kind : EndKind) (record : Option Ref) (s : State) : State :=
  match s.segments.running with
  | none => s
  | some c =>
    if takesCause c kind then
      let t := { s with
        segments := { s.segments with running := some (withCause c kind record) }
        floor := dropPendingResponse kind s.floor }
      match stopForCause s.config c.segment.motion kind with
      | some stop => requestStop stop t
      | none => t
    else s

/-- What an evaluation's pending cause hands on (R64, R65). -/
def handPending (p : PendingCause) (s : State) : State :=
  match p with
  | .none => s
  | .blocked r => handCause .blocked (some r) s
  | .blockedZone r => handCause .blockedZone (some r) s

/-- An evaluation: every item none when no LINE or DOCK runs; otherwise the items of R52, and a blocking cause is
handed to the Segment Controller (R53, R64, R65). -/
def evaluate (s : State) : State :=
  match s.straightRunning with
  | none => { s with clearance := freshClearance }
  | some c => handPending (evaluation s c).pending { s with clearance := evaluation s c }

/-- A table change is an event at the Classifier and at the Clearance Monitor (R9). -/
def tableChanged (s : State) : State := evaluate (classify .table s)

/-! ### Completion records -/

/-- The travelled field of a completion record (R93). -/
def travelledOf (c : Context) : Int :=
  match c.segment.motion with
  | .line .. | .dock .. => travelledMm c
  | _ => c.progress

/-- The record of a segment removed while it waited (R94, R96). -/
def waitingRecord (kind : EndKind) (cancelled : Bool) (time : Half) (g : Segment) : Completion :=
  ⟨g, kind, cancelled, 0, none, 0, time⟩

/-- The record of the running segment (R93). -/
def runningRecord (s : State) (c : Context) (cause : EndCause) : Completion :=
  ⟨c.segment, cause.kind, c.cancelSeen, travelledOf c, cause.record, s.drive.retries, s.link.timeBase⟩

/-- The test of R92: a cause stands, both setpoints are 0, no BACKOFF move and no unjam is in progress, and no
protective response holds its result pending. -/
def State.canWrite (s : State) : Bool :=
  match s.segments.running with
  | some c =>
    c.cause.isSome && s.atRest && !s.drive.stop.moveInProgress && s.drive.unjam.isNone && !s.floor.resultPending
  | none => false

/-- The running segment's record joins the completion queue, the segment leaves the head of its queue and its context
is discarded; the stop, the protective response and an undock that it began are over (R92, R108, R119, R159). -/
def writeRecord (s : State) : State :=
  match s.segments.running with
  | some c =>
    match c.cause with
    | some cause =>
      { s with
        segments := ⟨s.segments.queue.tail, none, s.segments.completions ++ [runningRecord s c cause]⟩
        drive := { s.drive with stop := .none, unjam := none }
        floor := { s.floor with response := none }
        dock := if s.dock.undock = .leaving then { s.dock with undock := .none } else s.dock }
    | none => s
  | none => s

/-- The record written where the test of R92 holds. -/
def writeIfDue (s : State) : State := if s.canWrite then writeRecord s else s

/-- The waiting segments: every entry but a running head (R73). -/
def Segments.waiting (g : Segments) : List Segment := if g.running.isSome then g.queue.tail else g.queue

/-- A flush of the waiting segments: a FLUSHED record each, oldest first, and each leaves the queue (R96), whether a
segment runs or not (log 35). -/
def flushWaiting (s : State) : State :=
  { s with segments := { s.segments with
      queue := if s.segments.running.isSome then s.segments.queue.take 1 else []
      completions := s.segments.completions ++
        s.segments.waiting.map (waitingRecord .flushed false s.link.timeBase) } }

/-! ### Mode transitions -/

/-- A transition into a mode. Entry into CONFIG, HALTED or PARKED brings the forced rest and clears the cliff sensors
(R114, R120); the wake timer runs in WAKING alone (R164, log 18). -/
def enterMode (m : Mode) (s : State) : State :=
  if isRestMode m then
    { s with
      modes := { s.modes with mode := m, wakeTimer := none }
      drive := forcedRest s.config s.drive
      floor := { s.floor with cliffs := clearCliffs } }
  else { s with modes := { s.modes with mode := m, wakeTimer := none } }

/-- A fall to HALTED with its reason; it latches HALT and MODE_REACHED (R165, R168). -/
def fallToHalted (reason : HaltReason) (s : State) : State :=
  let t := enterMode .halted s
  latchHalt { t with modes := { t.modes with haltReason := reason, haltPending := false } }

/-- STOPPING is left at the writing that leaves the queue empty: to HALTED when halt is pending, to CONFIG otherwise
(R167, R168). -/
def leaveStopping (s : State) : State :=
  if s.modes.mode = .stopping ∧ s.segments.queue = [] then
    (if s.modes.haltPending then fallToHalted .linkLost s else latchModeReached (enterMode .config s))
  else s

/-- PARKING is over when the queue is empty, the wheels are at rest and no guard runs (R169). -/
def State.drained (s : State) : Bool := s.segments.queue.isEmpty && s.atRest && s.guardsClear

/-- PARKING becomes PARKED by the part's own doing, and latches MODE_REACHED (R165, R169). -/
def parkIfDrained (s : State) : State :=
  if s.modes.mode = .parking ∧ s.drained then latchModeReached (enterMode .parked s) else s

/-! ### The start of a segment -/

/-- The start conditions (R87). -/
def State.canStart (s : State) : Bool :=
  !s.segments.queue.isEmpty && s.segments.running.isNone &&
    (decide (s.modes.mode = .active) || decide (s.modes.mode = .parking)) && s.atRest &&
    decide (s.dock.undock ≠ .wait)

/-- The hold target at the start: the start heading for a held LINE (R76), the lowest DOCK record's dock heading or
the start heading for a DOCK (R160), none otherwise. -/
def holdTargetAt (s : State) (m : Motion) : Option Nat :=
  match m with
  | .line _ _ _ hold => if hold then some s.pose.heading else none
  | .dock _ _ => some ((lowestDockHeading s.table).getD s.pose.heading)
  | _ => none

/-- Whether the start of a segment begins an undock wait (R88, R159). -/
def beginsUndock (s : State) (m : Motion) : Bool := !m.isDock && s.dock.docked

/-- The context and the drive state that the start of a segment makes, and its undock wait (R74, R88, R101, R159). -/
def openContext (g : Segment) (s : State) : State :=
  let undocks := beginsUndock s g.motion
  { s with
    segments := { s.segments with
      running := some ⟨g, s.pose.heading, holdTargetAt s g.motion, 0, if undocks then .waiting else .moving, none, false⟩ }
    drive := { s.drive with stop := .none, unjam := none, retries := 0, releaseLatch := false }
    dock := if undocks then { s.dock with undock := .wait, undockTimer := some 0 } else s.dock }

/-- A DOCK that starts while docked takes DOCKED after its admission check (R160). -/
def dockedAtStart (m : Motion) (s : State) : State :=
  if m.isDock && s.dock.docked then handCause .docked none s else s

/-- The head segment starts: its context, the classification, the evaluation that is its admission check (R88). -/
def startSegment (s : State) : State :=
  match s.segments.queue with
  | [] => s
  | g :: _ => dockedAtStart g.motion (evaluate (classifySilently (openContext g s)))

/-! ### Settling -/

/-- One thing that the present state makes due at this event: the record of R92 with the mode transition that waits
for it, or the start of R87. -/
def settleOnce (s : State) : State :=
  if s.canWrite then leaveStopping (writeRecord s) else if s.canStart then startSegment s else s

/-- Records and starts until none is due; each removes a segment or starts one, so the fuel of `settle` is enough. -/
def settleLoop : Nat → State → State
  | 0, s => s
  | n + 1, s => if s.canWrite || s.canStart then settleLoop n (settleOnce s) else s

/-- All that the rules bring about at the event itself: completion records (R92), segment starts (R87) and the end of
PARKING (R169). -/
def settle (s : State) : State := parkIfDrained (settleLoop (2 * s.segments.queue.length + 2) s)

end Sys2Proof.Machine
end

