-- ==== Sys2Proof/Machine/Odometry.lean ====
section
/-! DEFINITION. The encoder ticks (R36, R37) and the odometry update (R38 to R42), with the progress that a period's
travel and turn give the running segment (R77, R79, R161) and a BACKOFF move (R110). -/

namespace Sys2Proof.Machine

/-! ### Ticks -/

/-- The tick of a change of levels; a change of both channels at once is none (R36). -/
def quadTick : Levels → Levels → Int
  | ⟨false, false⟩, ⟨true, false⟩ => 1
  | ⟨true, false⟩, ⟨true, true⟩ => 1
  | ⟨true, true⟩, ⟨false, true⟩ => 1
  | ⟨false, true⟩, ⟨false, false⟩ => 1
  | ⟨false, false⟩, ⟨false, true⟩ => -1
  | ⟨false, true⟩, ⟨true, true⟩ => -1
  | ⟨true, true⟩, ⟨true, false⟩ => -1
  | ⟨true, false⟩, ⟨false, false⟩ => -1
  | _, _ => 0

/-- A sampled count, held within -2000..2000 (R37). -/
def sampled (ticks : Int) : Int := clampTo (-2000) 2000 ticks

/-! ### The update -/

/-- The period's travel in half-micrometres (R38, step 1). -/
def dHalf (cfg : Settings) (dl dr : Int) : Int := (dl + dr) * tickLength cfg

/-- The numerator of the heading step (R40, step 1). -/
def headingAcc (p : Pose) (dl dr : Int) : Int := p.remainder + (dr - dl) * 4096

/-- The period's heading step `dh` (R40, step 2). -/
def headingStep (cfg : Settings) (p : Pose) (dl dr : Int) : Int := floorDiv (headingAcc p dl dr) (spinTicks cfg)

/-- The period's signed centre travel in um (R44). -/
def centreTravel (cfg : Settings) (dl dr : Int) : Int := truncDiv (dHalf cfg dl dr) 2

/-- A position after its step, clamped to the frame (R39). -/
def stepUm (from_ d trig : Int) : Int := clampTo (-30000000) 30000000 (from_ + truncDiv (d * trig) 8192)

/-- The distance since fix after the update (R41). -/
def grownDistance (cfg : Settings) (p : Pose) (dl dr : Int) : Nat :=
  min (p.distance + (dHalf cfg dl dr).natAbs / 2) 2147483647

/-- The uncertainty from the last fix and a distance since it (R42). -/
def grownU (cfg : Settings) (uFix distance : Nat) : Nat := min 255 (uFix + distance / 1000 * driftRate cfg / 1000)

/-- The pose after one odometry update, its tick counters sampled to 0 (R37 to R42). -/
def odometry (cfg : Settings) (dl dr : Int) (p : Pose) : Pose :=
  { p with
    xUm := stepUm p.xUm (dHalf cfg dl dr) (cosAt (trigIndex p.heading))
    yUm := stepUm p.yUm (dHalf cfg dl dr) (sinAt (trigIndex p.heading))
    heading := ((p.heading + headingStep cfg p dl dr) % 4096).toNat
    remainder := (headingAcc p dl dr - headingStep cfg p dl dr * spinTicks cfg).toNat
    distance := grownDistance cfg p dl dr
    u := grownU cfg p.uFix (grownDistance cfg p dl dr)
    ticks := ⟨0, 0⟩ }

/-! ### Progress -/

/-- What an odometry update hands on (R44): the centre travel in um and the heading step. -/
structure Handed where
  travel : Int
  turn : Int
  deriving DecidableEq, Repr

/-- What the update of the present period hands on. -/
def handedOn (s : State) : Handed :=
  let dl := sampled s.pose.ticks.left
  let dr := sampled s.pose.ticks.right
  ⟨centreTravel s.config dl dr, headingStep s.config s.pose dl dr⟩

/-- The progress of a segment after a period: travel in its own direction for a LINE or a DOCK, the turn for a SPIN,
held within its limits (R77, R79). -/
def grownProgress (h : Handed) (c : Context) : Int :=
  match c.segment.motion with
  | .line .. | .dock .. => clampTo (-32767000) 32767000 (c.progress + c.segment.motion.sigma * h.travel)
  | .spin .. => clampTo (-32767) 32767 (c.progress + h.turn)
  | .pause _ => c.progress

/-- The ending of its own that a segment's progress calls for: COMPLETED (R77, R79) or DOCK_MISSED (R161). -/
def ownEnding (c : Context) : Option EndKind :=
  match c.segment.motion with
  | .line .. => if remainingMm c ≤ 2 then some .completed else none
  | .dock .. => if remainingMm c ≤ 0 then some .dockMissed else none
  | .spin angle _ =>
    if 0 < angle then (if angle ≤ c.progress then some .completed else none)
    else if c.progress ≤ angle then some .completed else none
  | .pause _ => none

/-- The Segment Controller takes a period's travel and turn for the segment of tag `tag`, which ran when the period
ended; a segment started within the expiry takes none of it (R44, R92; log 24). -/
def takeProgress (tag : Option Nat) (h : Handed) (s : State) : State :=
  match s.segments.running with
  | none => s
  | some c =>
    if some c.segment.tag = tag then
      let d := { c with progress := grownProgress h c }
      let t := { s with segments := { s.segments with running := some d } }
      match ownEnding d with
      | some kind => handCause kind none t
      | none => t
    else s

/-- The direction of the running segment; +1 with none. -/
def State.sigma (s : State) : Int := (s.segments.running.map fun c => c.segment.motion.sigma).getD 1

/-- The Drive Controller takes a period's travel for a BACKOFF move in REVERSE: its progress grows against the
segment's direction, 0 and up, and CLOSE is entered at `backoff_distance` (R101, R110; log 19). -/
def takeBackoff (h : Handed) (s : State) : State :=
  match s.drive.stop with
  | .backoffReverse p =>
    let q := max 0 (p - s.sigma * h.travel)
    { s with drive :=
        if (backoffDistance s.config : Int) * 1000 ≤ q then closeBackoff s.drive
        else { s.drive with stop := .backoffReverse q } }
  | _ => s

end Sys2Proof.Machine
end

