-- ==== Sys2Proof/WellFormed.lean ====
section
/-! DEFINITION. What makes a command well formed: the checks that are on the command alone, not on the state. -/

namespace Sys2Proof

/-- The four block actions of a control period in one order: the update's effects, then the slew step. -/
def canonicalOrder : List PeriodPart := [.segment, .drive, .monitor, .slew]

/-- A short transaction has fewer than 20 whole bytes, an unknown request a code above 0x17 (R176), and the order of
a control period names each of its four block actions once (log 7). -/
def Instr.wellFormed : Instr → Bool
  | .shortTransaction bytes => decide (bytes < 20)
  | .unknownRequest code => decide (0x17 < code.toNat)
  | .controlPeriodExpiry order => order.isPerm canonicalOrder
  | _ => true

end Sys2Proof
end

