-- ==== Sys2Proof/Machine/DriveCmds.lean ====
section
/-! DEFINITION. The control period (R102 to R107, R110) with its slew step, the encoder edges (R36), and the timers of
the Drive Controller: stall (R115, R116), unjam (R117) and reversal guard (R104). -/

namespace Sys2Proof.Machine

/-- An event that is a change of an input line: the line takes its new level whether the part watches it or not, and
the event acts from the end of start-up (section 10.4). -/
def onLine (change : Lines → Lines) (act : State → State) (s : State) : Result :=
  onEvent act { s with lines := change s.lines }

/-! ### The slew step -/

/-- Both targets at one value. -/
def bothTargets (v : Int) : Pair Int := ⟨v, v⟩

/-- The targets that the running segment calls for when no stop and no unjam is in progress (R76, R78, R81, R89,
R105, R106). -/
def segmentTargets (s : State) : Pair Int :=
  match s.segments.running with
  | none => bothTargets 0
  | some c =>
    if c.phase = .waiting ∨ c.phase = .stopping then bothTargets 0
    else
      match c.segment.motion with
      | .spin angle speed => spinTargets s.config angle speed c.progress
      | .line .. | .dock .. =>
        steered s.config (c.segment.motion.sigma * (s.clearance.allowance.getD 0 : Nat)) c.holdTarget s.pose.heading
      | .pause _ => bothTargets 0

/-- The hold target of the running segment. -/
def State.holdTarget (s : State) : Option Nat := s.segments.running.bind Context.holdTarget

/-- The wheel targets of a slew step, with the stop state as the step has advanced it (R105, R107, R110, R117). -/
def slewTargets (s : State) : Pair Int :=
  match s.drive.stop with
  | .hard | .release | .backoffHalt | .backoffClose => bothTargets 0
  | .backoffReverse _ => bothTargets (- s.sigma * creepSpeed s.config)
  | .ramp none => bothTargets 0
  | .ramp (some r) => steered s.config r s.holdTarget s.pose.heading
  | .none =>
    match s.drive.unjam with
    | some u => u.targets
    | none => segmentTargets s

/-- The wheels are held at rest: the first row of R105. -/
def State.heldAtRest (s : State) : Bool := isRestMode s.modes.mode || s.lifted

/-- Both wheels after their slew step toward the targets (R103). -/
def slewWheels (s : State) : Pair Wheel :=
  let t := slewTargets s
  ⟨slewWheel s.config s.onRug t.left s.drive.wheels.left, slewWheel s.config s.onRug t.right s.drive.wheels.right⟩

/-- The slew step: the stop state advances, and both setpoints move toward their targets (R102, R103, R105). -/
def slewStep (s : State) : State :=
  let t := { s with drive := { s.drive with stop := advanceStop s.config s.drive.stop } }
  { t with drive := { t.drive with
      wheels := if t.heldAtRest then t.drive.wheels.map (restWheel t.config) else slewWheels t } }

/-! ### The control period -/

/-- The tick sample and the odometry update of a control period expiry, with the classification at the new pose (R37,
R38, R44). The control period timer starts again. -/
def periodUpdate (s : State) : State :=
  classify .odometry
    { s with
      pose := odometry s.config (sampled s.pose.ticks.left) (sampled s.pose.ticks.right) s.pose
      drive := { s.drive with periodMs := 0 } }

/-- One block's action in a control period expiry, with all that comes about at it. -/
def periodPart (tag : Option Nat) (h : Handed) (part : PeriodPart) (s : State) : State :=
  match part with
  | .segment => settle (takeProgress tag h s)
  | .drive => settle (takeBackoff h s)
  | .monitor => settle (evaluate s)
  | .slew => settle (slewStep s)

/-- The order in which the blocks act: as given, or the canonical one where it does not name each block once (log 7). -/
def orderOf (order : List PeriodPart) : List PeriodPart :=
  if order.isPerm canonicalOrder then order else canonicalOrder

/-- The tag of the segment that runs. -/
def State.runningTag (s : State) : Option Nat := s.segments.running.map fun c => c.segment.tag

/-- The effect of CONTROL_PERIOD_EXPIRY (R102). -/
def controlPeriodEffect (order : List PeriodPart) (s : State) : State :=
  (orderOf order).foldl (fun t part => periodPart s.runningTag (handedOn s) part t) (periodUpdate s)

/-- CONTROL_PERIOD_EXPIRY (R102). -/
def execControlPeriodExpiry (order : List PeriodPart) (s : State) : Result := onEvent (controlPeriodEffect order) s

/-! ### Encoder edges -/

/-- The encoder lines with one wheel's levels changed. -/
def setEncoder (wheel : Side) (v : Levels) (l : Lines) : Lines := { l with encoders := l.encoders.set wheel v }

/-- A tick of a wheel reloads its stall timer (R36, R115). -/
def tickReload (wheel : Side) (tick : Int) (s : State) : Drive :=
  if tick = 0 then s.drive
  else { s.drive with
    wheels := s.drive.wheels.set wheel (reloadStall s.config s.onRug (s.drive.wheels.get wheel)) }

/-- The effect of ENCODER_EDGE: the tick of the change joins the wheel's counter, and the new levels become the
reference (R36). -/
def encoderEffect (wheel : Side) (v : Levels) (s : State) : State :=
  let tick := quadTick (s.pose.levels.get wheel) v
  { s with
    pose := { s.pose with
      ticks := s.pose.ticks.set wheel (s.pose.ticks.get wheel + tick)
      levels := s.pose.levels.set wheel v }
    drive := tickReload wheel tick s }

/-- ENCODER_EDGE (R36). -/
def execEncoderEdge (wheel : Side) (a b : Bool) (s : State) : Result :=
  onLine (setEncoder wheel ⟨a, b⟩) (encoderEffect wheel ⟨a, b⟩) s

/-! ### Stall -/

/-- The running segment's phase becomes `p`. -/
def setPhase (p : Phase) (s : State) : State :=
  { s with segments := { s.segments with running := s.segments.running.map fun c => { c with phase := p } } }

/-- One wheel's stall timer reloaded where it still runs (R115). -/
def reloadWheel (wheel : Side) (s : State) : State :=
  { s with drive := { s.drive with
      wheels := s.drive.wheels.set wheel (reloadStall s.config s.onRug (s.drive.wheels.get wheel)) } }

/-- An unjam begins and is reported to the Segment Controller (R89, R116, R117). -/
def startUnjam (s : State) : State :=
  setPhase .unjam { s with drive := beginUnjam s.config s.onRug s.drive }

/-- An expired stall timer, by the state of the running segment (R116). -/
def stallExpired (wheel : Side) (s : State) : State :=
  match s.segments.running with
  | none => reloadWheel wheel s
  | some c =>
    if c.cause.isNone then
      if s.drive.retries < stallRetries s.config then startUnjam s
      else reloadWheel wheel (handCause .stall none s)
    else if s.drive.stop.moveInProgress then handCause .stall none (requestStop .hard s)
    else reloadWheel wheel (handCause .stall none s)

/-- A stall timer that runs on with its length doubled, since the centre is now on a rug (R115). -/
def doubleStall (wheel : Side) (t : StallTimer) (s : State) : State :=
  { s with drive := { s.drive with
      wheels := s.drive.wheels.set wheel
        { s.drive.wheels.get wheel with stall := some ⟨t.length, 2 * stallTime s.config, true⟩ } } }

/-- The effect of STALL_TIMER_EXPIRY: a timer that has reached its length (R115, R116). -/
def stallTimerEffect (wheel : Side) (s : State) : State :=
  match (s.drive.wheels.get wheel).stall with
  | none => s
  | some t =>
    if s.onRug ∧ ¬ t.doubled then doubleStall wheel t s
    else settle (stallExpired wheel s)

/-- STALL_TIMER_EXPIRY (R116). -/
def execStallTimerExpiry (wheel : Side) (s : State) : Result := onEvent (stallTimerEffect wheel) s

/-- The phase after an unjam's end: UNJAM gives way to MOVING (R89, R117). -/
def endUnjamPhase (c : Context) : Context := if c.phase = .unjam then { c with phase := .moving } else c

/-- The effect of UNJAM_END (R117). -/
def unjamEndEffect (s : State) : State :=
  if s.drive.unjam.isSome then
    { s with
      drive := { s.drive with unjam := none }
      segments := { s.segments with running := s.segments.running.map endUnjamPhase } }
  else s

/-- UNJAM_END (R117). -/
def execUnjamEnd (s : State) : Result := onEvent unjamEndEffect s

/-- A wheel whose guard has cleared (R104). -/
def clearGuard (wheel : Side) (s : State) : State :=
  { s with drive := { s.drive with
      wheels := s.drive.wheels.set wheel { s.drive.wheels.get wheel with guard := none } } }

/-- The effect of REVERSAL_GUARD_EXPIRY: the guard clears, and PARKING may be over (R104, R169). -/
def guardEffect (wheel : Side) (s : State) : State :=
  if (s.drive.wheels.get wheel).guard.isSome then settle (clearGuard wheel s) else s

/-- REVERSAL_GUARD_EXPIRY (R104). -/
def execReversalGuardExpiry (wheel : Side) (s : State) : Result := onEvent (guardEffect wheel) s

end Sys2Proof.Machine
end

