-- ==== Sys2Proof/Machine/DockCmds.lean ====
section
/-! DEFINITION. The Dock Contact Monitor: the contact (R156, R157), the completion of a make (R156, R161) and the
undock wait (R159). Charge enable is an output (R158). -/

namespace Sys2Proof.Machine

/-- A notice of the Dock Contact Monitor (R156, R157). -/
def dockNotice (kind : NoticeKind) (s : State) : Notice :=
  ⟨kind, none, none, none, s.pose.px, s.pose.py, none, s.link.timeBase⟩

/-- The dock contact line at a new level. -/
def setContactLine (made : Bool) (l : Lines) : Lines := { l with dockContact := made }

/-- The effect of DOCK_CONTACT_MAKE: from open to made, the settle timer starts at 0 (R156). -/
def contactMakeEffect (s : State) : State :=
  if s.dock.contact then s
  else { s with dock := { s.dock with contact := true, settle := some ⟨0, dockSettle s.config⟩ } }

/-- DOCK_CONTACT_MAKE (R156). -/
def execDockContactMake (s : State) : Result := onLine (setContactLine true) contactMakeEffect s

/-- The dock after a break: the settle stops, docked clears, and a departure in LEAVING is over, whether docked was
still set or not (R157, R159; log 29). -/
def brokenDock (d : Dock) : Dock :=
  { d with
    contact := false
    settle := none
    docked := false
    undock := if d.undock = .leaving then .none else d.undock }

/-- The effect of DOCK_CONTACT_BREAK: DOCK_LOST is offered for a break that is no departure (R157). -/
def contactBreakEffect (s : State) : State :=
  if s.dock.contact then
    let t := { s with dock := brokenDock s.dock }
    if s.dock.docked ∧ s.dock.undock = .none then offerNotice (dockNotice .dockLost s) t else t
  else s

/-- DOCK_CONTACT_BREAK (R157). -/
def execDockContactBreak (s : State) : Result := onLine (setContactLine false) contactBreakEffect s

/-- DOCKED handed to a running DOCK (R156, R161). -/
def handDocked (s : State) : State :=
  match s.segments.running with
  | some c => if c.segment.motion.isDock then handCause .docked none s else s
  | none => s

/-- A make that completes (R156). -/
def completeMake (s : State) : State :=
  handDocked (offerNotice (dockNotice .dockMade s) { s with dock := { s.dock with docked := true, settle := none } })

/-- The effect of DOCK_SETTLE_EXPIRY (R156). -/
def dockSettleEffect (s : State) : State := if s.dock.settle.isSome then settle (completeMake s) else s

/-- DOCK_SETTLE_EXPIRY (R156). -/
def execDockSettleExpiry (s : State) : Result := onEvent dockSettleEffect s

/-- The segment that began the wait, at its end: MOVING where it has no end cause (R159). -/
def leaveWaiting (c : Context) : Context := if c.cause.isNone ∧ c.phase = .waiting then { c with phase := .moving } else c

/-- The end of the undock wait: LEAVING while the segment that began it runs, NONE otherwise (R159). -/
def endUndockWait (s : State) : State :=
  { s with
    dock := { s.dock with undock := if s.segments.running.isSome then .leaving else .none, undockTimer := none }
    segments := { s.segments with running := s.segments.running.map leaveWaiting } }

/-- The effect of UNDOCK_WAIT_EXPIRY (R159). -/
def undockWaitEffect (s : State) : State := if s.dock.undockTimer.isSome then settle (endUndockWait s) else s

/-- UNDOCK_WAIT_EXPIRY (R159). -/
def execUndockWaitExpiry (s : State) : Result := onEvent undockWaitEffect s

end Sys2Proof.Machine
end

