-- ==== Sys2Proof/Machine/FloorCmds.lean ====
section
/-! DEFINITION. The floor sensors: cliff samples (R121 to R125), bumpers (R126 to R128), lift switches (R126, R129) and
the protective responses to their triggers (R130 to R136). -/

namespace Sys2Proof.Machine

/-! ### Cliff samples -/

/-- A sensor's room point (R121). -/
def roomPoint (s : State) (sensor : CliffSensor) : Int × Int :=
  let d := directionOf s.pose.heading false
  let f := forwardOffset s.config sensor
  let l := leftOffset s.config sensor
  (s.pose.px + floorDiv (f * d.c - l * d.s) 4096, s.pose.py + floorDiv (f * d.s + l * d.c) 4096)

/-- A live confirmed DROP record is near a room point (R122). -/
def nearDrop (s : State) (p : Int × Int) : Bool :=
  (liveRecords s.table).any fun l =>
    match l.record.hazard with
    | .drop c => isConfirmed s.config l.record && decide (chebyshev c.cx c.cy p.1 p.2 ≤ c.r + mergeDistance s.config)
    | _ => false

/-- The lenient criteria apply to a sensor's sample (R122). -/
def lenientApply (s : State) (sensor : CliffSensor) : Bool :=
  decide (s.zones.centre.cls = .darkRug) && !nearDrop s (roomPoint s sensor)

/-- The effective rug threshold (R124). -/
def effectiveRug (cfg : Settings) : Nat := min (rugThreshold cfg) (floorThreshold cfg - 1)

/-- A dark sample counted, and the sensor tripped where the count has reached the persistence (R123, R124). -/
def countDark (persist : Nat) (c : Cliff) : Cliff :=
  let n := min 15 (c.count + 1)
  ⟨if c.state = .tripped then .tripped else if persist ≤ n then .tripped else c.state, n⟩

/-- A sensor after one sample (R123, R124). -/
def judge (cfg : Settings) (lenient : Bool) (reflectance : Nat) (c : Cliff) : Cliff :=
  if floorThreshold cfg ≤ reflectance then clearCliff
  else if lenient then
    (if effectiveRug cfg ≤ reflectance then ⟨if c.state = .tripped then .tripped else .suspect, 0⟩
     else countDark (rugPersist cfg) c)
  else countDark (floorPersist cfg) c

/-! ### Protective responses -/

/-- HARD takes the place of a trigger's own stop: during a BACKOFF move or an unjam (R133), and in a running segment's
WAITING phase (R130, R135; log 26). -/
def hardInstead (s : State) (c : Context) : Bool :=
  s.drive.stop.moveInProgress || s.drive.unjam.isSome || decide (c.phase = .waiting)

/-- A sensor is trailing when it lies behind the centre along the segment's direction (R130). -/
def isTrailing (cfg : Settings) (m : Motion) (sensor : CliffSensor) : Bool :=
  decide (m.sigma * forwardOffset cfg sensor < 0)

/-- `cliff_response`: 0 HARD, 1 BACKOFF (10). -/
def cliffResponse (cfg : Settings) : StopKind := if cliffResponseCode cfg = 1 then .backoff else .hard

/-- `bump_response`: 0 RAMP, 1 HARD, 2 BACKOFF (10). -/
def bumpResponse (cfg : Settings) : StopKind :=
  match bumpResponseCode cfg with
  | 0 => .ramp
  | 1 => .hard
  | _ => .backoff

/-- The stop that a CLIFF trigger asks for (R130, R133, R134). A segment that has just started takes the same one, so a
BACKOFF move runs and lowers its travelled distance (R137; log 34). -/
def cliffStop (s : State) (sensor : CliffSensor) : Option StopKind :=
  match s.segments.running with
  | none => none
  | some c =>
    if hardInstead s c then some .hard
    else
      match c.segment.motion with
      | .line .. | .dock .. => some (if isTrailing s.config c.segment.motion sensor then .hard else cliffResponse s.config)
      | .spin .. => some .hard
      | .pause _ => none

/-- The stop that a BUMP trigger asks for (R133, R134, R135), of a segment that has just started too (R137; log 34). -/
def bumpStop (s : State) : Option StopKind :=
  match s.segments.running with
  | none => none
  | some c =>
    if c.segment.motion.isDock then none
    else if hardInstead s c then some .hard
    else
      match c.segment.motion with
      | .line reverse _ _ _ => some (if reverse then .hard else bumpResponse s.config)
      | .spin .. => some .hard
      | _ => none

/-- The cause that a BUMP hands: none during a DOCK (R131, R133). -/
def bumpCause (s : State) : Option EndKind :=
  match s.segments.running with
  | some c => if c.segment.motion.isDock then none else some .bumpStop
  | none => none

/-- An observation as it is handed on: its point clamped (R136). -/
def observationAt (isDrop : Bool) (p : Int × Int) : Observation := ⟨isDrop, clampRoom p.1, clampRoom p.2⟩

/-- The cause of a trigger handed to the running segment. As its first cause it makes the protective response, whose
observation waits behind those handed before it (R131, R136). -/
def triggerCause (kind : EndKind) (o : Observation) (s : State) : State :=
  match s.segments.running with
  | none => s
  | some c =>
    if c.cause.isNone then
      { handCause kind none s with
        floor := { s.floor with response := some ⟨o, .pending s.ageing.observations.length⟩ } }
    else handCause kind none s

/-- The observation handed to the Observation and Ageing Unit (R136). -/
def handObservation (o : Observation) (s : State) : State :=
  { s with ageing := { s.ageing with observations := s.ageing.observations ++ [o] } }

/-- A CLIFF or BUMP trigger: its stop is asked for, its cause handed and its observation handed on (R130 to R136). -/
def fireTrigger (stop : Option StopKind) (cause : Option EndKind) (o : Observation) (s : State) : State :=
  let t := match stop with
    | some kind => requestStop kind s
    | none => s
  let u := match cause with
    | some kind => triggerCause kind o t
    | none => t
  settle (handObservation o u)

/-- A CLIFF trigger from a sensor, at the room point of the sample that tripped it (R125, R130). -/
def cliffTrigger (sensor : CliffSensor) (p : Int × Int) (s : State) : State :=
  fireTrigger (cliffStop s sensor) (some .cliffStop) (observationAt true p) s

/-- The effect of CLIFF_SAMPLE: ignored outside the taking modes (R120), otherwise judged, and a sensor that becomes
TRIPPED fires (R125). -/
def cliffEffect (sensor : CliffSensor) (reflectance : Byte) (s : State) : State :=
  if isTaking s.modes.mode then
    let old := s.floor.cliffs.get sensor
    let new := judge s.config (lenientApply s sensor) reflectance.toNat old
    let t := { s with floor := { s.floor with cliffs := s.floor.cliffs.set sensor new } }
    if new.state = .tripped ∧ old.state ≠ .tripped then cliffTrigger sensor (roomPoint s sensor) t else t
  else s

/-- CLIFF_SAMPLE (R121). -/
def execCliffSample (sensor : CliffSensor) (reflectance : Byte) (s : State) : Result :=
  onEvent (cliffEffect sensor reflectance) s

/-! ### Switches -/

/-- A switch whose line takes a new level: away from the debounced level the debounce timer starts at 0, back to it the
timer stops; the same level again is no change (R126, log 25). -/
def lineChanged (level : Bool) (w : Switch) : Switch :=
  if w.raw = level then w
  else { w with raw := level, timer := if level = w.debounced then none else some 0 }

/-- A debounce that completes: the debounced level takes the raw level and the timer stops (R126). -/
def debounced (w : Switch) : Switch := { w with debounced := w.raw, timer := none }

/-- The bumper lines with one level changed. -/
def setBumperLine (side : Side) (level : Bool) (l : Lines) : Lines := { l with bumpers := l.bumpers.set side level }

/-- A bumper whose line changes; a return to released before its press has completed clears its counted mark (R127). -/
def bumperChanged (level : Bool) (b : Bumper) : Bumper :=
  { switch := lineChanged level b.switch
    counted := b.counted && (level || b.switch.debounced) }

/-- The effect of BUMPER_LINE_CHANGE (R126, R127). -/
def bumperLineEffect (side : Side) (level : Bool) (s : State) : State :=
  { s with floor := { s.floor with
      bumpers := s.floor.bumpers.set side (bumperChanged level (s.floor.bumpers.get side)) } }

/-- BUMPER_LINE_CHANGE (R126). -/
def execBumperLineChange (side : Side) (pressed : Bool) (s : State) : Result :=
  onLine (setBumperLine side pressed) (bumperLineEffect side pressed) s

/-- A press debounce is running (R127). -/
def Bumper.pressRunning (b : Bumper) : Bool := b.switch.raw && !b.switch.debounced && b.switch.timer.isSome

/-- The contact of a bump (R127). -/
inductive Contact where
  | one (side : Side)
  | both
  deriving DecidableEq, Repr

/-- The trig index of the contact direction (R128). -/
def contactIndex (heading : Nat) : Contact → Nat
  | .one .left => (trigIndex heading + 8) % 64
  | .one .right => (trigIndex heading + 56) % 64
  | .both => trigIndex heading

/-- The contact point of a bump, before its clamp (R128). -/
def contactPoint (s : State) (c : Contact) : Int × Int :=
  let d : Int := (robotRadius s.config + bumpRadius s.config : Nat)
  let j := contactIndex s.pose.heading c
  (s.pose.px + floorDiv (d * cosAt j) 4096, s.pose.py + floorDiv (d * sinAt j) 4096)

/-- A BUMP trigger (R127, R135). -/
def bumpTrigger (c : Contact) (s : State) : State :=
  fireTrigger (bumpStop s) (bumpCause s) (observationAt false (contactPoint s c)) s

/-- One bumper written. -/
def setBumper (side : Side) (b : Bumper) (s : State) : State :=
  { s with floor := { s.floor with bumpers := s.floor.bumpers.set side b } }

/-- A press debounce that completes: the counted mark is cleared, and in a taking mode an unmarked bumper fires, once
for both where the other's press debounce runs, which is then marked (R127). -/
def pressCompleted (side : Side) (s : State) : State :=
  let b := s.floor.bumpers.get side
  let other := s.floor.bumpers.get (otherSide side)
  let t := setBumper side ⟨debounced b.switch, false⟩ s
  if isTaking s.modes.mode ∧ ¬ b.counted then
    if other.pressRunning then bumpTrigger .both (setBumper (otherSide side) { other with counted := true } t)
    else bumpTrigger (.one side) t
  else t

/-- The effect of BUMPER_DEBOUNCE_EXPIRY: a press or a release completes (R126, R127). -/
def bumperDebounceEffect (side : Side) (s : State) : State :=
  let b := s.floor.bumpers.get side
  if b.switch.timer.isNone then s
  else if b.switch.raw ∧ ¬ b.switch.debounced then pressCompleted side s
  else setBumper side { b with switch := debounced b.switch } s

/-- BUMPER_DEBOUNCE_EXPIRY (R127). -/
def execBumperDebounceExpiry (side : Side) (s : State) : Result := onEvent (bumperDebounceEffect side) s

/-! ### Lift -/

/-- The lift lines with one level changed. -/
def setLiftLine (side : Side) (level : Bool) (l : Lines) : Lines := { l with lifts := l.lifts.set side level }

/-- The effect of LIFT_LINE_CHANGE (R126). -/
def liftLineEffect (side : Side) (level : Bool) (s : State) : State :=
  { s with floor := { s.floor with lifts := s.floor.lifts.set side (lineChanged level (s.floor.lifts.get side)) } }

/-- LIFT_LINE_CHANGE (R126). -/
def execLiftLineChange (side : Side) (active : Bool) (s : State) : Result :=
  onLine (setLiftLine side active) (liftLineEffect side active) s

/-- A LIFT trigger: RELEASE, a flush with LIFTED for the running segment, whose record is written at once, and the fall
to HALTED (R97, R132, R168). Waiting segments are flushed with no segment running too (R97, R100; log 35). A cancel that
comes next finds the record written (R92, R95; log 39). -/
def liftTrigger (s : State) : State :=
  fallToHalted .lifted (writeIfDue (handCause .lifted none (flushWaiting (requestStop .release s))))

/-- The robot has become lifted: the forced rest, and a LIFT trigger in a taking mode (R114, R129). -/
def becomeLifted (s : State) : State :=
  let t := { s with drive := forcedRest s.config s.drive }
  if isTaking s.modes.mode then liftTrigger t else t

/-- The effect of LIFT_DEBOUNCE_EXPIRY (R126, R129). -/
def liftDebounceEffect (side : Side) (s : State) : State :=
  let w := s.floor.lifts.get side
  if w.timer.isNone then s
  else
    let t := { s with floor := { s.floor with lifts := s.floor.lifts.set side (debounced w) } }
    if ¬ s.lifted ∧ t.lifted then becomeLifted t else t

/-- LIFT_DEBOUNCE_EXPIRY (R129). -/
def execLiftDebounceExpiry (side : Side) (s : State) : Result := onEvent (liftDebounceEffect side) s

end Sys2Proof.Machine
end

