-- ==== Sys2Proof/Machine/LinkCmds.lean ====
section
/-! DEFINITION. The link's own commands: transactions (R176), STATUS (R182), NOTICE_READ (R180), link silence (R178)
and the notice timer (R181). -/

namespace Sys2Proof.Machine

/-- STARTUP_TRANSACTION: discarded, and the STARTING frame goes out; it can only come during start-up (R176). -/
def execStartupTransaction (bytes : Nat) (s : State) : Result :=
  match s.power with
  | .startUp _ => .next (discardInStartUp bytes s)
  | _ => .next s

/-- SHORT_TRANSACTION: discarded; the leading bytes of the response go out, and the response frame and the
link-silence timer are unchanged (R176). -/
def execShortTransaction (bytes : Nat) (s : State) : Result :=
  match s.power with
  | .ready => .next (shiftOut bytes s)
  | .startUp _ => .next (discardInStartUp bytes s)
  | .off => .next s

/-- NOP: accepted, so the link-silence timer is reloaded; the response frame stays (R176). -/
def execNop (s : State) : Result := onRequest id s

/-- UNKNOWN_REQUEST: answered UNKNOWN, its code echoed and a body of zeros (R176). -/
def execUnknownRequest (code : Byte) (s : State) : Result := onRequest (respond code .unknown []) s

/-- The effect of STATUS: the status body, and then the latched causes are cleared (R182). -/
def statusEffect (s : State) : State :=
  { respond 0x01 .ok (statusBody s) s with latches := clearLatches }

/-- STATUS (R182). -/
def execStatus (s : State) : Result := onRequest statusEffect s

/-- The effect of NOTICE_READ: the oldest notice leaves; the timer stops when the queue becomes empty (R180, R181). -/
def noticeReadEffect (s : State) : State :=
  match s.link.notices with
  | [] => respond 0x17 .empty [0] s
  | n :: rest =>
    let t := respond 0x17 .ok (noticeBody n rest.length) s
    { t with link := { t.link with
        notices := rest
        noticeTimer := if rest.isEmpty then .stopped else t.link.noticeTimer } }

/-- NOTICE_READ (R180). -/
def execNoticeRead (s : State) : Result := onRequest noticeReadEffect s

/-- A LINK_LOST trigger: a flush with the cause LINK_LOST, and a fall to HALTED, at once when no segment remains,
otherwise by way of STOPPING with halt pending (R97, R168, R178). A running segment at rest is written at once, and a cancel
that comes next finds the record written (R92, R95; log 39). -/
def linkLost (s : State) : State :=
  let t := writeIfDue (handCause .linkLost none (flushWaiting s))
  if t.segments.queue.isEmpty then fallToHalted .linkLost t
  else
    let u := enterMode .stopping t
    { u with modes := { u.modes with haltPending := true } }

/-- The effect of LINK_SILENCE_EXPIRY: a running timer becomes expired, and in a taking mode LINK_LOST fires (R178). -/
def linkSilenceEffect (s : State) : State :=
  match s.link.silence with
  | .running _ =>
    let t := { s with link := { s.link with silence := .expired } }
    if isTaking t.modes.mode then settle (linkLost t) else t
  | _ => s

/-- LINK_SILENCE_EXPIRY (R178). -/
def execLinkSilenceExpiry (s : State) : Result := onEvent linkSilenceEffect s

/-- The effect of NOTICE_TIMER_EXPIRY: a running timer becomes expired (R181). -/
def noticeTimerEffect (s : State) : State :=
  match s.link.noticeTimer with
  | .running _ => { s with link := { s.link with noticeTimer := .expired } }
  | _ => s

/-- NOTICE_TIMER_EXPIRY (R181). -/
def execNoticeTimerExpiry (s : State) : Result := onEvent noticeTimerEffect s

end Sys2Proof.Machine
end

