-- ==== Sys2Proof/Machine/Image.lean ====
section
/-! DEFINITION. The non-volatile image (R172): its CRC-16, its bytes (log 10), the writing of it from a snapshot (R173)
and the reading of it at start-up (R20, R171). -/

namespace Sys2Proof.Machine

/-- One bit of the CRC: polynomial x^16 + x^12 + x^5 + 1, most significant bit first (R172). -/
def crcBit (c : Half) : Half := if c.msb then (c <<< 1) ^^^ 0x1021 else c <<< 1

/-- One byte of the CRC (R172). -/
def crcByte (c : Half) (b : Byte) : Half :=
  let x := c ^^^ (b ++ (0 : Byte) : BitVec 16)
  crcBit (crcBit (crcBit (crcBit (crcBit (crcBit (crcBit (crcBit x)))))))

/-- The CRC over bytes: initial value all ones, no final inversion (R172). -/
def crc16 (bytes : List Byte) : Half := bytes.foldl crcByte 0xFFFF

/-- A stored record: kind, the four geometry fields, order and speed limit, 12 bytes (R172, log 10). -/
def storedRecord (h : Hazard) : List Byte :=
  [h.kind.byte] ++ geometryBytes h ++ [toByte h.order] ++ int16 (h.limit?.getD 0)

/-- The pinned records, in ascending slot order (R173). -/
def pinnedHazards (t : Table) : List Hazard :=
  ((liveRecords t).filter fun l => l.record.pinned).map fun l => l.record.hazard

/-- Everything before the CRC: the 47 values in item order, the pinned-record count, the records (R172). -/
def imageData (cfg : Settings) (t : Table) : List Byte :=
  cfg.toList.flatMap int16 ++ [toByte (pinnedHazards t).length] ++ (pinnedHazards t).flatMap storedRecord

/-- The image of a snapshot: the data and its CRC (R172, R173). -/
def imageOf (cfg : Settings) (t : Table) : List Byte :=
  imageData cfg t ++ halfBytes (crc16 (imageData cfg t))

/-- The two-byte field at an offset. -/
def halfAt (bytes : List Byte) (k : Nat) : Half := halfOf (bytes.getD k 0) (bytes.getD (k + 1) 0)

/-- The pinned-record count of an image (R172): the byte after the 47 values. -/
def imageCount (bytes : List Byte) : Nat := (bytes.getD 94 0).toNat

/-- The image is good when it is long enough for what it says it holds, its CRCs agree and its count is 32 or less
(R172, log 10). -/
def imageGood (bytes : List Byte) : Bool :=
  let n := 95 + 12 * imageCount bytes
  decide (imageCount bytes ≤ 32) && decide (n + 2 ≤ bytes.length) &&
    decide (crc16 (bytes.take n) = halfAt bytes n)

/-- The configuration of a good image: each value taken as CONFIG_SET would take it, in item order (R172,
log 31). -/
def imageSettings (bytes : List Byte) : Settings :=
  (List.range 47).foldl
    (fun cfg k => setItem cfg (k + 1) (takeValue cfg (k + 1) (readValue (k + 1) (halfAt bytes (2 * k)))))
    factorySettings

/-- The hazards of a good image, each with its fields taken as RECORD_PUT takes them (R14, R172); a record whose kind
code is none of the eight is not placed (log 10). -/
def imageHazards (cfg : Settings) (bytes : List Byte) : List Hazard :=
  (List.range (imageCount bytes)).filterMap fun k =>
    let o := 95 + 12 * k
    takeHazard cfg (bytes.getD o 0) (bytes.getD (o + 9) 0) (halfAt bytes (o + 1)) (halfAt bytes (o + 3))
      (halfAt bytes (o + 5)) (halfAt bytes (o + 7)) (halfAt bytes (o + 10))

/-- The table after the start-up load: the records pinned, of source HOST, in slots 0 onward at generation 1 (R20). -/
def loadTable : Nat → List Hazard → Table → Table
  | _, [], t => t
  | k, h :: hs, t => loadTable (k + 1) hs (placeRecord t k (hostRecord h true 0))

/-- What start-up takes from the non-volatile memory: the bytes of a good image, none for a bad one (R171, R172). -/
def goodImage : NvImage → Option (List Byte)
  | .written bytes => if imageGood bytes then some bytes else none
  | _ => none

/-- The memory after the part was cut off: a store that was WRITING leaves an image whose CRC does not match (R173). -/
def nvAfterCut (s : State) : NvImage :=
  match s.modes.store with
  | .writing _ _ => .torn
  | .idle => s.nv

end Sys2Proof.Machine
end

