-- ==== Sys2Proof/Machine/ModeCmds.lean ====
section
/-! DEFINITION. The Mode Controller's commands: configuration (R175), mode requests (R166 to R169), RESTART (R174) and
the settings store (R173). -/

namespace Sys2Proof.Machine

/-! ### Configuration -/

/-- An item written, with what a change of it brings at once: `spin_ticks` sets the heading remainder to 0 (R45),
`age_interval` the ageing timer (R151). Writing the value held changes nothing (R175). -/
def writeItem (n : Nat) (v : Int) (s : State) : State :=
  if item s.config n = v then s
  else
    { s with
      config := setItem s.config n v
      pose := if n = 9 then { s.pose with remainder := 0 } else s.pose
      ageing := if n = 35 then { s.ageing with timer := 0 } else s.ageing }

/-- The effect of CONFIG_SET (R175). -/
def configSetEffect (it : Byte) (value : Half) (s : State) : State :=
  if s.modes.mode ≠ .config then respond 0x02 .mode [] s
  else if isItem it.toNat then
    let v := takeValue s.config it.toNat (readValue it.toNat value)
    respond 0x02 .ok ([it] ++ int16 v) (writeItem it.toNat v s)
  else respond 0x02 .badField [] s

/-- CONFIG_SET (R175). -/
def execConfigSet (it : Byte) (value : Half) (s : State) : Result := onRequest (configSetEffect it value) s

/-- The effect of CONFIG_GET (R175). -/
def configGetEffect (it : Byte) (s : State) : State :=
  if isItem it.toNat then respond 0x03 .ok (int16 (item s.config it.toNat)) s else respond 0x03 .badField [] s

/-- CONFIG_GET (R175). -/
def execConfigGet (it : Byte) (s : State) : Result := onRequest (configGetEffect it) s

/-! ### Mode requests -/

/-- A refusal with MODE: the body carries the present mode (R166). -/
def refuseMode (code : Byte) (s : State) : State := respond code .mode [s.modes.mode.byte] s

/-- A refusal with CONDITION: the body carries the debounced levels of both lift switches (R166). -/
def refuseCondition (code : Byte) (s : State) : State :=
  respond code .condition [flagByte s.floor.lifts.left.debounced, flagByte s.floor.lifts.right.debounced] s

/-- An accepted mode request answers OK with the mode after it (R166). -/
def answerMode (code : Byte) (s : State) : State := respond code .ok [s.modes.mode.byte] s

/-- The effect of MODE_ACTIVE (R166). -/
def modeActiveEffect (s : State) : State :=
  if s.modes.mode ≠ .config then refuseMode 0x04 s
  else if s.lifted then refuseCondition 0x04 s
  else settle (answerMode 0x04 (enterMode .active s))

/-- MODE_ACTIVE (R166). -/
def execModeActive (s : State) : Result := onRequest modeActiveEffect s

/-- MODE_CONFIG by way of a flush (R97, R167): to CONFIG at the request when the queue is empty after it, otherwise to
STOPPING. -/
def flushToConfig (s : State) : State :=
  let t := writeIfDue (handCause .flushed none (flushWaiting s))
  if t.segments.queue.isEmpty then enterMode .config t else enterMode .stopping t

/-- The effect of MODE_CONFIG (R166, R167). -/
def modeConfigEffect (s : State) : State :=
  match s.modes.mode with
  | .config => refuseMode 0x05 s
  | .halted | .parked => answerMode 0x05 (enterMode .config s)
  | _ => answerMode 0x05 (flushToConfig s)

/-- MODE_CONFIG (R167). -/
def execModeConfig (s : State) : Result := onRequest modeConfigEffect s

/-- The effect of PARK: PARKING, or PARKED at once when the part is idle and at rest with no guard running (R169). -/
def parkEffect (s : State) : State :=
  if s.modes.mode ≠ .active then refuseMode 0x06 s
  else if s.drained then answerMode 0x06 (enterMode .parked s)
  else settle (answerMode 0x06 (enterMode .parking s))

/-- PARK (R169). -/
def execPark (s : State) : Result := onRequest parkEffect s

/-- The mode WAKING with the wake timer started at 0 (R169). -/
def enterWaking (s : State) : State :=
  let t := enterMode .waking s
  { t with modes := { t.modes with wakeTimer := some 0 } }

/-- The effect of WAKE (R166, R169). -/
def wakeEffect (s : State) : State :=
  if s.modes.mode ≠ .parked then refuseMode 0x07 s
  else if s.lifted then refuseCondition 0x07 s
  else answerMode 0x07 (enterWaking s)

/-- WAKE (R169). -/
def execWake (s : State) : Result := onRequest wakeEffect s

/-- The effect of RESUME; the halt reason stays (R166). -/
def resumeEffect (s : State) : State :=
  if s.modes.mode ≠ .halted then refuseMode 0x08 s
  else if s.lifted then refuseCondition 0x08 s
  else settle (answerMode 0x08 (enterMode .active s))

/-- RESUME (R166). -/
def execResume (s : State) : Result := onRequest resumeEffect s

/-- The effect of WAKE_TIMER_EXPIRY: ACTIVE, MODE_REACHED latched, and segments added in WAKING start (R87, R169). -/
def wakeTimerEffect (s : State) : State :=
  if s.modes.mode = .waking ∧ s.modes.wakeTimer.isSome then settle (latchModeReached (enterMode .active s)) else s

/-- WAKE_TIMER_EXPIRY (R169). -/
def execWakeTimerExpiry (s : State) : Result := onEvent wakeTimerEffect s

/-! ### RESTART -/

/-- The drive at RESTART: released setpoints with their guards, nothing of the running segment, targets 0, the latch
clear; the direction levels and the control period timer go on (R118). -/
def restartDrive (cfg : Settings) (d : Drive) : Drive :=
  { zeroWheels cfg d with
    stop := .none
    unjam := none
    retries := 0
    releaseLatch := false }

/-- The floor monitor at RESTART: cliff and bump states cleared, the bumpers taking their lines' levels, the response
discarded, the lift switches kept (R140). -/
def restartFloor (lines : Lines) (f : Floor) : Floor :=
  { f with
    cliffs := clearCliffs
    bumpers := ⟨settledBumper lines.bumpers.left, settledBumper lines.bumpers.right⟩
    response := none }

/-- What RESTART clears; the rest is kept (R34, R51, R100, R118, R140, R154, R163, R174). -/
def restartState (s : State) : State :=
  classifySilently
    { s with
      segments := freshSegments
      drive := restartDrive s.config s.drive
      floor := restartFloor s.lines s.floor
      dock := { s.dock with undock := .none, undockTimer := none }
      modes := { s.modes with mode := .config, haltReason := .none, haltPending := false, wakeTimer := none }
      latches := clearLatches
      link := { s.link with notices := [], noticeTimer := .stopped } }

/-- Whether a store is writing (R173). -/
def State.storing (s : State) : Bool := decide (s.modes.store ≠ .idle)

/-- The effect of RESTART: refused BUSY while a store is writing (R174). -/
def restartEffect (s : State) : State :=
  if s.storing then respond 0x09 .busy [] s else respond 0x09 .ok [] (restartState s)

/-- RESTART (R174). -/
def execRestart (s : State) : Result := onRequest restartEffect s

/-! ### The settings store -/

/-- The effect of STORE: the mode is tested first, then the store state; the snapshot becomes the image to write
(R173). -/
def storeEffect (s : State) : State :=
  if s.modes.mode ≠ .config ∧ s.modes.mode ≠ .parked then respond 0x0A .mode [] s
  else if s.storing then respond 0x0A .busy [] s
  else
    respond 0x0A .ok []
      { s with modes := { s.modes with store := .writing (imageOf s.config s.table) 0 } }

/-- STORE (R173). -/
def execStore (s : State) : Result := onRequest storeEffect s

/-- The effect of STORE_END: the memory holds what the read-back finds, and STORE_DONE is latched with OK when that is
the image written, WRITE_FAIL otherwise (R173, R182). -/
def storeEndEffect (readBack : Option (List Byte)) (s : State) : State :=
  match s.modes.store with
  | .idle => s
  | .writing image _ =>
    { s with
      nv := .written (readBack.getD image)
      modes := { s.modes with store := .idle }
      latches := { s.latches with storeDone := true, storeFailed := decide (readBack.getD image ≠ image) } }

/-- STORE_END (R173). -/
def execStoreEnd (readBack : Option (List Byte)) (s : State) : Result := onEvent (storeEndEffect readBack) s

end Sys2Proof.Machine
end

