-- ==== Sys2Proof/Machine/ObservationCmds.lean ====
section
/-! DEFINITION. The Observation and Ageing Unit: taking an observation (R143 to R149) and the ageing pass (R151,
R152). -/

namespace Sys2Proof.Machine

/-! ### Candidates and victims -/

/-- A record is of the kind observed: DROP for DROP, POST for POST (R143). -/
def sameKind (o : Observation) (h : Hazard) : Bool :=
  match h with
  | .drop _ => o.isDrop
  | .post _ => !o.isDrop
  | _ => false

/-- The Chebyshev distance from a record's centre to the observation point (R143). -/
def observedDistance (o : Observation) (l : Live) : Nat :=
  chebyshev l.record.hazard.centre.1 l.record.hazard.centre.2 o.x o.y

/-- The merge candidates, in ascending slot order (R143). -/
def candidates (cfg : Settings) (t : Table) (o : Observation) : List Live :=
  (liveRecords t).filter fun l =>
    sameKind o l.record.hazard && decide (observedDistance o l ≤ mergeDistance cfg)

/-- The merge candidate: the nearest, ties to the lowest slot (R143). -/
def candidate (cfg : Settings) (t : Table) (o : Observation) : Option Live :=
  leastBy (observedDistance o) (candidates cfg t o)

/-- A live, unpinned sensed record (R147). -/
def isVictim (l : Live) : Bool := decide (l.record.source ≠ .host) && !l.record.pinned

/-- The order of victims: the lowest confidence, then the greatest age, which is 255 at most (R147). -/
def victimKey (l : Live) : Nat := l.record.confidence * 256 + (255 - l.record.age)

/-- The victim, ties to the lowest slot (R147). -/
def victim (t : Table) : Option Live := leastBy victimKey ((liveRecords t).filter isVictim)

/-! ### The records an observation makes -/

/-- A HOST record after a merge (R144). -/
def hostMerged (r : Record) : Record := { r with age := 0, hits := min 255 (r.hits + 1), observed := true }

/-- A centre coordinate moved halfway toward the observed one, truncated toward zero (R145). -/
def halfway (centre observed : Int) : Int := centre + truncDiv (observed - centre) 2

/-- A circle drawn halfway toward the point observed (R145). -/
def drawnCircle (o : Observation) (c : Circle) : Circle := { c with cx := halfway c.cx o.x, cy := halfway c.cy o.y }

/-- A hazard drawn toward the point observed (R145). -/
def drawnHazard (o : Observation) : Hazard → Hazard
  | .post c => .post (drawnCircle o c)
  | .drop c => .drop (drawnCircle o c)
  | h => h

/-- A sensed record after a merge (R145). -/
def sensedMerged (o : Observation) (r : Record) : Record :=
  { r with
    hazard := drawnHazard o r.hazard
    confidence := min 15 (r.confidence + 3)
    age := 0
    hits := min 255 (r.hits + 1)
    observed := true }

/-- A record after a merge, by its source (R143). -/
def merged (o : Observation) (r : Record) : Record :=
  if r.source = .host then hostMerged r else sensedMerged o r

/-- The hazard of a new sensed record (R146). -/
def observedHazard (cfg : Settings) (o : Observation) : Hazard :=
  if o.isDrop then .drop ⟨o.x, o.y, dropRadius cfg⟩ else .post ⟨o.x, o.y, bumpRadius cfg⟩

/-- A new sensed record (R146). -/
def newSensed (cfg : Settings) (o : Observation) : Record :=
  ⟨observedHazard cfg o, if o.isDrop then .cliff else .bump, false, 4, 0, 1, true⟩

/-! ### Notices -/

/-- A notice about a record (R149). -/
def recordNotice (kind : NoticeKind) (cause : NoticeCause) (ref : Ref) (h : Hazard) (time : Half) : Notice :=
  ⟨kind, some ref, some h.kind, some cause, h.centre.1, h.centre.2, none, time⟩

/-- The cause that names a record's state (R149). -/
def stateCause : RecordState → NoticeCause
  | .host => .host
  | .tentative => .tentative
  | .confirmed => .confirmed

/-- The notice of a merge: RECORD_CONFIRMED where a TENTATIVE record crossed, RECORD_MERGED otherwise (R144, R145). -/
def mergeNotice (cfg : Settings) (ref : Ref) (old new : Record) (time : Half) : Notice :=
  if recordState cfg old = .tentative ∧ recordState cfg new = .confirmed then
    recordNotice .recordConfirmed .confirmed ref new.hazard time
  else recordNotice .recordMerged (stateCause (recordState cfg new)) ref new.hazard time

/-- The notice of a new record (R146). -/
def createNotice (cfg : Settings) (ref : Ref) (r : Record) (time : Half) : Notice :=
  recordNotice .recordCreated (stateCause (recordState cfg r)) ref r.hazard time

/-- The notice of a dropped observation (R148). -/
def dropNotice (o : Observation) (time : Half) : Notice :=
  ⟨.observationDropped, none, some (if o.isDrop then .drop else .post), some .tableFull, o.x, o.y, none, time⟩

/-! ### Taking an observation -/

/-- The outcome of an observation: the state with its table change and its notices, and its result (R143 to R148). -/
structure Taken where
  state : State
  result : Option Ref
  deriving DecidableEq, Repr

/-- A merge into a candidate (R144, R145). -/
def takeMerge (o : Observation) (l : Live) (s : State) : Taken :=
  let r := merged o l.record
  ⟨offerNotice (mergeNotice s.config l.ref l.record r s.link.timeBase)
      { s with table := setSlot s.table l.ref.slot ⟨l.ref.generation, some r⟩ }, some l.ref⟩

/-- A new record in a free slot (R146). -/
def takeCreate (o : Observation) (k : Nat) (s : State) : Taken :=
  let r := newSensed s.config o
  let ref : Ref := ⟨k, (slotAt s.table k).generation + 1⟩
  ⟨offerNotice (createNotice s.config ref r s.link.timeBase) { s with table := placeRecord s.table k r }, some ref⟩

/-- A victim replaced (R147). -/
def takeReplace (o : Observation) (v : Live) (s : State) : Taken :=
  let r := newSensed s.config o
  let ref : Ref := ⟨v.ref.slot, v.ref.generation + 1⟩
  ⟨offerNotice (createNotice s.config ref r s.link.timeBase)
      (offerNotice (recordNotice .recordRetired .replaced v.ref v.record.hazard s.link.timeBase)
        { s with table := replaceRecord s.table v.ref.slot r }), some ref⟩

/-- One observation against the table as it stands: one of the four outcomes (R143 to R148). Each but a drop is a table
change (R149). -/
def takeObservation (o : Observation) (s : State) : Taken :=
  match candidate s.config s.table o with
  | some l => let t := takeMerge o l s; ⟨tableChanged t.state, t.result⟩
  | none =>
    match lowestFree s.table with
    | some k => let t := takeCreate o k s; ⟨tableChanged t.state, t.result⟩
    | none =>
      match victim s.table with
      | some v => let t := takeReplace o v s; ⟨tableChanged t.state, t.result⟩
      | none => ⟨offerNotice (dropNotice o s.link.timeBase) s, none⟩

/-- The result added to the running segment's cause (R90, R136). -/
def addResult (ref : Option Ref) (c : Context) : Context :=
  { c with cause := c.cause.map fun e => { e with record := ref } }

/-- A result reaches the protective response: it is the waiting one's, or one of those handed before it (R136). -/
def deliver (ref : Option Ref) (s : State) : State :=
  match s.floor.response with
  | some ⟨o, .pending 0⟩ =>
    { s with
      floor := { s.floor with response := some ⟨o, .arrived ref⟩ }
      segments := { s.segments with running := s.segments.running.map (addResult ref) } }
  | some ⟨o, .pending (n + 1)⟩ => { s with floor := { s.floor with response := some ⟨o, .pending n⟩ } }
  | _ => s

/-- The effect of OBSERVATION: the oldest observation handed is taken, and its result is delivered (R143, R149; log
23). The table change comes before the result, an order that R149 leaves open (log 36). -/
def observationEffect (s : State) : State :=
  match s.ageing.observations with
  | [] => s
  | o :: rest =>
    let t := takeObservation o { s with ageing := { s.ageing with observations := rest } }
    settle (deliver t.result t.state)

/-- OBSERVATION (R143). -/
def execObservation (s : State) : Result := onEvent observationEffect s

/-! ### Ageing -/

/-- The modes in which the ageing timer counts (R151). -/
def ageingCounts (m : Mode) : Bool := decide (m = .active) || decide (m = .parking)

/-- A sensed record is visited by a pass (R152). -/
def isSensed (r : Record) : Bool := decide (r.source ≠ .host)

/-- A pass frees this record: its flag is clear and its confidence falls to 0 (R152). -/
def fades (r : Record) : Bool := isSensed r && !r.observed && decide (r.confidence ≤ 1)

/-- A record that a pass leaves live (R152). -/
def aged (r : Record) : Record :=
  if isSensed r then
    (if r.observed then { r with observed := false }
     else { r with age := min 255 (r.age + 1), confidence := r.confidence - 1 })
  else r

/-- A slot after a pass (R152). -/
def agedSlot (x : Slot) : Slot :=
  match x.record with
  | some r => if fades r then { x with record := none } else { x with record := some (aged r) }
  | none => x

/-- The notices of one pass, in ascending slot order (R152). -/
def fadeNotices (t : Table) (time : Half) : List Notice :=
  ((liveRecords t).filter fun l => fades l.record).map fun l =>
    recordNotice .recordRetired .aged l.ref l.record.hazard time

/-- One ageing pass; it is one table change where it visits a record (R152). -/
def ageingPass (s : State) : State :=
  if (liveRecords s.table).any fun l => isSensed l.record then
    tableChanged ((fadeNotices s.table s.link.timeBase).foldl (fun u n => offerNotice n u)
      { s with table := s.table.map agedSlot })
  else s

/-- The effect of AGEING_TIMER_EXPIRY: a pass, and the timer starts again from 0; in the other modes the timer holds
and does not expire (R151). -/
def ageingEffect (s : State) : State :=
  if ageingCounts s.modes.mode then settle (ageingPass { s with ageing := { s.ageing with timer := 0 } }) else s

/-- AGEING_TIMER_EXPIRY (R151). -/
def execAgeingTimerExpiry (s : State) : Result := onEvent ageingEffect s

end Sys2Proof.Machine
end

