-- ==== Sys2Proof/Machine/PoseCmds.lean ====
section
/-! DEFINITION. The host's pose requests: POSE_SET (R46) and POSE_GET (R49). -/

namespace Sys2Proof.Machine

/-- The uncertainty of a fix as taken: a `u` above 255 is taken as 255 (R46). -/
def takeU (u : Half) : Nat := min u.toNat 255

/-- The pose that a fix sets; the tick counters and the encoder levels stay (R46, R47). -/
def fixPose (x y heading u : Half) (p : Pose) : Pose :=
  { p with
    xUm := clampRoom x.toInt * 1000
    yUm := clampRoom y.toInt * 1000
    heading := heading.toNat % 4096
    remainder := 0
    uFix := takeU u
    distance := 0
    u := takeU u }

/-- The body of POSE_SET: the pose as taken (R46). -/
def fixBody (x y heading u : Half) : List Byte :=
  int16 (clampRoom x.toInt) ++ int16 (clampRoom y.toInt) ++ int16 (heading.toNat % 4096 : Nat) ++ [toByte (takeU u)]

/-- The effect of POSE_SET: the fix, the classification with cause POSE_FIX and the evaluation at it (R46). -/
def poseSetEffect (x y heading u : Half) (s : State) : State :=
  settle (evaluate (classify .poseFix
    (respond 0x11 .ok (fixBody x y heading u) { s with pose := fixPose x y heading u s.pose })))

/-- POSE_SET (R46). -/
def execPoseSet (x y heading u : Half) (s : State) : Result := onRequest (poseSetEffect x y heading u) s

/-- The body of POSE_GET (R49). -/
def poseBody (s : State) : List Byte :=
  int16 s.pose.px ++ int16 s.pose.py ++ int16 s.pose.heading ++ [toByte s.pose.u] ++
    int16 (min (s.pose.distance / 1000) 65535 : Nat) ++ [flagByte s.dock.docked]

/-- The effect of POSE_GET (R49). -/
def poseGetEffect (s : State) : State := respond 0x12 .ok (poseBody s) s

/-- POSE_GET (R49). -/
def execPoseGet (s : State) : Result := onRequest poseGetEffect s

end Sys2Proof.Machine
end

