-- ==== Sys2Proof/Machine/PowerCmds.lean ====
section
/-! DEFINITION. Power, reset pin and start-up (R171, section 10.4). -/

namespace Sys2Proof.Machine

/-- The configuration that start-up loads (R171, step 3). -/
def startUpSettings (nv : NvImage) : Settings :=
  match goodImage nv with
  | some bytes => imageSettings bytes
  | none => factorySettings

/-- The table that start-up builds (R20, R171, steps 1 and 3). -/
def startUpTable (nv : NvImage) : Table :=
  match goodImage nv with
  | some bytes => loadTable 0 (imageHazards (imageSettings bytes) bytes) freshTable
  | none => freshTable

/-- The steps of start-up: the table, the image, the configuration, the pose, the queues and the mode (R171). Nothing
but the lines, the non-volatile memory and the queue of commands comes from before. The chapters give most items for the
end of start-up alone; until then they read as here, the Classifier BARE, BARE and no limit even over a loaded table (R22;
log 40). -/
def beginStartUp (s : State) : State :=
  let nv := nvAfterCut s
  { pending := s.pending
    choices := s.choices
    power := .startUp 0
    lines := s.lines
    nv := nv
    table := startUpTable nv
    config := startUpSettings nv
    pose := freshPose s.lines.encoders
    zones := freshZones
    clearance := freshClearance
    segments := freshSegments
    drive := freshDrive
    floor := freshFloor s.lines
    ageing := freshAgeing
    dock := freshDock false 0
    modes := freshModes
    latches := freshLatches (goodImage nv).isNone
    link := freshLink .stopped
    outputs := restOutputs }

/-- POWER_ON: start-up begins. On a part that has power it stands for a cycle of the power (R171, log 9). -/
def execPowerOn (s : State) : Result := .next (beginStartUp s)

/-- RESET_PIN_FALL: start-up begins again from its first step; without power there is nothing to reset (R171). -/
def execResetPinFall (s : State) : Result :=
  match s.power with
  | .off => .next s
  | _ => .next (beginStartUp s)

/-- The state at the end of start-up: each block takes the levels of its lines, the timers start, and the Classifier
classifies once (R22, R119, R155, R171, R178). -/
def endStartUp (s : State) : State :=
  classifySilently
    { s with
      power := .ready
      pose := { s.pose with levels := s.lines.encoders }
      floor := freshFloor s.lines
      dock := freshDock s.lines.dockContact (dockSettle s.config)
      link := { s.link with silence := silenceLoad s.config } }

/-- START_UP_END (R171). -/
def execStartUpEnd (s : State) : Result :=
  match s.power with
  | .startUp _ => .next (refresh (endStartUp s))
  | _ => .next s

/-- POWER_LOSS: every piece of state that the image does not hold is gone, and a store that was writing leaves a torn
image (R171, R173). What is gone stands at a fixed value, the same for every state before (log 38). -/
def execPowerLoss (s : State) : Result :=
  .next { State.reset with
    pending := s.pending
    choices := s.choices
    power := .off
    lines := s.lines
    nv := nvAfterCut s
    latches := freshLatches false
    link := freshLink .stopped
    outputs := restOutputs }

end Sys2Proof.Machine
end

