-- ==== Sys2Proof/Machine/RecordCmds.lean ====
section
/-! DEFINITION. The Hazard Table's requests (R11 to R19) and the two queries of the floor judgement, POINT_QUERY (R33)
and PATH_QUERY (R70, R71). -/

namespace Sys2Proof.Machine

/-! ### RECORD_PUT -/

/-- Pinned in the flags byte of the record body: bit 2 (R179). -/
def pinnedBit (flags : Byte) : Bool := flags.getLsbD 2

/-- The slot status of a STALE body: 0 free, 1 live (R16, R19, R179). -/
def liveByte (x : Slot) : Byte := flagByte x.record.isSome

/-- Step 6 of R11: the put would raise the pinned count above 32. -/
def pinRefused (t : Table) (k : Nat) (pinned : Bool) : Bool :=
  pinned && !((slotAt t k).record.map Record.pinned).getD false && decide (32 ≤ pinnedCount t)

/-- The record that an accepted put writes: new in a free slot, with its hits kept in a live one (R12, R13). -/
def putRecord (t : Table) (k : Nat) (h : Hazard) (pinned : Bool) : Record :=
  hostRecord h pinned (((slotAt t k).record.map Record.hits).getD 0)

/-- The table after an accepted put (R2, R12, R13). -/
def putTable (t : Table) (k : Nat) (h : Hazard) (pinned : Bool) : Table := placeRecord t k (putRecord t k h pinned)

/-- The record body for what slot `k` holds; only its name for a free slot (R16, R17). -/
def slotBody (cfg : Settings) (t : Table) (k : Nat) : List Byte :=
  match (slotAt t k).record with
  | some r => recordBody cfg ⟨k, (slotAt t k).generation⟩ r
  | none => [toByte k, (slotAt t k).generation]

/-- The put on its target slot: refused PIN_FULL, or accepted with the record written and the table change made
(R9, R11, R16). -/
def putAt (k : Nat) (h : Hazard) (pinned : Bool) (s : State) : State :=
  if pinRefused s.table k pinned then
    respond 0x0B .pinFull [toByte k, (slotAt s.table k).generation, toByte (pinnedCount s.table)] s
  else
    let t := putTable s.table k h pinned
    settle (tableChanged (respond 0x0B .ok (slotBody s.config t k) { s with table := t }))

/-- The effect of RECORD_PUT, its checks in the order of R11. -/
def recordPutEffect (slot generation kind flags order : Byte) (g8 g10 g12 g14 limit : Half) (s : State) : State :=
  if 96 ≤ slot.toNat ∧ slot ≠ 0xFF then respond 0x0B .badField [slot, kind] s
  else
    match takeHazard s.config kind order g8 g10 g12 g14 limit with
    | none => respond 0x0B .badField [slot, kind] s
    | some h =>
      if slot = 0xFF then
        match lowestFree s.table with
        | none => respond 0x0B .tableFull [96, toByte (pinnedCount s.table)] s
        | some k => putAt k h (pinnedBit flags) s
      else if generation = (slotAt s.table slot.toNat).generation then putAt slot.toNat h (pinnedBit flags) s
      else
        respond 0x0B .stale
          [slot, (slotAt s.table slot.toNat).generation, liveByte (slotAt s.table slot.toNat)] s

/-- RECORD_PUT (R11). -/
def execRecordPut (slot generation kind flags order : Byte) (g8 g10 g12 g14 limit : Half) (s : State) : Result :=
  onRequest (recordPutEffect slot generation kind flags order g8 g10 g12 g14 limit) s

/-! ### RECORD_GET, RECORD_NEXT and RECORD_RETIRE -/

/-- The effect of RECORD_GET (R17). -/
def recordGetEffect (slot : Byte) (s : State) : State :=
  if 96 ≤ slot.toNat then respond 0x0C .badField [] s
  else if (slotAt s.table slot.toNat).record.isSome then respond 0x0C .ok (slotBody s.config s.table slot.toNat) s
  else respond 0x0C .notLive [slot, (slotAt s.table slot.toNat).generation] s

/-- RECORD_GET (R17). -/
def execRecordGet (slot : Byte) (s : State) : Result := onRequest (recordGetEffect slot) s

/-- The first live record at or above a start slot (R18). -/
def firstLive (t : Table) (start : Nat) : Option Live := (liveRecords t).find? fun l => decide (start ≤ l.ref.slot)

/-- The effect of RECORD_NEXT (R18). -/
def recordNextEffect (start : Byte) (s : State) : State :=
  match firstLive s.table start.toNat with
  | some l => respond 0x0E .ok (recordBody s.config l.ref l.record) s
  | none => respond 0x0E .notFound [] s

/-- RECORD_NEXT (R18). -/
def execRecordNext (start : Byte) (s : State) : Result := onRequest (recordNextEffect start) s

/-- The effect of RECORD_RETIRE (R19). -/
def recordRetireEffect (slot generation : Byte) (s : State) : State :=
  let x := slotAt s.table slot.toNat
  if 96 ≤ slot.toNat then respond 0x0D .badField [] s
  else if x.record.isNone then respond 0x0D .notLive [slot, x.generation] s
  else if generation = x.generation then
    settle (tableChanged (respond 0x0D .ok [slot, x.generation] { s with table := freeSlot s.table slot.toNat }))
  else respond 0x0D .stale [slot, x.generation, liveByte x] s

/-- RECORD_RETIRE (R19). -/
def execRecordRetire (slot generation : Byte) (s : State) : Result := onRequest (recordRetireEffect slot generation) s

/-! ### POINT_QUERY -/

/-- The body of POINT_QUERY for a point already clamped; the order takes one byte (R33; log 42). -/
def pointBody (s : State) (x y : Int) : List Byte :=
  int16 x ++ int16 y ++ [(classAt s.table x y).cls.byte] ++ refBytes (classAt s.table x y).record ++
    [toByte (((scan s.table x y).map fun l => l.record.hazard.order).getD 0)] ++
    int16 ((limitAt s.config s.table x y).getD 0)

/-- The effect of POINT_QUERY (R33). -/
def pointQueryEffect (x y : Half) (s : State) : State :=
  respond 0x0F .ok (pointBody s (clampRoom x.toInt) (clampRoom y.toInt)) s

/-- POINT_QUERY (R33). -/
def execPointQuery (x y : Half) (s : State) : Result := onRequest (pointQueryEffect x y) s

/-! ### PATH_QUERY -/

/-- The verdict of a path query: BLOCKED before BLOCKED_ZONE (R71). -/
def verdictByte (cfg : Settings) (gap : Option Nat) (probe : ClassResult) : Byte :=
  match gap with
  | some g => if g < blockGap cfg then 1 else if probe.cls = .keepout then 2 else 0
  | none => if probe.cls = .keepout then 2 else 0

/-- The body of an accepted PATH_QUERY: the path test over every circle record, DOCK records included, and the class
of the probe point (R70, R71). -/
def pathBody (s : State) (heading : Nat) (direction : Byte) : List Byte :=
  let d := directionOf heading (decide (direction = 1))
  let found := constraining s.config s.table s.pose d true
  let gap := found.map InPath.gap
  let probe := probeFrom s.config s.pose.px s.pose.py d
  let result := classAt s.table probe.1 probe.2
  int16 heading ++ [direction, toByte s.pose.u] ++ int16 (reportedGap gap) ++ refBytes (found.map InPath.ref) ++
    int16 (reportedTerm (gap.map (gapTermOf s.config))) ++ [result.cls.byte] ++ refBytes result.record ++
    [verdictByte s.config gap result]

/-- The effect of PATH_QUERY (R70, R71). -/
def pathQueryEffect (heading : Half) (direction : Byte) (s : State) : State :=
  if 1 < direction.toNat then respond 0x10 .badField [] s
  else respond 0x10 .ok (pathBody s (heading.toNat % 4096) direction) s

/-- PATH_QUERY (R70). -/
def execPathQuery (heading : Half) (direction : Byte) (s : State) : Result := onRequest (pathQueryEffect heading direction) s

end Sys2Proof.Machine
end

