-- ==== Sys2Proof/Machine/SegmentCmds.lean ====
section
/-! DEFINITION. The Segment Controller's commands: SEGMENT_ADD (R82 to R86), SEGMENT_CANCEL (R94), SEGMENT_FLUSH
(R96), COMPLETION_READ (R98), the pause timer (R81), and the start and the writing of a completion record as events of
their own (R87, R92). -/

namespace Sys2Proof.Machine

/-! ### SEGMENT_ADD -/

/-- The segment holding a tag is the running one (R86). -/
def tagRunning (s : State) (tag : Nat) : Bool :=
  (s.segments.running.map fun c => decide (c.segment.tag = tag)).getD false

/-- The segment and completion counts of the QUEUE_FULL body (R86). -/
def countBytes (s : State) : List Byte :=
  [toByte s.segments.queue.length, toByte s.segments.completions.length]

/-- The segment joins the tail of the queue (R73). -/
def joinQueue (g : Segment) (s : State) : State :=
  { s with segments := { s.segments with queue := s.segments.queue ++ [g] } }

/-- No room is left: 8 segments, or 16 segments and held records (R85). -/
def queueFull (s : State) : Bool :=
  decide (8 ≤ s.segments.queue.length) || decide (16 ≤ s.segments.queue.length + s.segments.completions.length)

/-- The segment accepted: it joins the queue, the response shows the parameters as taken and the counts after the
request, and the head may start at once (R86, R87). -/
def acceptSegment (g : Segment) (s : State) : State :=
  let t := joinQueue g s
  settle (respond 0x13 .ok (segmentBody g ++ [toByte s.segments.queue.length] ++ countBytes t) t)

/-- The effect of SEGMENT_ADD, its checks in the order of R82. -/
def segmentAddEffect (tag kind direction hold : Byte) (amount speed : Half) (s : State) : State :=
  if s.modes.mode ≠ .active ∧ s.modes.mode ≠ .waking then respond 0x13 .mode [s.modes.mode.byte] s
  else
    match takeMotion s.config kind direction hold amount speed with
    | none => respond 0x13 .badField [tag, kind] s
    | some m =>
      if tag = 255 ∨ amount = 0 then respond 0x13 .badField [tag, kind] s
      else if s.segments.queue.any fun g => decide (g.tag = tag.toNat) then
        respond 0x13 .duplicateTag [tag, flagByte (tagRunning s tag.toNat)] s
      else if queueFull s then respond 0x13 .queueFull (countBytes s) s
      else acceptSegment ⟨tag.toNat, m⟩ s

/-- SEGMENT_ADD (R82). -/
def execSegmentAdd (tag kind direction hold : Byte) (amount speed : Half) (s : State) : Result :=
  onRequest (segmentAddEffect tag kind direction hold amount speed) s

/-! ### SEGMENT_CANCEL -/

/-- The running segment is marked as cancelled (R94). -/
def markCancelled (s : State) : State :=
  { s with segments := { s.segments with running := s.segments.running.map fun c => { c with cancelSeen := true } } }

/-- A waiting segment leaves the queue, and its CANCELLED record is written at once (R94). -/
def cancelWaiting (g : Segment) (s : State) : State :=
  { s with segments := { s.segments with
      queue := s.segments.queue.erase g
      completions := s.segments.completions ++ [waitingRecord .cancelled true s.link.timeBase g] } }

/-- A record that is due is written, with the mode transition that waits for it; no start is made yet. -/
def writeDue (s : State) : State := if s.canWrite then leaveStopping (writeRecord s) else s

/-- The body of an OK answer: the tag, the place (1 waiting, 2 running) and the segment count after the request
(R94, R179; log 21). -/
def cancelBody (tag place : Byte) (s : State) : List Byte := [tag, place, toByte s.segments.queue.length]

/-- A cancel of the running segment: cancel_seen, and CANCELLED with a RAMP where no cause stands (R91, R94). -/
def cancelRunning (tag : Byte) (s : State) : State :=
  let t := writeDue (handCause .cancelled none (markCancelled s))
  settle (respond 0x14 .ok (cancelBody tag 2 t) t)

/-- The effect of SEGMENT_CANCEL (R94). -/
def segmentCancelEffect (tag : Byte) (s : State) : State :=
  if tagRunning s tag.toNat then cancelRunning tag s
  else
    match s.segments.waiting.find? fun g => decide (g.tag = tag.toNat) with
    | some g =>
      let t := cancelWaiting g s
      settle (respond 0x14 .ok (cancelBody tag 1 t) t)
    | none => respond 0x14 .notFound [tag, 0] s

/-- SEGMENT_CANCEL (R94). -/
def execSegmentCancel (tag : Byte) (s : State) : Result := onRequest (segmentCancelEffect tag) s

/-! ### SEGMENT_FLUSH -/

/-- The body of SEGMENT_FLUSH: the waiting segments flushed, and whether a running segment was stopped (R96, log 20). -/
def flushBody (s : State) : List Byte :=
  [toByte s.segments.waiting.length, flagByte s.segments.running.isSome]

/-- The effect of SEGMENT_FLUSH (R96). -/
def segmentFlushEffect (s : State) : State :=
  settle (handCause .flushed none (flushWaiting (respond 0x15 .ok (flushBody s) s)))

/-- SEGMENT_FLUSH (R96). -/
def execSegmentFlush (s : State) : Result := onRequest segmentFlushEffect s

/-! ### COMPLETION_READ -/

/-- The effect of COMPLETION_READ (R98). -/
def completionReadEffect (s : State) : State :=
  match s.segments.completions with
  | [] => respond 0x16 .empty [0] s
  | c :: rest =>
    respond 0x16 .ok (completionBody c rest.length) { s with segments := { s.segments with completions := rest } }

/-- COMPLETION_READ (R98). -/
def execCompletionRead (s : State) : Result := onRequest completionReadEffect s

/-! ### The pause timer, the start and the writing -/

/-- A PAUSE whose timer has reached its time: its progress is at least that time (R81, log 27). -/
def pauseElapsed (time : Nat) (c : Context) : Context := { c with progress := max c.progress time }

/-- The effect of PAUSE_TIMER_EXPIRY: the running PAUSE takes COMPLETED and is written at once (R81). -/
def pauseTimerEffect (s : State) : State :=
  match s.segments.running with
  | some c =>
    match c.segment.motion with
    | .pause time =>
      settle (handCause .completed none
        { s with segments := { s.segments with running := some (pauseElapsed time c) } })
    | _ => s
  | none => s

/-- PAUSE_TIMER_EXPIRY (R81). -/
def execPauseTimerExpiry (s : State) : Result := onEvent pauseTimerEffect s

/-- The effect of SEGMENT_START: the head segment starts where the start conditions hold (R87, R88). -/
def segmentStartEffect (s : State) : State := if s.canStart then settle (startSegment s) else s

/-- SEGMENT_START (R88). -/
def execSegmentStart (s : State) : Result := onEvent segmentStartEffect s

/-- The effect of COMPLETION_RECORD_WRITE: the running segment's record is written where the test of R92 holds, with
what the writing brings about (R87, R92, R167). -/
def completionWriteEffect (s : State) : State := if s.canWrite then settle (leaveStopping (writeRecord s)) else s

/-- COMPLETION_RECORD_WRITE (R92). -/
def execCompletionRecordWrite (s : State) : Result := onEvent completionWriteEffect s

end Sys2Proof.Machine
end

