-- ==== Sys2Proof/Machine/Dispatch.lean ====
section
/-! DEFINITION. One arm per command: its meaning. -/

namespace Sys2Proof.Machine

/-- The effect of a command on everything but the queue of waiting commands. -/
def exec (i : Instr) (s : State) : Host.Outcome State Fault Refusal :=
  match i with
  | .powerOn => Sys2Proof.Machine.execPowerOn s
  | .resetPinFall => Sys2Proof.Machine.execResetPinFall s
  | .startUpEnd => Sys2Proof.Machine.execStartUpEnd s
  | .startupTransaction bytes => Sys2Proof.Machine.execStartupTransaction bytes s
  | .shortTransaction bytes => Sys2Proof.Machine.execShortTransaction bytes s
  | .nop => Sys2Proof.Machine.execNop s
  | .unknownRequest code => Sys2Proof.Machine.execUnknownRequest code s
  | .status => Sys2Proof.Machine.execStatus s
  | .configSet item value => Sys2Proof.Machine.execConfigSet item value s
  | .configGet item => Sys2Proof.Machine.execConfigGet item s
  | .modeActive => Sys2Proof.Machine.execModeActive s
  | .modeConfig => Sys2Proof.Machine.execModeConfig s
  | .park => Sys2Proof.Machine.execPark s
  | .wake => Sys2Proof.Machine.execWake s
  | .resume => Sys2Proof.Machine.execResume s
  | .restart => Sys2Proof.Machine.execRestart s
  | .store => Sys2Proof.Machine.execStore s
  | .storeEnd readBack => Sys2Proof.Machine.execStoreEnd readBack s
  | .recordPut slot generation kind flags order g8 g10 g12 g14 limit => Sys2Proof.Machine.execRecordPut slot generation kind flags order g8 g10 g12 g14 limit s
  | .recordGet slot => Sys2Proof.Machine.execRecordGet slot s
  | .recordRetire slot generation => Sys2Proof.Machine.execRecordRetire slot generation s
  | .recordNext start => Sys2Proof.Machine.execRecordNext start s
  | .pointQuery x y => Sys2Proof.Machine.execPointQuery x y s
  | .pathQuery heading direction => Sys2Proof.Machine.execPathQuery heading direction s
  | .poseSet x y heading u => Sys2Proof.Machine.execPoseSet x y heading u s
  | .poseGet => Sys2Proof.Machine.execPoseGet s
  | .segmentAdd tag kind direction hold amount speed => Sys2Proof.Machine.execSegmentAdd tag kind direction hold amount speed s
  | .segmentCancel tag => Sys2Proof.Machine.execSegmentCancel tag s
  | .segmentFlush => Sys2Proof.Machine.execSegmentFlush s
  | .completionRead => Sys2Proof.Machine.execCompletionRead s
  | .noticeRead => Sys2Proof.Machine.execNoticeRead s
  | .controlPeriodExpiry order => Sys2Proof.Machine.execControlPeriodExpiry order s
  | .encoderEdge wheel a b => Sys2Proof.Machine.execEncoderEdge wheel a b s
  | .stallTimerExpiry wheel => Sys2Proof.Machine.execStallTimerExpiry wheel s
  | .unjamEnd => Sys2Proof.Machine.execUnjamEnd s
  | .reversalGuardExpiry wheel => Sys2Proof.Machine.execReversalGuardExpiry wheel s
  | .cliffSample sensor reflectance => Sys2Proof.Machine.execCliffSample sensor reflectance s
  | .bumperLineChange side pressed => Sys2Proof.Machine.execBumperLineChange side pressed s
  | .bumperDebounceExpiry side => Sys2Proof.Machine.execBumperDebounceExpiry side s
  | .liftLineChange side active => Sys2Proof.Machine.execLiftLineChange side active s
  | .liftDebounceExpiry side => Sys2Proof.Machine.execLiftDebounceExpiry side s
  | .observation => Sys2Proof.Machine.execObservation s
  | .ageingTimerExpiry => Sys2Proof.Machine.execAgeingTimerExpiry s
  | .dockContactMake => Sys2Proof.Machine.execDockContactMake s
  | .dockContactBreak => Sys2Proof.Machine.execDockContactBreak s
  | .dockSettleExpiry => Sys2Proof.Machine.execDockSettleExpiry s
  | .undockWaitExpiry => Sys2Proof.Machine.execUndockWaitExpiry s
  | .pauseTimerExpiry => Sys2Proof.Machine.execPauseTimerExpiry s
  | .wakeTimerExpiry => Sys2Proof.Machine.execWakeTimerExpiry s
  | .linkSilenceExpiry => Sys2Proof.Machine.execLinkSilenceExpiry s
  | .noticeTimerExpiry => Sys2Proof.Machine.execNoticeTimerExpiry s
  | .segmentStart => Sys2Proof.Machine.execSegmentStart s
  | .completionRecordWrite => Sys2Proof.Machine.execCompletionRecordWrite s
  | .powerLoss => Sys2Proof.Machine.execPowerLoss s

end Sys2Proof.Machine
end

