-- ==== Sys2Proof/Config.lean ====
section
/-! DEFINITION. The free values: what the world chooses on an empty queue (log 8). Each has no body, so nothing can be
proved of the value it takes. The settings that the manual calls the configuration are state (R175) and stand in
Machine/Items.lean. -/

namespace Sys2Proof.Config

/-- The order in which the blocks act in the part's own n-th event, when that is a control period expiry (R62, R68,
R102; log 8). -/
opaque ownOrder : Nat → List PeriodPart

/-- Which of several events of the part's own that fall together is taken first (log 8). -/
opaque ownChoice : Nat → Nat

/-- What the memory holds at the read-back of a store that ends by itself; `none` is what was written (R173, log 8). -/
opaque nvReadBack : Nat → Option (List Byte)

end Sys2Proof.Config
end

