-- ==== Sys2Proof/Machine/Time.lean ====
section
/-! DEFINITION. What the part does with no command waiting (log 2): one millisecond passes at every running timer, or
the part's own event that is due is taken. -/

namespace Sys2Proof.Machine

/-! ### One millisecond -/

/-- One millisecond at a wheel's guard and stall timer (R104, R115). -/
def tickWheel (w : Wheel) : Wheel :=
  { w with
    guard := w.guard.map fun g => { g with elapsed := g.elapsed + 1 }
    stall := w.stall.map fun t => { t with elapsed := t.elapsed + 1 } }

/-- One millisecond at the Drive Controller (R102). -/
def tickDrive (d : Drive) : Drive :=
  { d with
    wheels := d.wheels.map tickWheel
    unjam := d.unjam.map fun u => { u with elapsed := u.elapsed + 1 }
    periodMs := d.periodMs + 1 }

/-- One millisecond at a debounce timer (R126). -/
def tickSwitch (w : Switch) : Switch := { w with timer := w.timer.map fun n => n + 1 }

/-- One millisecond at the Floor Sensor Monitor (R126). -/
def tickFloor (f : Floor) : Floor :=
  { f with
    bumpers := f.bumpers.map fun b => { b with switch := tickSwitch b.switch }
    lifts := f.lifts.map tickSwitch }

/-- One millisecond at the Dock Contact Monitor (R156, R159). -/
def tickDock (d : Dock) : Dock :=
  { d with
    settle := d.settle.map fun t => { t with elapsed := t.elapsed + 1 }
    undockTimer := d.undockTimer.map fun n => n + 1 }

/-- One millisecond at the pause timer (R81). -/
def tickContext (c : Context) : Context :=
  if c.segment.motion.isPause then { c with progress := c.progress + 1 } else c

/-- One millisecond at the wake timer and at a store (R169, R173). -/
def tickModes (m : Modes) : Modes :=
  { m with
    wakeTimer := m.wakeTimer.map fun n => n + 1
    store := match m.store with
      | .writing image n => .writing image (n + 1)
      | .idle => .idle }

/-- One millisecond at a countdown (R178, R181). -/
def tickCountdown : Countdown → Countdown
  | .running (n + 1) => .running n
  | t => t

/-- One millisecond at the link block; the time base wraps from 65535 to 0 (R178, R181, R182). -/
def tickLink (l : Link) : Link :=
  { l with
    silence := tickCountdown l.silence
    noticeTimer := tickCountdown l.noticeTimer
    timeBase := l.timeBase + 1 }

/-- One millisecond at the ageing timer, which counts in ACTIVE and PARKING (R151). -/
def tickAgeing (m : Mode) (a : Ageing) : Ageing :=
  if ageingCounts m then { a with timer := a.timer + 1 } else a

/-- One millisecond passes. Without power nothing runs; during start-up only start-up itself does (section 10.4). -/
def tick (s : State) : State :=
  match s.power with
  | .off => s
  | .startUp n => { s with power := .startUp (n + 1) }
  | .ready =>
    { s with
      segments := { s.segments with running := s.segments.running.map tickContext }
      drive := tickDrive s.drive
      floor := tickFloor s.floor
      ageing := tickAgeing s.modes.mode s.ageing
      dock := tickDock s.dock
      modes := tickModes s.modes
      link := tickLink s.link }

/-! ### The part's own events -/

/-- The event, where its condition holds. -/
def dueIf (b : Bool) (e : Instr) : List Instr := if b then [e] else []

/-- A timer that counts up has reached `n`. -/
def reached (n : Nat) (timer : Option Nat) : Bool := (timer.map fun t => decide (n ≤ t)).getD false

/-- A countdown has reached 0. -/
def runOut : Countdown → Bool
  | .running 0 => true
  | _ => false

/-- A wheel's stall timer has reached its length (R115). -/
def stallDue (w : Wheel) : Bool := (w.stall.map fun t => decide (t.length ≤ t.elapsed)).getD false

/-- A wheel's guard has reached its length (R104). -/
def guardDue (w : Wheel) : Bool := (w.guard.map fun g => decide (g.length ≤ g.elapsed)).getD false

/-- The events due at the Drive Controller (R102, R104, R115, R117). -/
def dueDrive (s : State) : List Instr :=
  dueIf (decide (5 ≤ s.drive.periodMs)) (.controlPeriodExpiry (Config.ownOrder s.choices)) ++
    dueIf (stallDue s.drive.wheels.left) (.stallTimerExpiry .left) ++
    dueIf (stallDue s.drive.wheels.right) (.stallTimerExpiry .right) ++
    dueIf (guardDue s.drive.wheels.left) (.reversalGuardExpiry .left) ++
    dueIf (guardDue s.drive.wheels.right) (.reversalGuardExpiry .right) ++
    dueIf (reached (unjamTime s.config) (s.drive.unjam.map Unjam.elapsed)) .unjamEnd

/-- The events due at the Floor Sensor Monitor: 3 ms for a bumper, 20 ms for a lift switch (R126). -/
def dueFloor (s : State) : List Instr :=
  dueIf (reached 3 s.floor.bumpers.left.switch.timer) (.bumperDebounceExpiry .left) ++
    dueIf (reached 3 s.floor.bumpers.right.switch.timer) (.bumperDebounceExpiry .right) ++
    dueIf (reached 20 s.floor.lifts.left.timer) (.liftDebounceExpiry .left) ++
    dueIf (reached 20 s.floor.lifts.right.timer) (.liftDebounceExpiry .right)

/-- A running PAUSE without an end cause has reached its time (R81, log 27). -/
def pauseDue (s : State) : Bool :=
  match s.segments.running with
  | some ⟨⟨_, .pause time⟩, _, _, progress, _, none, _⟩ => decide ((time : Int) ≤ progress)
  | _ => false

/-- The events due at the Segment Controller and at the Observation and Ageing Unit (R81, R87, R92, R143, R151). -/
def dueSegments (s : State) : List Instr :=
  dueIf (!s.ageing.observations.isEmpty) .observation ++ dueIf s.canWrite .completionRecordWrite ++
    dueIf s.canStart .segmentStart ++ dueIf (pauseDue s) .pauseTimerExpiry ++
    dueIf (ageingCounts s.modes.mode && decide (ageInterval s.config * 1000 ≤ s.ageing.timer)) .ageingTimerExpiry

/-- The settle timer has reached its length (R156). -/
def settleDue (d : Dock) : Bool := (d.settle.map fun t => decide (t.length ≤ t.elapsed)).getD false

/-- The events due at the Dock Contact Monitor (R156, R159). -/
def dueDock (s : State) : List Instr :=
  dueIf (settleDue s.dock) .dockSettleExpiry ++ dueIf (reached 20 s.dock.undockTimer) .undockWaitExpiry

/-- A store has been writing for 80 ms (R173, log 15). -/
def storeDue (m : Modes) : Bool :=
  match m.store with
  | .writing _ n => decide (80 ≤ n)
  | .idle => false

/-- The events due at the Mode Controller and at the link (R169, R173, R178, R181). -/
def dueModes (s : State) : List Instr :=
  dueIf (decide (s.modes.mode = .waking) && reached 20 s.modes.wakeTimer) .wakeTimerExpiry ++
    dueIf (storeDue s.modes) (.storeEnd (Config.nvReadBack s.choices)) ++
    dueIf (runOut s.link.silence) .linkSilenceExpiry ++ dueIf (runOut s.link.noticeTimer) .noticeTimerExpiry

/-- The part's own events that are due (log 2, log 15). -/
def dueEvents (s : State) : List Instr :=
  match s.power with
  | .off => []
  | .startUp n => dueIf (decide (10 ≤ n)) .startUpEnd
  | .ready => dueSegments s ++ dueDrive s ++ dueFloor s ++ dueDock s ++ dueModes s

/-- The own event that is taken: the only one due, or one that the free choice names (log 8). -/
def ownEvent (s : State) : Option Instr :=
  match dueEvents s with
  | [] => none
  | e :: es => some ((e :: es).getD (Config.ownChoice s.choices % (es.length + 1)) e)

end Sys2Proof.Machine
end

