-- ==== Sys2Proof/Machine/Step.lean ====
section
/-! DEFINITION. One step: the command at the front of the queue, or what the part does by itself (log 2). -/

namespace Sys2Proof.Machine

/-- The step with no command waiting: the part's own event that is due, or one millisecond (log 2). -/
def idleStep (s : State) : Host.Outcome State Fault Refusal :=
  match ownEvent s with
  | some c => exec c { s with choices := s.choices + 1 }
  | none => .next (tick s)

/-- One step: the front of the queue is taken and run on the state with the queue's rest. -/
def step (s : State) : Host.Outcome State Fault Refusal :=
  match s.pending with
  | c :: rest => exec c { s with pending := rest }
  | [] => idleStep s

/-- The state with the command that a word spells at the front of its queue; unchanged where the word spells none. -/
def State.withFetchWord (s : State) (nbits w : Nat) : State :=
  match decodeTableWord nbits w with
  | some c => { s with pending := c :: s.pending }
  | none => s

end Sys2Proof.Machine
end

