-- ==== Sys2Proof/Safety.lean ====
section
/-! DEFINITION. What a sound state of the part is: the bounds and the couplings that the manual states of its state, in
the terms the statements use. Each predicate says one of them. -/

namespace Sys2Proof.Machine

/-- A property that no step loses: neither a command, nor the part's own events, nor the passing of time. -/
def KeptByStep (p : State → Prop) : Prop := ∀ s t, p s → step s = .next t → p t

/-! ### Queues -/

/-- The segment queue holds at most 8, the segments and the held records at most 16 together, no two segments share a
tag, and the running segment is the head of the queue (R73, R75, R84, R85). -/
structure SegmentsOk (g : Segments) : Prop where
  queue_le : g.queue.length ≤ 8
  sum_le : g.queue.length + g.completions.length ≤ 16
  tags_distinct : (g.queue.map Segment.tag).Nodup
  running_head : ∀ x, g.running.map Context.segment = some x → g.queue.head? = some x

/-- The queues are sound, and the segment queue is empty in CONFIG, PARKED and HALTED (R100). -/
structure QueuesOk (s : State) : Prop where
  segments : SegmentsOk s.segments
  rest_empty : isRestMode s.modes.mode = true → s.segments.queue = []

/-- The notice queue never holds more than 16 notices (R180). -/
def NoticesOk (s : State) : Prop := s.link.notices.length ≤ 16

/-! ### Configuration and pose -/

/-- Every configuration item lies in its range, and `link_timeout` is 0 or at least 50 (R175). -/
structure ConfigOk (cfg : Settings) : Prop where
  items : ∀ n, n < 47 → (itemRows.getD n ⟨0, 0, 0⟩).lo ≤ item cfg (n + 1) ∧
    item cfg (n + 1) ≤ (itemRows.getD n ⟨0, 0, 0⟩).hi
  link_timeout : linkTimeout cfg = 0 ∨ 50 ≤ linkTimeout cfg

/-- The ranges of the pose items (R35). -/
structure PoseRanges (cfg : Settings) (p : Pose) : Prop where
  x_range : -30000000 ≤ p.xUm ∧ p.xUm ≤ 30000000
  y_range : -30000000 ≤ p.yUm ∧ p.yUm ≤ 30000000
  heading_range : p.heading ≤ 4095
  remainder_range : p.remainder < spinTicks cfg
  fix_range : p.uFix ≤ 255
  distance_range : p.distance ≤ 2147483647
  u_range : p.u ≤ 255

/-- The configuration and the pose are in their ranges (R35, R175). -/
structure PoseOk (s : State) : Prop where
  config : ConfigOk s.config
  pose : PoseRanges s.config s.pose

/-! ### Table -/

/-- What a live record may be: pinned only when HOST, HOST at confidence 15, sensed at 1 to 15 and of the kind that its
source makes (R5, R7, R8, R152). -/
def RecordOk (r : Record) : Prop :=
  match r.source with
  | .host => r.confidence = 15
  | .bump => r.pinned = false ∧ 1 ≤ r.confidence ∧ r.confidence ≤ 15 ∧ r.hazard.kind = .post
  | .cliff => r.pinned = false ∧ 1 ≤ r.confidence ∧ r.confidence ≤ 15 ∧ r.hazard.kind = .drop

/-- Every live record is sound, and at most 32 are pinned (R8). -/
structure TableOk (t : Table) : Prop where
  records : ∀ x, x ∈ t.toList → ∀ r, x.record = some r → RecordOk r
  pinned_le : pinnedCount t ≤ 32

/-- A hazard as RECORD_PUT takes one: coordinates and radius in range, corners in order, a dock heading below 4096, an
order below 256 and a speed limit in 1..`speed_max` where it is present (R3, R4, R14). -/
def HazardOk (cfg : Settings) (h : Hazard) : Prop :=
  (∀ c, h.circle? = some c →
    -30000 ≤ c.cx ∧ c.cx ≤ 30000 ∧ -30000 ≤ c.cy ∧ c.cy ≤ 30000 ∧ c.r ≤ 1000) ∧
  (∀ b, h.rect? = some b →
    -30000 ≤ b.x0 ∧ b.x0 ≤ b.x1 ∧ b.x1 ≤ 30000 ∧ -30000 ≤ b.y0 ∧ b.y0 ≤ b.y1 ∧ b.y1 ≤ 30000 ∧ b.order < 256) ∧
  (∀ v, h.limit? = some v → 1 ≤ v ∧ v ≤ speedMax cfg) ∧ h.dockHeading < 4096

/-! ### Drive -/

/-- Both setpoints lie within the top speed, both are 0 in CONFIG, HALTED and PARKED and while a lift switch is active,
and the part starts up in CONFIG (R103, R114, R171). -/
structure DriveOk (s : State) : Prop where
  left_le : s.drive.wheels.left.setpoint.natAbs ≤ speedMax s.config
  right_le : s.drive.wheels.right.setpoint.natAbs ≤ speedMax s.config
  held : s.heldAtRest = true → s.atRest = true
  start_up : ∀ n, s.power = .startUp n → s.modes.mode = .config

/-- Both targets are 0. -/
structure TargetsZero (d : Drive) : Prop where
  left : d.wheels.left.target = 0
  right : d.wheels.right.target = 0

/-- The stop states whose targets are 0 for as long as they last (R105, R107, R108, R110): HARD and RELEASE, a BACKOFF in
HALT and in CLOSE, and a RAMP with no ramp base or one that has reached 0. -/
def Stop.holdsZero : Stop → Prop
  | .hard | .release | .backoffHalt | .backoffClose => True
  | .ramp base => base.getD 0 = 0
  | .none | .backoffReverse _ => False

/-- Both targets lie within the top speed, and both are 0 where the wheels are held at rest and in the stops that hold
them at 0 (R101, R105, R107, R108, R110, R114). -/
structure TargetsOk (s : State) : Prop where
  left_le : s.drive.wheels.left.target.natAbs ≤ speedMax s.config
  right_le : s.drive.wheels.right.target.natAbs ≤ speedMax s.config
  held : s.heldAtRest = true → TargetsZero s.drive
  stopped : s.drive.stop.holdsZero → TargetsZero s.drive

/-! ### Outputs -/

/-- When the bridges are enabled: with power and after start-up, outside CONFIG, HALTED and PARKED, with both lift switches
inactive and the release latch clear (R113, section 10.4). -/
structure BridgesEnabled (s : State) : Prop where
  ready : s.power = .ready
  mode : s.modes.mode ≠ .config ∧ s.modes.mode ≠ .halted ∧ s.modes.mode ≠ .parked
  left_lift : s.floor.lifts.left.debounced = false
  right_lift : s.floor.lifts.right.debounced = false
  latch : s.drive.releaseLatch = false

/-- A wheel's four outputs follow its setpoint and the bridge conditions, and the direction is the level held (R113). -/
structure MotorOk (s : State) (w : Wheel) (o : MotorOut) : Prop where
  enable : o.enable = true ↔ BridgesEnabled s
  duty : BridgesEnabled s → o.duty = w.setpoint.natAbs * 1023 / speedMax s.config
  duty_off : ¬ BridgesEnabled s → o.duty = 0
  brake : o.brake = true ↔ BridgesEnabled s ∧ w.setpoint = 0
  positive : 0 < w.setpoint → o.forward = true
  negative : w.setpoint < 0 → o.forward = false
  level : o.forward = w.forward

/-- Every output line stands at the level that the rules give it from the state: the motor stages (R113), sensor power
(R164), charge enable (R158) and the attention line (R183). Without power and during start-up all are inactive (section
10.4). -/
structure OutputsOk (s : State) : Prop where
  left : MotorOk s s.drive.wheels.left s.outputs.motors.left
  right : MotorOk s s.drive.wheels.right s.outputs.motors.right
  sensor_power : s.outputs.sensorPower = true ↔ s.power = .ready ∧ s.modes.mode ≠ .parked
  charge : s.outputs.chargeEnable = true ↔ s.power = .ready ∧ s.dock.docked = true ∧
    (s.drive.wheels.left.setpoint = 0 ∧ s.drive.wheels.right.setpoint = 0) ∧ s.modes.mode ≠ .halted ∧
    s.dock.undock = .none
  attention : s.outputs.attention = true ↔ s.power = .ready ∧
    (s.segments.completions ≠ [] ∨ noticeWatermark s.config ≤ s.link.notices.length ∨
      s.link.noticeTimer = .expired ∨ s.latches.modeReached = true ∨ s.latches.halt = true ∨
      s.latches.storeDone = true ∨ s.latches.noticeOverflow = true ∨ s.latches.storeBad = true)

/-! ### Time -/

/-- A countdown after one more millisecond: a running one that has not reached 0 falls by 1 (R178, R181). -/
def CountsDown (before after : Countdown) : Prop :=
  (∀ n, before = .running (n + 1) → after = .running n) ∧
  ((∀ n, before ≠ .running (n + 1)) → after = before)

/-- One millisecond has passed on a part whose start-up has ended: the time base rises by 1, with 65535 followed by 0
(R182); the control period timer (R102), every running guard (R104), stall timer (R115), unjam (R117), debounce (R126),
settle (R156), undock wait (R159) and wake timer (R169) and a store that is writing (R173) count one up, the progress of
a running PAUSE with them (R81); the ageing timer counts in ACTIVE and PARKING (R151); the countdowns fall (R178, R181).
Nothing else changes. -/
structure OneMsLater (s t : State) : Prop where
  time_base : t.link.timeBase.toNat = (s.link.timeBase.toNat + 1) % 65536
  silence : CountsDown s.link.silence t.link.silence
  notice_timer : CountsDown s.link.noticeTimer t.link.noticeTimer
  period : t.drive.periodMs = s.drive.periodMs + 1
  guards : ∀ wheel, (t.drive.wheels.get wheel).guard =
    (s.drive.wheels.get wheel).guard.map fun g => ⟨g.wasPositive, g.elapsed + 1, g.length⟩
  stalls : ∀ wheel, (t.drive.wheels.get wheel).stall =
    (s.drive.wheels.get wheel).stall.map fun x => ⟨x.elapsed + 1, x.length, x.doubled⟩
  unjam : t.drive.unjam = s.drive.unjam.map fun u => ⟨u.elapsed + 1, u.targets⟩
  bumpers : ∀ side, (t.floor.bumpers.get side).switch.timer = (s.floor.bumpers.get side).switch.timer.map fun n => n + 1
  lifts : ∀ side, (t.floor.lifts.get side).timer = (s.floor.lifts.get side).timer.map fun n => n + 1
  settle : t.dock.settle = s.dock.settle.map fun x => ⟨x.elapsed + 1, x.length⟩
  undock : t.dock.undockTimer = s.dock.undockTimer.map fun n => n + 1
  wake : t.modes.wakeTimer = s.modes.wakeTimer.map fun n => n + 1
  idle_store : s.modes.store = .idle → t.modes.store = .idle
  store : ∀ image n, s.modes.store = .writing image n → t.modes.store = .writing image (n + 1)
  ageing : t.ageing.timer =
    if s.modes.mode = .active ∨ s.modes.mode = .parking then s.ageing.timer + 1 else s.ageing.timer
  pause : t.segments.running = s.segments.running.map fun c =>
    if c.segment.motion.isPause then { c with progress := c.progress + 1 } else c
  rest : t = { s with
    segments := { s.segments with running := t.segments.running }
    drive := { s.drive with
      wheels := ⟨{ s.drive.wheels.left with guard := t.drive.wheels.left.guard, stall := t.drive.wheels.left.stall },
        { s.drive.wheels.right with guard := t.drive.wheels.right.guard, stall := t.drive.wheels.right.stall }⟩
      unjam := t.drive.unjam
      periodMs := t.drive.periodMs }
    floor := { s.floor with
      bumpers := ⟨⟨{ s.floor.bumpers.left.switch with timer := t.floor.bumpers.left.switch.timer },
          s.floor.bumpers.left.counted⟩,
        ⟨{ s.floor.bumpers.right.switch with timer := t.floor.bumpers.right.switch.timer },
          s.floor.bumpers.right.counted⟩⟩
      lifts := ⟨{ s.floor.lifts.left with timer := t.floor.lifts.left.timer },
        { s.floor.lifts.right with timer := t.floor.lifts.right.timer }⟩ }
    ageing := { s.ageing with timer := t.ageing.timer }
    dock := { s.dock with settle := t.dock.settle, undockTimer := t.dock.undockTimer }
    modes := { s.modes with wakeTimer := t.modes.wakeTimer, store := t.modes.store }
    link := { s.link with
      silence := t.link.silence
      noticeTimer := t.link.noticeTimer
      timeBase := t.link.timeBase } }

/-- The part's own events that are due, with the count at which a timer's is (R81, R87, R92, R102, R104, R115, R117, R126,
R143, R151, R156, R159, R169, R171, R173, R178, R181). The order of the blocks in a control period and what the memory
holds at a read-back are free values. -/
inductive DueNow (s : State) : Instr → Prop where
  /-- start-up has lasted the 10 ms that bound it (at the bound: log 15) -/
  | startUpEnd (n : Nat) : s.power = .startUp n → 10 ≤ n → DueNow s .startUpEnd
  /-- an observation has been handed to the unit and not been taken -/
  | observation : s.power = .ready → s.ageing.observations ≠ [] → DueNow s .observation
  /-- the test of R92 holds -/
  | completionRecordWrite (c : Context) : s.power = .ready → s.segments.running = some c → c.cause ≠ none →
      s.atRest = true → s.drive.stop.moveInProgress = false → s.drive.unjam = none → s.floor.resultPending = false →
      DueNow s .completionRecordWrite
  /-- the start conditions of R87 hold -/
  | segmentStart : s.power = .ready → s.segments.queue ≠ [] → s.segments.running = none →
      s.modes.mode = .active ∨ s.modes.mode = .parking → s.atRest = true → s.dock.undock ≠ .wait → DueNow s .segmentStart
  /-- a PAUSE with no end cause has run its time -/
  | pauseTimer (c : Context) (time : Nat) : s.power = .ready → s.segments.running = some c → c.cause = none →
      c.segment.motion = .pause time → (time : Int) ≤ c.progress → DueNow s .pauseTimerExpiry
  /-- `age_interval` seconds have passed in ACTIVE and PARKING -/
  | ageing : s.power = .ready → s.modes.mode = .active ∨ s.modes.mode = .parking →
      ageInterval s.config * 1000 ≤ s.ageing.timer → DueNow s .ageingTimerExpiry
  /-- every 5 ms -/
  | controlPeriod : s.power = .ready → 5 ≤ s.drive.periodMs →
      DueNow s (.controlPeriodExpiry (Config.ownOrder s.choices))
  /-- a stall timer has reached its length -/
  | stall (wheel : Side) (x : StallTimer) : s.power = .ready → (s.drive.wheels.get wheel).stall = some x →
      x.length ≤ x.elapsed → DueNow s (.stallTimerExpiry wheel)
  /-- a guard has reached its length -/
  | guard (wheel : Side) (g : Guard) : s.power = .ready → (s.drive.wheels.get wheel).guard = some g →
      g.length ≤ g.elapsed → DueNow s (.reversalGuardExpiry wheel)
  /-- an unjam has lasted `unjam_time` -/
  | unjam (u : Unjam) : s.power = .ready → s.drive.unjam = some u → unjamTime s.config ≤ u.elapsed → DueNow s .unjamEnd
  /-- a bumper's debounce takes 3 ms -/
  | bumper (side : Side) (n : Nat) : s.power = .ready → (s.floor.bumpers.get side).switch.timer = some n → 3 ≤ n →
      DueNow s (.bumperDebounceExpiry side)
  /-- a lift switch's debounce takes 20 ms -/
  | lift (side : Side) (n : Nat) : s.power = .ready → (s.floor.lifts.get side).timer = some n → 20 ≤ n →
      DueNow s (.liftDebounceExpiry side)
  /-- the settle timer has reached its length -/
  | settle (x : Settle) : s.power = .ready → s.dock.settle = some x → x.length ≤ x.elapsed → DueNow s .dockSettleExpiry
  /-- the undock wait takes 20 ms -/
  | undock (n : Nat) : s.power = .ready → s.dock.undockTimer = some n → 20 ≤ n → DueNow s .undockWaitExpiry
  /-- WAKING takes 20 ms -/
  | wake (n : Nat) : s.power = .ready → s.modes.mode = .waking → s.modes.wakeTimer = some n → 20 ≤ n →
      DueNow s .wakeTimerExpiry
  /-- a store has lasted the 80 ms that bound it (at the bound: log 15) -/
  | store (image : List Byte) (n : Nat) : s.power = .ready → s.modes.store = .writing image n → 80 ≤ n →
      DueNow s (.storeEnd (Config.nvReadBack s.choices))
  /-- the link-silence timer has reached 0 -/
  | silence : s.power = .ready → s.link.silence = .running 0 → DueNow s .linkSilenceExpiry
  /-- the notice timer has reached 0 -/
  | notice : s.power = .ready → s.link.noticeTimer = .running 0 → DueNow s .noticeTimerExpiry

/-! ### Settled states -/

/-- Nothing is due at the Segment Controller and PARKING is not over: what every event leaves (R87, R92, R169). -/
structure Settled (s : State) : Prop where
  no_write : s.canWrite = false
  no_start : s.canStart = false
  no_park : ¬ (s.modes.mode = .parking ∧ s.drained = true)

/-- No segment is queued or running, and the mode is not PARKING: the part is idle. -/
structure Idle (s : State) : Prop where
  no_running : s.segments.running = none
  no_queue : s.segments.queue = []
  not_parking : s.modes.mode ≠ .parking

/-! ### What a command leaves as it was -/

/-- The state after a request that changes nothing but the response: the frame accepted, the response formed, the
outputs following (R176, R178). -/
def answered (code : Byte) (result : ResultCode) (body : List Byte) (s : State) : State :=
  refresh (respond code result body (acceptFrame s))

/-- The notices `joined` have joined the queue of `s`, in order and behind those held. One that joins an empty queue loads
the notice timer with `notice_delay`; one that joins a queue which holds a notice leaves it (R180, R181). -/
structure NoticesJoined (joined : List Notice) (s t : State) : Prop where
  queue : t.link.notices = s.link.notices ++ joined
  loaded : s.link.notices = [] → joined ≠ [] → t.link.noticeTimer = .running (noticeDelay s.config)
  left_as_it_is : s.link.notices ≠ [] ∨ joined = [] → t.link.noticeTimer = s.link.noticeTimer

/-- What a classification with a cause reports: a new centre result gives a ZONE_CHANGED notice, which joins the notice
queue or, where 16 are held, latches NOTICE_OVERFLOW; the same result gives none (R31, R32, R180, R181). -/
def ZoneReported (cause : NoticeCause) (s t : State) : Prop :=
  (t.zones.centre = s.zones.centre → NoticesJoined [] s t ∧ t.latches = s.latches) ∧
  (t.zones.centre ≠ s.zones.centre → s.link.notices.length < 16 →
    t.latches = s.latches ∧
    NoticesJoined [⟨.zoneChanged, t.zones.centre.record, t.zones.centre.cls.recordKind, some cause,
      t.pose.px, t.pose.py, some t.zones.centre.cls, s.link.timeBase⟩] s t) ∧
  (t.zones.centre ≠ s.zones.centre → 16 ≤ s.link.notices.length →
    NoticesJoined [] s t ∧ t.latches = { s.latches with noticeOverflow := true })

/-- The speed limit that a point carries: that of the record whose class it has, a missing one replaced by the class default;
BARE, CLEAR and KEEPOUT carry none (R23, R25). -/
def carriedLimit (cfg : Settings) (t : Table) (x y : Int) : Option Nat :=
  match scan t x y with
  | none => none
  | some l =>
    match l.record.hazard with
    | .slow _ limit => some (limit.getD (slowLimit cfg))
    | .rug _ limit | .darkRug _ limit => some (limit.getD (rugLimit cfg))
    | _ => none

/-- The smaller of two speed limits: the one that is present where the other is not, none where neither is (R29). -/
inductive SmallerLimit : Option Nat → Option Nat → Option Nat → Prop where
  | neither : SmallerLimit none none none
  | first (a : Nat) : SmallerLimit (some a) none (some a)
  | second (b : Nat) : SmallerLimit none (some b) (some b)
  | both (a b : Nat) : SmallerLimit (some a) (some b) (some (min a b))

/-- The zone limit is the smaller of the limits of the centre and of a probe point (R26, R29). -/
def ZoneLimitIs (s : State) (probeX probeY : Int) : Prop :=
  SmallerLimit (carriedLimit s.config s.table s.pose.px s.pose.py) (carriedLimit s.config s.table probeX probeY)
    s.zones.limit

/-- The results of the Classifier with no LINE or DOCK running: the probe point is the centre, and the zone limit is the
centre's (R26 to R29). -/
structure CentreClassified (s : State) : Prop where
  centre : s.zones.centre = classAt s.table s.pose.px s.pose.py
  probe : s.zones.probe = s.zones.centre
  limit : s.zones.limit = carriedLimit s.config s.table s.pose.px s.pose.py

/-- The ending of its own that a segment's progress reaches: COMPLETED at 2 mm or less before the end of a LINE and at the
angle of a SPIN, DOCK_MISSED at the end of a DOCK; a PAUSE has none in a control period (R77, R79 to R81, R161). -/
def ReachedEnding (m : Motion) (progress : Int) (kind : EndKind) : Prop :=
  match m with
  | .line _ distance _ _ => kind = .completed ∧ (distance : Int) - progress.tdiv 1000 ≤ 2
  | .dock distance _ => kind = .dockMissed ∧ (distance : Int) - progress.tdiv 1000 ≤ 0
  | .spin angle _ => kind = .completed ∧ (if 0 < angle then angle ≤ progress else progress ≤ angle)
  | .pause _ => False

/-- A live record stands in its slot at its generation (R1, R2). -/
def IsLive (t : Table) (l : Live) : Prop :=
  l.ref.slot < 96 ∧ slotAt t l.ref.slot = ⟨l.ref.generation, some l.record⟩

/-- The correction of heading hold: the hold error wrapped into -2048..2047, times `heading_gain`, over 16 truncated, and
limited to a quarter of the base; 0 with no hold target (R106, R107). -/
def HoldCorrection (cfg : Settings) (base : Int) (hold : Option Nat) (heading : Nat) (corr : Int) : Prop :=
  match hold with
  | none => corr = 0
  | some target => ∃ err : Int, -2048 ≤ err ∧ err ≤ 2047 ∧ (4096 : Int) ∣ ((target : Int) - heading - err) ∧
      corr = max (-((base.natAbs / 4 : Nat) : Int)) (min ((base.natAbs / 4 : Nat) : Int) ((err * headingGain cfg).tdiv 16))

/-- The rows of R105 below the forced rest: the left and right targets, before their clamp, of a slew step on a state, at
the heading of that moment. -/
inductive TargetRow (s : State) (heading : Nat) : Int → Int → Prop where
  /-- a stop RELEASE or HARD, and a BACKOFF in CLOSE (R108 to R110) -/
  | stopped : s.drive.stop = .hard ∨ s.drive.stop = .release ∨ s.drive.stop = .backoffClose → TargetRow s heading 0 0
  /-- a BACKOFF in REVERSE, or in HALT, which the step takes to REVERSE (R110) -/
  | backoff : s.drive.stop = .backoffHalt ∨ (∃ p, s.drive.stop = .backoffReverse p) →
      TargetRow s heading (-s.sigma * creepSpeed s.config) (-s.sigma * creepSpeed s.config)
  /-- a RAMP with no hold target (R107) -/
  | rampFree : s.drive.stop = .ramp none → TargetRow s heading 0 0
  /-- a RAMP of a held segment, about its ramp base as the step moves it (R107) -/
  | rampHeld (base moved corr : Int) : s.drive.stop = .ramp (some base) →
      moved = (if 0 < base then max 0 (base - decelStep s.config) else min 0 (base + decelStep s.config)) →
      HoldCorrection s.config moved s.holdTarget heading corr → TargetRow s heading (moved - corr) (moved + corr)
  /-- an unjam (R117) -/
  | unjam (u : Unjam) : s.drive.stop = .none → s.drive.unjam = some u →
      TargetRow s heading u.targets.left u.targets.right
  /-- no segment (R105) -/
  | idle : s.drive.stop = .none → s.drive.unjam = none → s.segments.running = none → TargetRow s heading 0 0
  /-- a segment in WAITING, or a PAUSE (R81, R89) -/
  | still (c : Context) : s.drive.stop = .none → s.drive.unjam = none → s.segments.running = some c →
      c.phase = .waiting ∨ c.segment.motion.isPause = true → TargetRow s heading 0 0
  /-- a SPIN, at creep speed within `spin_slow_window` of its angle (R78) -/
  | spin (c : Context) (angle : Int) (speed : Nat) (m : Int) : s.drive.stop = .none → s.drive.unjam = none →
      s.segments.running = some c → c.phase = .moving → c.segment.motion = .spin angle speed →
      m = (if (spinSlowWindow s.config : Int) < (if 0 < angle then angle - c.progress else -angle + c.progress) then speed
        else min speed (creepSpeed s.config)) →
      TargetRow s heading (if 0 < angle then -m else m) (if 0 < angle then m else -m)
  /-- a LINE or a DOCK, about its base target (R76, R106) -/
  | straight (c : Context) (allowance : Nat) (base corr : Int) : s.drive.stop = .none → s.drive.unjam = none →
      s.segments.running = some c → c.phase = .moving → c.segment.motion.isStraight = true →
      s.clearance.allowance = some allowance → base = c.segment.motion.sigma * allowance →
      HoldCorrection s.config base c.holdTarget heading corr → TargetRow s heading (base - corr) (base + corr)

/-- A control period has ended nothing after its slew step: no end cause was set, no record written, the mode kept, and no
BACKOFF move entered CLOSE (R90 to R92, R110, R114). -/
structure EndsNothing (s t : State) : Prop where
  cause : t.segments.running.bind Context.cause = s.segments.running.bind Context.cause
  completions : t.segments.completions = s.segments.completions
  mode : t.modes.mode = s.modes.mode
  no_close : t.drive.stop = .backoffClose → s.drive.stop = .backoffClose

/-- The rows of R103 with the guard of R104: a setpoint after a slew step toward a target. -/
inductive SlewRow (cfg : Settings) (g : Option Guard) (v target : Int) : Int → Prop where
  /-- the setpoint equals the target -/
  | equal : v = target → SlewRow cfg g v target v
  /-- acceleration, where no guard holds a setpoint that stands at 0 -/
  | accelerate : target ≠ 0 → v = 0 ∨ (0 < v * target ∧ v.natAbs < target.natAbs) →
      (v = 0 → ∀ gd, g = some gd → (gd.wasPositive = true → 0 < target) ∧ (gd.wasPositive = false → target < 0)) →
      SlewRow cfg g v target (if 0 < target then min target (v + accelStep cfg) else max target (v - accelStep cfg))
  /-- a guard that holds a setpoint at 0 against the opposite sign -/
  | held (gd : Guard) : v = 0 → g = some gd →
      (gd.wasPositive = true ∧ target < 0) ∨ (gd.wasPositive = false ∧ 0 < target) → SlewRow cfg g v target 0
  /-- deceleration toward a target of the same sign, or 0 -/
  | decelerate : v ≠ 0 → target = 0 ∨ (0 < v * target ∧ target.natAbs < v.natAbs) →
      SlewRow cfg g v target (if 0 < v then max target (v - decelStep cfg) else min target (v + decelStep cfg))
  /-- deceleration toward 0 where the signs are opposite -/
  | oppose : v * target < 0 →
      SlewRow cfg g v target (if 0 < v then max 0 (v - decelStep cfg) else min 0 (v + decelStep cfg))

/-- The allowance of a running LINE or DOCK is the least of its present terms (R58 to R61). -/
def AllowanceIsLeast (s : State) (c : Context) (gap : Option Nat) (zone : Option Nat) (u : Nat)
    (allowance : Option Nat) : Prop :=
  ∃ a terms, allowance = some a ∧ a ∈ terms ∧ (∀ x, x ∈ terms → a ≤ x) ∧
    terms = [min c.segment.motion.speed (speedMax s.config)] ++
      [max 10 (((c.segment.motion.distance : Int) - c.progress.tdiv 1000) * guardGain s.config / 4).toNat] ++
      (match gap with
        | some g => [g * guardGain s.config / 4]
        | none => []) ++
      zone.toList ++
      (if limpThreshold s.config < u then [limpSpeed s.config] else []) ++
      (if s.anySuspect = true then [creepSpeed s.config] else []) ++
      (if c.segment.motion.isDock = true then [creepSpeed s.config] else [])

/-- The ramp base that a RAMP forms at its request: the mean of the setpoints, truncated, with a hold target, none without
one (R107). -/
def rampBaseOf (hold : Option Nat) (d : Drive) : Option Int :=
  match hold with
  | none => none
  | some _ => some ((d.wheels.left.setpoint + d.wheels.right.setpoint).tdiv 2)

/-- The drive right after a RAMP request that finds no stop in progress: with no ramp base, or one of 0, both targets are 0
from the request on (R107). -/
def rampFrom (hold : Option Nat) (d : Drive) : Drive :=
  { d with
    wheels := if rampBaseOf hold d = none ∨ rampBaseOf hold d = some 0
      then ⟨{ d.wheels.left with target := 0 }, { d.wheels.right with target := 0 }⟩ else d.wheels
    stop := .ramp (rampBaseOf hold d)
    unjam := none }

/-- The items of the Clearance Monitor, as an evaluation of the running LINE or DOCK `c` sets them: `found` is the least
record in its path, `probe` the class of the probe point; the zone limit of the allowance is that of the centre and the
probe point (R27, R29, R52, R53, R57 to R61, R64, R65). -/
structure ClearanceJudged (c : Context) (found : Option InPath) (probe : ClassResult) (t : State) : Prop where
  gap : t.clearance.gap = found.map InPath.gap
  constraining : t.clearance.constraining = found.map InPath.ref
  gap_term : t.clearance.gapTerm = found.map fun p => p.gap * guardGain t.config / 4
  allowance : AllowanceIsLeast t c (found.map InPath.gap) t.zones.limit t.pose.u t.clearance.allowance
  probe_class : t.zones.probe = probe
  centre_class : t.zones.centre = classAt t.table t.pose.px t.pose.py
  zone_limit : ∀ d, d = directionOf t.pose.heading c.segment.motion.isReverse →
    ZoneLimitIs t (t.pose.px + probeDistance t.config * d.c / 4096) (t.pose.py + probeDistance t.config * d.s / 4096)
  blocked : ∀ p, found = some p → p.gap < blockGap t.config → t.clearance.pending = .blocked p.ref
  blocked_zone : (∀ p, found = some p → blockGap t.config ≤ p.gap) → ∀ r, probe = ⟨.keepout, some r⟩ →
    t.clearance.pending = .blockedZone r
  clear : (∀ p, found = some p → blockGap t.config ≤ p.gap) → probe.cls ≠ .keepout → t.clearance.pending = .none

/-- An event after which the running LINE or DOCK `c` of `s` is judged at the pose and the table of `t`: a pose fix or a
table change (R9, R27, R46, R53, R62, R64 to R66). A blocking cause is BLOCKED, or else BLOCKED_ZONE; as the first cause it
stands with a RAMP, and its record is written at once where both setpoints are 0 (R90, R92, R107). -/
def JudgedAgain (c : Context) (s t : State) : Prop :=
  ∀ (d : Direction) (found : Option InPath) (probe : ClassResult),
    d = directionOf t.pose.heading c.segment.motion.isReverse →
    found = constraining t.config t.table t.pose d (!c.segment.motion.isDock) →
    probe = classAt t.table (t.pose.px + probeDistance t.config * d.c / 4096)
      (t.pose.py + probeDistance t.config * d.s / 4096) →
    (s.atRest = false ∨ (c.cause ≠ none ∧ (s.drive.stop.moveInProgress = true ∨ s.drive.unjam ≠ none)) →
      ClearanceJudged c found probe t) ∧
    (c.cause = none → (∀ p, found = some p → blockGap t.config ≤ p.gap) → probe.cls ≠ .keepout →
      ClearanceJudged c found probe t ∧ t.segments = s.segments ∧ t.drive = s.drive) ∧
    (∀ e : EndCause, c.cause = none → s.drive.stop = .none →
      (∃ p, found = some p ∧ p.gap < blockGap t.config ∧ e = ⟨.blocked, some p.ref⟩) ∨
        ((∀ p, found = some p → blockGap t.config ≤ p.gap) ∧ probe.cls = .keepout ∧ e = ⟨.blockedZone, probe.record⟩) →
      (s.atRest = false →
        t.segments = { s.segments with running := some { c with cause := some e, phase := .stopping } } ∧
        t.drive = rampFrom c.holdTarget s.drive) ∧
      (s.atRest = true → s.floor.resultPending = false →
        ∃ more, t.segments.completions = s.segments.completions ++ ⟨c.segment, e.kind, c.cancelSeen,
          c.progress.tdiv 1000, e.record, s.drive.retries, s.link.timeBase⟩ :: more ∧
        (s.segments.queue = [c.segment] → more = [] ∧ t.segments.queue = [] ∧ t.segments.running = none)))

/-- The link block after a request taken on `s`: the response formed, the one before shifted out, the link-silence timer
loaded (R176, R178). -/
def answerLink (code : Byte) (result : ResultCode) (body : List Byte) (s : State) : Link :=
  { s.link with
    response := frame code result body
    dataOut := s.link.response
    silence := silenceLoad s.config }

/-- The wheels of a drive set to rest at once: both setpoints and targets 0, the stall timers stopped, the direction levels
kept (R104, R105, R108, R110, R113 to R115). That the targets are 0 from the request of a RELEASE on is the model's choice
(log 33). -/
structure WheelsReleased (cfg : Settings) (d e : Drive) : Prop where
  left_zero : e.wheels.left.setpoint = 0
  right_zero : e.wheels.right.setpoint = 0
  left_target : e.wheels.left.target = 0
  right_target : e.wheels.right.target = 0
  left_stall : e.wheels.left.stall = none
  right_stall : e.wheels.right.stall = none
  left_level : e.wheels.left.forward = d.wheels.left.forward
  right_level : e.wheels.right.forward = d.wheels.right.forward
  left_guard : e.wheels.left.guard =
    if d.wheels.left.setpoint = 0 then d.wheels.left.guard else guardFrom cfg d.wheels.left.setpoint
  right_guard : e.wheels.right.guard =
    if d.wheels.right.setpoint = 0 then d.wheels.right.guard else guardFrom cfg d.wheels.right.setpoint
  period : e.periodMs = d.periodMs

/-- A stop that sets both setpoints to 0 at its request and ends an unjam (R108 to R110). -/
structure StopsAtOnce (cfg : Settings) (stop : Stop) (d e : Drive) : Prop where
  wheels : WheelsReleased cfg d e
  rest : e = { d with wheels := e.wheels, stop := stop, unjam := none }

/-- The table of R111 for the stops a floor trigger asks for during the running segment `c`: the drive before and after
the request. -/
def StopCombines (cfg : Settings) (c : Context) (asked : Option StopKind) (d e : Drive) : Prop :=
  match asked, d.stop with
  | none, _ => e = d
  | some .ramp, .none => e = rampFrom c.holdTarget d
  | some .ramp, _ => e = d
  | some .hard, .hard => e = d
  | some .hard, .release => e = d
  | some .hard, _ => StopsAtOnce cfg .hard d e
  | some .backoff, .hard => e = d
  | some .backoff, .release => e = d
  | some .backoff, .none =>
    if c.segment.motion.isStraight = true ∧ d.unjam = none then StopsAtOnce cfg .backoffHalt d e
    else StopsAtOnce cfg .hard d e
  | some .backoff, .ramp _ =>
    if c.segment.motion.isStraight = true then StopsAtOnce cfg .backoffHalt d e else StopsAtOnce cfg .hard d e
  | some .backoff, _ => StopsAtOnce cfg .hard d e
  | some .release, _ => False

/-- What a CLIFF or BUMP trigger leaves of the running segment `c`, whatever the wheels are doing; `u` is the state with
the sensor judged and the observation handed on, `ahead` the number handed before it. The stop asked for combines by
R111. A first cause stands and waits for its result; a later one leaves the outcome, and the record is written where
nothing holds it back (R90 to R92, R131, R133, R134, R136). -/
def TriggerTaken (asked : Option StopKind) (c : Context) (kind : EndKind) (o : Observation) (ahead : Nat)
    (u t : State) : Prop :=
  ∃ d, StopCombines u.config c asked u.drive d ∧
    (c.cause = none →
      t = refresh { u with
        floor := { u.floor with response := some ⟨o, .pending ahead⟩ }
        segments := { u.segments with running := some { c with cause := some ⟨kind, none⟩, phase := .stopping } }
        drive := d }) ∧
    (∀ e, c.cause = some e →
      (d.wheels.left.setpoint ≠ 0 ∨ d.wheels.right.setpoint ≠ 0 ∨ d.stop.moveInProgress = true ∨ d.unjam ≠ none ∨
          u.floor.resultPending = true →
        t = refresh { u with drive := d }) ∧
      (d.wheels.left.setpoint = 0 → d.wheels.right.setpoint = 0 → d.stop.moveInProgress = false → d.unjam = none →
        u.floor.resultPending = false →
        (t.drive.wheels.left.setpoint = 0 ∧ t.drive.wheels.right.setpoint = 0) ∧
        ∃ more, t.segments.completions = u.segments.completions ++ ⟨c.segment, e.kind, c.cancelSeen,
          (match c.segment.motion with
            | .line .. | .dock .. => c.progress.tdiv 1000
            | _ => c.progress), e.record, u.drive.retries, u.link.timeBase⟩ :: more))

/-- A segment runs with no end cause, at the head of its queue. -/
structure RunsOn (s : State) (c : Context) : Prop where
  running : s.segments.running = some c
  no_cause : c.cause = none
  queued : s.segments.queue ≠ []

/-- No BACKOFF move, no unjam and no pending observation result holds a completion record back, and both setpoints are
0 (R92). -/
structure AtRest (s : State) : Prop where
  rest : s.atRest = true
  no_move : s.drive.stop.moveInProgress = false
  no_unjam : s.drive.unjam = none
  no_result : s.floor.resultPending = false

/-- What no command but a power or line event touches: the queue of commands, the power phase, the lines and the
non-volatile memory. -/
structure KeepsWorld (s t : State) : Prop where
  pending : t.pending = s.pending
  choices : t.choices = s.choices
  power : t.power = s.power
  lines : t.lines = s.lines
  nv : t.nv = s.nv

/-- The state an event leaves has the blocks of the motion as they were: the segments, the drive, the floor monitor,
the dock monitor and the modes. -/
structure KeepsMotion (s t : State) : Prop where
  segments : t.segments = s.segments
  drive : t.drive = s.drive
  floor : t.floor = s.floor
  dock : t.dock = s.dock
  modes : t.modes = s.modes

/-- The state an event leaves has the floor plan as it was: the table, the configuration, the pose and the observations
with the ageing timer. -/
structure KeepsPlan (s t : State) : Prop where
  table : t.table = s.table
  config : t.config = s.config
  pose : t.pose = s.pose
  ageing : t.ageing = s.ageing

/-- The response of a request taken on `s`, with what its acceptance does to the link (R176, R178). -/
structure Responds (code : Byte) (result : ResultCode) (body : List Byte) (s t : State) : Prop where
  response : t.link.response = frame code result body
  dataOut : t.link.dataOut = s.link.response
  silence : t.link.silence = silenceLoad s.config
  timeBase : t.link.timeBase = s.link.timeBase

/-- The request code of each request, by the table of R177; an unknown request carries its own (R176). The other commands
are no request frames. -/
def requestCode : Instr → Option Byte
  | .nop => some 0x00
  | .status => some 0x01
  | .configSet .. => some 0x02
  | .configGet _ => some 0x03
  | .modeActive => some 0x04
  | .modeConfig => some 0x05
  | .park => some 0x06
  | .wake => some 0x07
  | .resume => some 0x08
  | .restart => some 0x09
  | .store => some 0x0A
  | .recordPut .. => some 0x0B
  | .recordGet _ => some 0x0C
  | .recordRetire .. => some 0x0D
  | .recordNext _ => some 0x0E
  | .pointQuery .. => some 0x0F
  | .pathQuery .. => some 0x10
  | .poseSet .. => some 0x11
  | .poseGet => some 0x12
  | .segmentAdd .. => some 0x13
  | .segmentCancel _ => some 0x14
  | .segmentFlush => some 0x15
  | .completionRead => some 0x16
  | .noticeRead => some 0x17
  | .unknownRequest code => some code
  | .powerOn | .resetPinFall | .startUpEnd | .startupTransaction _ | .shortTransaction _ | .storeEnd _
  | .controlPeriodExpiry _ | .encoderEdge .. | .stallTimerExpiry _ | .unjamEnd | .reversalGuardExpiry _
  | .cliffSample .. | .bumperLineChange .. | .bumperDebounceExpiry _ | .liftLineChange .. | .liftDebounceExpiry _
  | .observation | .ageingTimerExpiry | .dockContactMake | .dockContactBreak | .dockSettleExpiry | .undockWaitExpiry
  | .pauseTimerExpiry | .wakeTimerExpiry | .linkSilenceExpiry | .noticeTimerExpiry | .segmentStart
  | .completionRecordWrite | .powerLoss => none

end Sys2Proof.Machine
end

