-- ==== Sys2Proof/Certificates/Slice0/Obligations.lean ====
section
/-! DEFINITION. The statements for the provers. -/

open Sys2Proof Sys2Proof.Machine

/-- A step takes the command at the front of the queue and runs exec of it on the state with the queue's rest. -/
def Obligations.StepRunsTheFrontCommand : Prop :=
  ∀ (c : Instr) (rest : List Instr) (s : State),
    s.pending = c :: rest → step s = exec c { s with pending := rest }

/-- With no command waiting, a millisecond passes at every running timer where no own event is due, and an own event
that is due is taken where one is: the only one, or one of those that fall together. The counts are those of the rules
(R81, R102, R104, R115, R117, R126, R151, R156, R159, R169, R178, R181, R182). That the part's own doing is what its
step does on an empty queue is the model's choice (log 2), and so are the free values that it draws there (log 8),
start-up and a store ending at their bounds (log 15), and a PAUSE counting in its progress (log 27). -/
def Obligations.EmptyQueueLetsTimePass : Prop :=
  ∀ s : State, s.pending = [] →
    (s.power = .off → step s = .next s) ∧
    (∀ n, s.power = .startUp n → n < 10 → step s = .next { s with power := .startUp (n + 1) }) ∧
    (s.power = .ready → (∀ c, ¬ DueNow s c) → ∃ t, step s = .next t ∧ OneMsLater s t) ∧
    ((∃ c, DueNow s c) → ∃ c, DueNow s c ∧ step s = exec c { s with choices := s.choices + 1 })

/-- Every command answers a next state, in every state, and leaves the queue of commands to the step. -/
def Obligations.EveryCommandAnswersNext : Prop :=
  ∀ (c : Instr) (s : State), ∃ t, exec c s = .next t ∧ t.pending = s.pending ∧ t.choices = s.choices

/-- No step loses the bounds of the segment and completion queues, the distinct tags, the running segment at the head
and the empty queue of CONFIG, PARKED and HALTED (R73, R75, R84, R85, R100). -/
def Obligations.QueueBoundsAreKeptByStep : Prop := KeptByStep QueuesOk

/-- No step makes the notice queue hold more than 16 notices (R180). -/
def Obligations.NoticeBoundIsKeptByStep : Prop := KeptByStep NoticesOk

/-- No step takes a configuration item or a pose item out of its range; `link_timeout` is 0 or at least 50 (R35, R175). -/
def Obligations.PoseRangesAreKeptByStep : Prop := KeptByStep PoseOk

/-- No step pins a sensed record or a 33rd record, or leaves a live record outside the confidence of its source (R5, R7,
R8, R152). -/
def Obligations.TableLawsAreKeptByStep : Prop := KeptByStep fun s => TableOk s.table

/-- No step takes a setpoint or a target above `speed_max`, or off 0 in CONFIG, HALTED, PARKED or while lifted, or lets
the part start up in another mode than CONFIG; and while a stop is HARD or RELEASE, a BACKOFF stands in HALT or in
CLOSE, or a RAMP has no ramp base or one of 0, both targets are 0 (R101, R103, R105, R107, R108, R110, R114, R171). That
a RELEASE sets the targets to 0 at its request is the model's choice (log 33). -/
def Obligations.DriveLimitsAreKeptByStep : Prop :=
  KeptByStep DriveOk ∧ KeptByStep fun s => DriveOk s ∧ TargetsOk s

/-- After every step each output line stands where the rules put it: the duty, the direction, the enable and the brake of
each bridge (R113), charge enable (R158), sensor power (R164) and the attention line (R183). The direction of a wheel
whose setpoint is 0 keeps the level it had (R113). -/
def Obligations.OutputLinesAreKeptByStep : Prop :=
  KeptByStep OutputsOk ∧
  ∀ s t : State, OutputsOk s → step s = .next t → s.power = .ready → t.power = .ready →
    (t.drive.wheels.left.setpoint = 0 → t.outputs.motors.left.forward = s.outputs.motors.left.forward) ∧
    (t.drive.wheels.right.setpoint = 0 → t.outputs.motors.right.forward = s.outputs.motors.right.forward)

/-- Settling leaves nothing due: no completion record, no start, no entry into PARKED (R87, R92, R169). That an event
brings about in itself all that it makes due is the model's reading (log 6). -/
def Obligations.SettlingLeavesNothingDue : Prop :=
  ∀ s : State, SegmentsOk s.segments → Settled (settle s)

/-- The state after reset meets every invariant, and it is what START_UP_END leaves after POWER_ON with a memory never
written and every line released (that pairing is the model's choice, log 1). -/
def Obligations.ResetIsSoundAndReached : Prop :=
  (QueuesOk State.reset ∧ NoticesOk State.reset ∧ PoseOk State.reset ∧ TableOk State.reset.table ∧
    DriveOk State.reset ∧ TargetsOk State.reset ∧ OutputsOk State.reset) ∧
  ∀ s : State, s.pending = [] → s.choices = 0 → s.nv = .unwritten → s.modes.store = .idle →
    s.lines = releasedLines → ∃ t, exec .powerOn s = .next t ∧ exec .startUpEnd t = .next State.reset

/-- POWER_ON, and RESET_PIN_FALL on a part with power, begin start-up: the modes, the segments, the drive, the clearance
items, the pose, the ageing unit, the link and the outputs are at their start-up values, with the notice timer stopped
and the link-silence timer not running until START_UP_END loads it, and the configuration and the table come from the
image when it is good (R20, R171 to R173, R178, R181). That POWER_ON of a part that has power is such a start-up is the
model's choice (log 9), and so is that the items whose values the rules give for the end of start-up stand at them from
its beginning (log 40). -/
def Obligations.PowerOnAndPinFallBeginStartUp : Prop :=
  ∀ (c : Instr) (s : State), (c = .powerOn ∨ (c = .resetPinFall ∧ s.power ≠ .off)) →
    ∃ t, exec c s = .next t ∧ t.power = .startUp 0 ∧ t.pending = s.pending ∧ t.lines = s.lines ∧
      t.modes = freshModes ∧ t.segments = freshSegments ∧ t.drive = freshDrive ∧ t.clearance = freshClearance ∧
      t.pose = freshPose s.lines.encoders ∧ t.ageing = freshAgeing ∧
      t.link.notices = [] ∧ t.link.noticeTimer = .stopped ∧ t.link.silence = .stopped ∧ t.link.timeBase = 0 ∧
      t.link.response = startingFrame ∧ t.outputs = restOutputs ∧
      (s.modes.store = .idle → t.nv = s.nv) ∧
      (∀ image n, s.modes.store = .writing image n → t.nv = .torn ∧ t.latches.storeBad = true) ∧
      (goodImage t.nv = none →
        t.config = factorySettings ∧ t.table = freshTable ∧ t.latches = freshLatches true) ∧
      (∀ bytes, goodImage t.nv = some bytes →
        t.config = imageSettings bytes ∧ t.table = loadTable 0 (imageHazards t.config bytes) freshTable ∧
          t.latches = freshLatches false)

/-- START_UP_END: each block takes the present levels of its lines, the link-silence timer is loaded, the Classifier
classifies once with no notice and takes the zone limit of the centre, and the rest stays as start-up set it (R22, R25,
R29, R119, R155, R171, R178). -/
def Obligations.StartUpEndReadiesThePart : Prop :=
  ∀ (n : Nat) (s : State), s.power = .startUp n →
    ∃ t, exec .startUpEnd s = .next t ∧ t.power = .ready ∧ t.pose = { s.pose with levels := s.lines.encoders } ∧
      t.floor = freshFloor s.lines ∧ t.dock = freshDock s.lines.dockContact (dockSettle s.config) ∧
      t.link = { s.link with silence := silenceLoad s.config } ∧
      (s.segments.running = none → t.zones.probe = t.zones.centre ∧
        t.zones.limit = (match scan s.table s.pose.px s.pose.py with
          | none => none
          | some l =>
            match l.record.hazard with
            | .slow _ limit => some (limit.getD (slowLimit s.config))
            | .rug _ limit | .darkRug _ limit => some (limit.getD (rugLimit s.config))
            | _ => none)) ∧
      t.zones.centre = classAt s.table s.pose.px s.pose.py ∧
      t.pending = s.pending ∧ t.lines = s.lines ∧ t.nv = s.nv ∧ t.table = s.table ∧ t.config = s.config ∧
      t.clearance = s.clearance ∧ t.segments = s.segments ∧ t.drive = s.drive ∧ t.ageing = s.ageing ∧
      t.modes = s.modes ∧ t.latches = s.latches ∧
      (s.modes.mode = .config → t.outputs.sensorPower = true ∧
        t.outputs.motors.left.enable = false ∧ t.outputs.motors.right.enable = false)

/-- POWER_LOSS, taken in every state: the part has no power, its outputs are inactive, and only the non-volatile memory is
left, torn where a store was writing. The table, the configuration, the pose, the queues, the latches, the timers and
the counters are gone: states that agree in their lines and in what is left of the memory become one state (R171, R173).
The values that stand for what is gone are the model's choice (log 38). -/
def Obligations.PowerLossLeavesTheMemory : Prop :=
  (∀ s : State, ∃ t, exec .powerLoss s = .next t ∧ t.power = .off ∧ t.outputs = restOutputs ∧ t.lines = s.lines ∧
    t.pending = s.pending ∧ (s.modes.store = .idle → t.nv = s.nv) ∧
    (∀ image n, s.modes.store = .writing image n → t.nv = .torn) ∧
    t.table = freshTable ∧ t.config = factorySettings ∧ t.pose = freshPose releasedLines.encoders ∧
    t.zones = freshZones ∧ t.clearance = freshClearance ∧ t.segments = freshSegments ∧ t.drive = freshDrive ∧
    t.floor = freshFloor releasedLines ∧ t.ageing = freshAgeing ∧ t.dock = freshDock false 100 ∧
    t.modes = freshModes ∧ t.latches = freshLatches false ∧ t.link = freshLink .stopped) ∧
  (∀ s s' t t' : State, exec .powerLoss s = .next t → exec .powerLoss s' = .next t' → s.pending = s'.pending →
    s.choices = s'.choices → s.lines = s'.lines → t.nv = t'.nv → t = t')

/-- A transaction during start-up, a request frame among them, shifts out the STARTING frame and changes nothing else;
a short transaction after start-up shifts out the leading bytes of the response and changes nothing else (R176). That
a request sent as a command during start-up is such a transaction, that the bytes shifted out are state, and that a
transaction longer than the frame shifts out its 20 bytes alone, is the model's choice (log 5, log 14, log 37). -/
def Obligations.DiscardedTransactionsChangeNothing : Prop :=
  (∀ (n b : Nat) (s : State), s.power = .startUp n →
    exec (.startupTransaction b) s = .next { s with link := { s.link with dataOut := startingFrame.take b } }) ∧
  (∀ (n : Nat) (c : Instr) (f : List Byte) (s : State), s.power = .startUp n → Frame.encode c = some f →
    exec c s = .next { s with link := { s.link with dataOut := startingFrame } }) ∧
  (∀ (b : Nat) (s : State), s.power = .ready → b < 20 →
    exec (.shortTransaction b) s = .next { s with link := { s.link with dataOut := s.link.response.take b } })

/-- NOP reloads the link-silence timer and leaves the response; a code above 0x17 is answered UNKNOWN with a body of
zeros; neither changes anything else (R176, R178). -/
def Obligations.NopAndUnknownRequestsAreAccepted : Prop :=
  ∀ s : State, s.power = .ready →
    exec .nop s = .next (refresh { s with link := { s.link with
      dataOut := s.link.response
      silence := silenceLoad s.config } }) ∧
    ∀ code : Byte, 0x17 < code.toNat → exec (.unknownRequest code) s = .next (answered code .unknown [] s)

/-- STATUS answers the status body as the state stands, byte by byte and bit by bit as R179 lays it out, and then clears
the latched causes; it changes nothing else (R179, R182). -/
def Obligations.StatusReportsThenClearsTheLatches : Prop :=
  ∀ s : State, s.power = .ready →
    ∃ (causes cliffs switches : Byte) (t : State), exec .status s = .next t ∧
      t.link.response =
        [0x01, 0x00, s.modes.mode.byte, s.modes.haltReason.byte, causes, toByte s.segments.queue.length,
          toByte s.segments.completions.length, toByte s.link.notices.length,
          (match s.segments.running with
            | some c => toByte c.segment.tag
            | none => 0xFF),
          cliffs, switches,
          (match s.modes.store with
            | .idle => 0
            | .writing .. => 1), toByte s.pose.u] ++
          halfBytes s.link.timeBase ++ [0, 0, 0, 0, 0] ∧
      (causes.getLsbD 0 = s.latches.modeReached ∧ causes.getLsbD 1 = s.latches.halt ∧
        causes.getLsbD 2 = s.latches.storeDone ∧ causes.getLsbD 3 = (s.latches.storeDone && s.latches.storeFailed) ∧
        causes.getLsbD 4 = s.latches.noticeOverflow ∧ causes.getLsbD 5 = s.latches.storeBad ∧
        causes.getLsbD 6 = false ∧ causes.getLsbD 7 = false) ∧
      (∀ code : CliffState → Nat, code .clear = 0 → code .suspect = 1 → code .tripped = 2 →
        cliffs.toNat = code s.floor.cliffs.fl.state * 64 + code s.floor.cliffs.fc.state * 16 +
          code s.floor.cliffs.fr.state * 4 + code s.floor.cliffs.rc.state) ∧
      (switches.getLsbD 0 = s.floor.bumpers.left.switch.debounced ∧
        switches.getLsbD 1 = s.floor.bumpers.right.switch.debounced ∧
        switches.getLsbD 2 = s.floor.lifts.left.debounced ∧ switches.getLsbD 3 = s.floor.lifts.right.debounced ∧
        switches.getLsbD 4 = s.dock.docked ∧ switches.getLsbD 5 = false ∧ switches.getLsbD 6 = false ∧
        switches.getLsbD 7 = false) ∧
      t = refresh { s with
        link := { s.link with
          response := t.link.response
          dataOut := s.link.response
          silence := silenceLoad s.config }
        latches := ⟨false, false, false, false, false, false⟩ }

/-- NOTICE_READ takes the oldest notice and answers every field of it with the count left, the timer stopping with the
last one, or answers EMPTY; the notice timer's expiry raises the attention line (R179 to R181, R183). -/
def Obligations.NoticesAreReadInOrder : Prop :=
  (∀ (s : State) (n : Notice) (rest : List Notice), s.power = .ready → s.link.notices = n :: rest →
    exec .noticeRead s = .next (refresh { s with link := { s.link with
      response := frame 0x17 .ok
        ([n.kind.byte] ++
          (match n.ref with
            | none => [255, 0]
            | some ref => [toByte ref.slot, ref.generation]) ++
          [match n.recordKind with
            | none => 0xFF
            | some kind => kind.byte,
            match n.cause with
            | none => 0xFF
            | some cause => cause.byte] ++
          int16 n.x ++ int16 n.y ++
          [match n.zone with
            | none => 0xFF
            | some zone => zone.byte] ++ halfBytes n.time ++ [toByte rest.length])
      dataOut := s.link.response
      silence := silenceLoad s.config
      notices := rest
      noticeTimer := if rest.isEmpty then .stopped else s.link.noticeTimer } })) ∧
  (∀ s : State, s.power = .ready → s.link.notices = [] → exec .noticeRead s = .next (answered 0x17 .empty [0] s)) ∧
  (∀ (s : State) (k : Nat), s.power = .ready → s.link.noticeTimer = .running k →
    ∃ t, exec .noticeTimerExpiry s = .next t ∧ t.outputs.attention = true ∧
      t = refresh { s with link := { s.link with noticeTimer := .expired } })

/-- LINK_SILENCE_EXPIRY: the timer stays expired; outside the taking modes nothing else changes; in a taking mode the
waiting segments are written FLUSHED, oldest first, the running one takes LINK_LOST with a RAMP, over every standing
cause but LIFTED, and the part is in HALTED for LINK_LOST when no segment is left, or in STOPPING with halt pending.
A BACKOFF move in progress goes on, at rest in its HALT too; an unjam ends with the RAMP (R91, R92, R96, R97, R107, R110,
R111, R168, R178). That LINK_LOST drops a result still pending is the model's reading (log 17). -/
def Obligations.LinkSilenceHaltsThePart : Prop :=
  ∀ (s : State) (k : Nat), s.power = .ready → s.link.silence = .running k →
    (isTaking s.modes.mode = false →
      exec .linkSilenceExpiry s = .next (refresh { s with link := { s.link with silence := .expired } })) ∧
    (isTaking s.modes.mode = true →
      ∃ t, exec .linkSilenceExpiry s = .next t ∧ t.link = { s.link with silence := .expired } ∧ KeepsWorld s t ∧
        KeepsPlan s t ∧
        (t.segments.queue = [] → t.modes.mode = .halted ∧ t.modes.haltReason = .linkLost ∧
          t.latches = { s.latches with modeReached := true, halt := true }) ∧
        (t.segments.queue ≠ [] → t.modes.mode = .stopping ∧ t.modes.haltPending = true ∧
          t.latches = s.latches ∧ t.segments.queue = s.segments.queue.take 1) ∧
        (s.segments.running = none → t.segments = ⟨[], none, s.segments.completions ++
          s.segments.queue.map fun g => ⟨g, .flushed, false, 0, none, 0, s.link.timeBase⟩⟩) ∧
        (∀ c rest, s.segments.running = some c → s.segments.queue = c.segment :: rest →
          (∀ e, c.cause = some e → e.kind ≠ .lifted) →
          (s.atRest = false ∨ s.drive.stop.moveInProgress = true →
            t.segments = ⟨[c.segment], some { c with cause := some ⟨.linkLost, none⟩, phase := .stopping },
              s.segments.completions ++
                rest.map fun g => ⟨g, .flushed, false, 0, none, 0, s.link.timeBase⟩⟩ ∧
            t.drive = (if s.drive.stop = .none then rampFrom c.holdTarget s.drive else s.drive) ∧
            t.floor = (if s.floor.resultPending then { s.floor with response := none } else s.floor)) ∧
          (s.atRest = true → s.drive.stop.moveInProgress = false → s.drive.unjam = none ∨ s.drive.stop = .none →
            t.segments = ⟨[], none, s.segments.completions ++
              (rest.map fun g => ⟨g, .flushed, false, 0, none, 0, s.link.timeBase⟩) ++
              [⟨c.segment, .linkLost, c.cancelSeen,
                (match c.segment.motion with
                  | .line .. | .dock .. => c.progress.tdiv 1000
                  | _ => c.progress), none, s.drive.retries, s.link.timeBase⟩]⟩)))

/-- CONFIG_SET writes the nearest value of the item's range: `link_timeout` takes 1 to 49 as 50, and `rug_threshold`
stays below `floor_threshold`. A change of `spin_ticks` sets the heading remainder to 0 and one of `age_interval` the
ageing timer; nothing else changes. Outside CONFIG it is refused MODE, for no item BAD_FIELD. CONFIG_GET answers the
item's present value in every mode (R45, R151, R175). That the body of CONFIG_GET is the value alone is the model's
choice (log 13). -/
def Obligations.ConfigItemsAreSetAndRead : Prop :=
  ∀ (it : Byte) (value : Half) (s : State), s.power = .ready →
    exec (.configGet it) s = .next
      (if 1 ≤ it.toNat ∧ it.toNat ≤ 47 then answered 0x03 .ok (int16 (item s.config it.toNat)) s
        else answered 0x03 .badField [] s) ∧
    (s.modes.mode ≠ .config → exec (.configSet it value) s = .next (answered 0x02 .mode [] s)) ∧
    (s.modes.mode = .config → it.toNat = 0 ∨ 47 < it.toNat →
      exec (.configSet it value) s = .next (answered 0x02 .badField [] s)) ∧
    (s.modes.mode = .config → 1 ≤ it.toNat → it.toNat ≤ 47 → ConfigOk s.config →
      ∃ (v sent : Int) (row : ItemRow) (t : State), exec (.configSet it value) s = .next t ∧
        itemRows[it.toNat - 1]? = some row ∧
        sent = (if 23 ≤ it.toNat ∧ it.toNat ≤ 30 then value.toInt else (value.toNat : Int)) ∧
        v = (if it = 44 then (if sent = 0 then 0 else max 50 (min 2000 sent))
          else if it = 20 then min (min sent 254) (item s.config 19 - 1)
          else max row.lo (min row.hi sent)) ∧
        row.lo ≤ v ∧ v ≤ row.hi ∧
        (∀ n, 1 ≤ n → n ≤ 47 → item t.config n = if n = it.toNat then v else item s.config n) ∧
        t = refresh { s with
          config := t.config
          pose := if it = 9 ∧ v ≠ item s.config 9 then { s.pose with remainder := 0 } else s.pose
          ageing := if it = 35 ∧ v ≠ item s.config 35 then { s.ageing with timer := 0 } else s.ageing
          link := answerLink 0x02 .ok ([it] ++ int16 v) s })

/-- A mode request in a mode that the table excludes answers MODE with the present mode, and one refused because the
robot is lifted answers CONDITION with both lift levels; neither changes anything (R166). That the left level comes
first is the model's choice (log 13). -/
def Obligations.ModeRequestsAreRefusedByTheTable : Prop :=
  ∀ s : State, s.power = .ready →
    (s.modes.mode ≠ .config → exec .modeActive s = .next (answered 0x04 .mode [s.modes.mode.byte] s)) ∧
    (s.modes.mode = .config → exec .modeConfig s = .next (answered 0x05 .mode [s.modes.mode.byte] s)) ∧
    (s.modes.mode ≠ .active → exec .park s = .next (answered 0x06 .mode [s.modes.mode.byte] s)) ∧
    (s.modes.mode ≠ .parked → exec .wake s = .next (answered 0x07 .mode [s.modes.mode.byte] s)) ∧
    (s.modes.mode ≠ .halted → exec .resume s = .next (answered 0x08 .mode [s.modes.mode.byte] s)) ∧
    (s.lifted = true →
      (s.modes.mode = .config → exec .modeActive s = .next (answered 0x04 .condition
        [flagByte s.floor.lifts.left.debounced, flagByte s.floor.lifts.right.debounced] s)) ∧
      (s.modes.mode = .parked → exec .wake s = .next (answered 0x07 .condition
        [flagByte s.floor.lifts.left.debounced, flagByte s.floor.lifts.right.debounced] s)) ∧
      (s.modes.mode = .halted → exec .resume s = .next (answered 0x08 .condition
        [flagByte s.floor.lifts.left.debounced, flagByte s.floor.lifts.right.debounced] s)))

/-- MODE_ACTIVE in CONFIG and RESUME in HALTED, not lifted, enter ACTIVE and answer it; the halt reason stays, nothing is
latched, and nothing else changes. Both modes hold an empty queue (R100, R165, R166). -/
def Obligations.ModeActiveAndResumeEnterActive : Prop :=
  ∀ s : State, s.power = .ready → s.lifted = false → s.segments.queue = [] → s.segments.running = none →
    (s.modes.mode = .config → exec .modeActive s = .next (refresh { s with
      modes := { s.modes with mode := .active, wakeTimer := none }
      link := answerLink 0x04 .ok [1] s })) ∧
    (s.modes.mode = .halted → exec .resume s = .next (refresh { s with
      modes := { s.modes with mode := .active, wakeTimer := none }
      link := answerLink 0x08 .ok [1] s }))

/-- MODE_CONFIG goes to CONFIG at the request from HALTED and PARKED, and from the other modes when no segment is left
after the flush, as with a running one at rest, inside an unjam too, whose record comes last; with a segment still
moving, or one at rest whose record waits for a BACKOFF move or its observation result, it goes to STOPPING. The waiting
segments are written FLUSHED, oldest first, the moving one takes FLUSHED with a RAMP, one already stopping keeps its
cause, and nothing is latched (R91, R92, R96, R97, R107, R111, R165, R167). That the wake timer stops on every way out
of WAKING is the model's reading (log 18). -/
def Obligations.ModeConfigFlushesTheSegments : Prop :=
  ∀ s : State, s.power = .ready →
    (s.modes.mode = .halted ∨ s.modes.mode = .parked →
      ∃ t, exec .modeConfig s = .next t ∧ t.modes = { s.modes with mode := .config, wakeTimer := none } ∧
        WheelsReleased s.config s.drive t.drive ∧
        t = refresh { s with
          modes := t.modes
          drive := t.drive
          floor := { s.floor with cliffs := clearCliffs }
          link := answerLink 0x05 .ok [0] s }) ∧
    (isTaking s.modes.mode = true → s.segments.running = none →
      ∃ t, exec .modeConfig s = .next t ∧ t.modes = { s.modes with mode := .config, wakeTimer := none } ∧
        WheelsReleased s.config s.drive t.drive ∧
        t = refresh { s with
          modes := t.modes
          drive := t.drive
          floor := { s.floor with cliffs := clearCliffs }
          segments := ⟨[], none, s.segments.completions ++
            s.segments.queue.map fun g => ⟨g, .flushed, false, 0, none, 0, s.link.timeBase⟩⟩
          link := answerLink 0x05 .ok [0] s }) ∧
    (∀ c, isTaking s.modes.mode = true → RunsOn s c → s.atRest = false → s.drive.stop = .none →
      ∃ t, exec .modeConfig s = .next t ∧
        t = refresh { s with
          modes := { s.modes with mode := .stopping, wakeTimer := none }
          drive := rampFrom c.holdTarget s.drive
          segments := ⟨s.segments.queue.take 1,
            some { c with cause := some ⟨.flushed, none⟩, phase := .stopping },
            s.segments.completions ++
              s.segments.queue.tail.map fun g => ⟨g, .flushed, false, 0, none, 0, s.link.timeBase⟩⟩
          link := answerLink 0x05 .ok [2] s }) ∧
    (∀ c rest, isTaking s.modes.mode = true → s.modes.mode ≠ .stopping → s.segments.running = some c →
      c.cause = none → s.segments.queue = c.segment :: rest → s.atRest = true → s.floor.resultPending = false →
      s.drive.stop = .none →
      ∃ t, exec .modeConfig s = .next t ∧ WheelsReleased s.config s.drive t.drive ∧
        t = refresh { s with
          modes := { s.modes with mode := .config, wakeTimer := none }
          drive := { s.drive with wheels := t.drive.wheels, stop := .none, unjam := none }
          floor := { s.floor with cliffs := clearCliffs, response := none }
          dock := if s.dock.undock = .leaving then { s.dock with undock := .none } else s.dock
          segments := ⟨[], none, s.segments.completions ++
            (rest.map fun g => ⟨g, .flushed, false, 0, none, 0, s.link.timeBase⟩) ++
            [⟨c.segment, .flushed, c.cancelSeen,
              (match c.segment.motion with
                | .line .. | .dock .. => c.progress.tdiv 1000
                | _ => c.progress), none, s.drive.retries, s.link.timeBase⟩]⟩
          link := answerLink 0x05 .ok [0] s }) ∧
    (∀ c e rest, isTaking s.modes.mode = true → s.segments.running = some c → c.cause = some e →
      s.segments.queue = c.segment :: rest → ¬ AtRest s →
      exec .modeConfig s = .next (refresh { s with
        modes := { s.modes with mode := .stopping, wakeTimer := none }
        segments := ⟨[c.segment], some c, s.segments.completions ++
          rest.map fun g => ⟨g, .flushed, false, 0, none, 0, s.link.timeBase⟩⟩
        link := answerLink 0x05 .ok [2] s }))

/-- PARK in ACTIVE parks an idle part at rest with both guards clear at the request, latching nothing and turning the
sensor power off; with a segment running or a guard running the part is PARKING and runs on. A control period of PARKING
leaves PARKED, with MODE_REACHED latched, exactly where the queue is empty, the wheels are at rest and both guards are
clear, and the slew step that brings a stopping segment to rest with no guard started is such a one (R164, R165, R169).
That all this comes about inside the event is the model's reading (log 6). -/
def Obligations.ParkParksOrDrains : Prop :=
  (∀ s : State, s.power = .ready → s.modes.mode = .active →
    (s.segments.queue = [] → s.atRest = true → s.guardsClear = true →
      ∃ t, exec .park s = .next t ∧ WheelsReleased s.config s.drive t.drive ∧ t.outputs.sensorPower = false ∧
        t = refresh { s with
          modes := { s.modes with mode := .parked, wakeTimer := none }
          drive := t.drive
          floor := { s.floor with cliffs := clearCliffs }
          link := answerLink 0x06 .ok [5] s }) ∧
    ((∃ c, RunsOn s c) ∨
      (s.segments.queue = [] ∧ s.segments.running = none ∧ (s.atRest = false ∨ s.guardsClear = false)) →
      exec .park s = .next (refresh { s with
        modes := { s.modes with mode := .parking, wakeTimer := none }
        link := answerLink 0x06 .ok [4] s }))) ∧
  (∀ (order : List PeriodPart) (s : State), s.power = .ready → s.modes.mode = .parking → SegmentsOk s.segments →
    ∃ t, exec (.controlPeriodExpiry order) s = .next t ∧ (t.modes.mode = .parking ∨ t.modes.mode = .parked) ∧
      (t.modes.mode = .parked ↔ t.segments.queue = [] ∧
        (t.drive.wheels.left.setpoint = 0 ∧ t.drive.wheels.right.setpoint = 0) ∧
        (t.drive.wheels.left.guard = none ∧ t.drive.wheels.right.guard = none)) ∧
      (t.modes.mode = .parked → t.latches.modeReached = true ∧ t.outputs.sensorPower = false)) ∧
  (∀ (order : List PeriodPart) (s : State) (c : Context) (e : EndCause), s.power = .ready → s.modes.mode = .parking →
    (Instr.controlPeriodExpiry (.slew :: order)).wellFormed = true → s.segments.running = some c → c.cause = some e →
    s.segments.queue = [c.segment] → s.drive.stop = .ramp none → s.drive.unjam = none →
    s.floor.resultPending = false → s.lifted = false →
    s.drive.wheels.left.setpoint.natAbs ≤ decelStep s.config →
    s.drive.wheels.right.setpoint.natAbs ≤ decelStep s.config → s.guardsClear = true → reversalGuard s.config = 0 →
    ∃ t, exec (.controlPeriodExpiry (.slew :: order)) s = .next t ∧ t.modes.mode = .parked ∧
      t.latches.modeReached = true ∧ t.outputs.sensorPower = false ∧
      t.segments = ⟨[], none, s.segments.completions ++ [⟨c.segment, e.kind, c.cancelSeen,
        (match c.segment.motion with
          | .line .. | .dock .. => c.progress.tdiv 1000
          | _ => c.progress), e.record, s.drive.retries, s.link.timeBase⟩]⟩)

/-- WAKE in PARKED, not lifted, starts WAKING with its timer at 0 and the sensor power on; the timer's end leads to
ACTIVE with MODE_REACHED latched (R165, R169). -/
def Obligations.WakeLeadsToActive : Prop :=
  ∀ s : State, s.power = .ready →
    (s.modes.mode = .parked → s.lifted = false →
      ∃ t, exec .wake s = .next t ∧ t.outputs.sensorPower = true ∧
        t = refresh { s with
          modes := { s.modes with mode := .waking, wakeTimer := some 0 }
          link := answerLink 0x07 .ok [6] s }) ∧
    (∀ n, s.modes.mode = .waking → s.modes.wakeTimer = some n →
      ∃ t, exec .wakeTimerExpiry s = .next t ∧ KeepsWorld s t ∧ KeepsPlan s t ∧
        t.modes = { s.modes with mode := .active, wakeTimer := none } ∧
        t.latches = { s.latches with modeReached := true } ∧
        (s.segments.queue = [] → s.segments.running = none →
          t = refresh { s with modes := t.modes, latches := t.latches }))

/-- RESTART is refused BUSY while a store is writing; otherwise it clears the queues, the notices, the latched causes, the
halt reason, the drive, the cliff and bump states and the undock wait, keeps the rest, and leaves CONFIG (R34, R51,
R100, R118, R140, R154, R163, R174). That the Clearance Monitor's items stand until its next evaluation is the model's
reading (log 22). -/
def Obligations.RestartKeepsAndClears : Prop :=
  ∀ s : State, s.power = .ready →
    (s.modes.store ≠ .idle → exec .restart s = .next (answered 0x09 .busy [] s)) ∧
    (s.modes.store = .idle →
      ∃ t, exec .restart s = .next t ∧ WheelsReleased s.config s.drive t.drive ∧
        t.drive.wheels.left.target = 0 ∧ t.drive.wheels.right.target = 0 ∧ t.drive.stop = .none ∧
        t.drive.unjam = none ∧ t.drive.retries = 0 ∧ t.drive.releaseLatch = false ∧
        t.zones.centre = classAt s.table s.pose.px s.pose.py ∧ t.zones.probe = t.zones.centre ∧
        t.zones.limit = carriedLimit s.config s.table s.pose.px s.pose.py ∧
        t = refresh { s with
          segments := ⟨[], none, []⟩
          drive := t.drive
          zones := t.zones
          floor := { s.floor with
            cliffs := clearCliffs
            bumpers := ⟨⟨⟨s.lines.bumpers.left, s.lines.bumpers.left, none⟩, false⟩,
              ⟨⟨s.lines.bumpers.right, s.lines.bumpers.right, none⟩, false⟩⟩
            response := none }
          dock := { s.dock with undock := .none, undockTimer := none }
          modes := ⟨.config, .none, false, none, .idle⟩
          latches := clearLatches
          link := { answerLink 0x09 .ok [] s with notices := [], noticeTimer := .stopped } })

/-- STORE tests the mode, then the store state; accepted, it takes the image of the configuration and the pinned
records as they stand and starts WRITING. STORE_END writes what the read-back finds, and STORE_DONE holds OK where
that is the image (R173, R182). That STORE_END carries what the memory holds at the read-back, and that with no store
writing it has no effect, are the model's choices (log 12, log 4). -/
def Obligations.StoreWritesItsSnapshot : Prop :=
  ∀ s : State, s.power = .ready →
    (s.modes.mode ≠ .config → s.modes.mode ≠ .parked → exec .store s = .next (answered 0x0A .mode [] s)) ∧
    (s.modes.mode = .config ∨ s.modes.mode = .parked →
      (s.modes.store ≠ .idle → exec .store s = .next (answered 0x0A .busy [] s)) ∧
      (s.modes.store = .idle → exec .store s = .next (refresh { s with
        modes := { s.modes with store := .writing (imageOf s.config s.table) 0 }
        link := answerLink 0x0A .ok [] s }))) ∧
    (∀ (readBack : Option (List Byte)) (image : List Byte) (n : Nat), s.modes.store = .writing image n →
      exec (.storeEnd readBack) s = .next (refresh { s with
        nv := .written (readBack.getD image)
        modes := { s.modes with store := .idle }
        latches := { s.latches with
          storeDone := true
          storeFailed := decide (readBack ≠ none ∧ readBack ≠ some image) } })) ∧
    (∀ readBack, s.modes.store = .idle → exec (.storeEnd readBack) s = .next (refresh s))

/-- A start-up finds what a store wrote: the image of a configuration in its ranges and of pinned records in theirs is
good, gives the same configuration, but for a `rug_threshold` at or above `floor_threshold`, which becomes
`floor_threshold` - 1 (the model's reading, log 31), and places the same hazards, pinned and in the same order, in slots
0 onward at generation 1 (R20, R172, R173). -/
def Obligations.StoredImageComesBack : Prop :=
  ∀ (cfg : Settings) (t : Table), ConfigOk cfg → pinnedCount t ≤ 32 →
    (∀ h, h ∈ pinnedHazards t → HazardOk cfg h) →
    startUpSettings (.written (imageOf cfg t)) =
      (if rugThreshold cfg < floorThreshold cfg then cfg else setItem cfg 20 ((floorThreshold cfg : Int) - 1)) ∧
    (∀ k, k < (pinnedHazards t).length → ∃ h, (pinnedHazards t)[k]? = some h ∧
      slotAt (startUpTable (.written (imageOf cfg t))) k = ⟨1, some ⟨h, .host, true, 15, 0, 0, false⟩⟩) ∧
    (∀ k, (pinnedHazards t).length ≤ k → slotAt (startUpTable (.written (imageOf cfg t))) k = ⟨0, none⟩)

/-- An accepted RECORD_PUT, to the slot it names with its generation or to the lowest free slot, writes a HOST record
with the fields as taken, confidence 15, age 0, the flag clear and hits 0, or as they stood where the slot was live; a
free slot's generation advances. No other slot changes, and the change classifies both points, with the zone limit of
theirs, and judges a running LINE or DOCK (R2, R9, R11 to R13, R16, R26 to R31, R53, R62, R64, R65, R180, R181). -/
def Obligations.RecordPutWritesTheRecord : Prop :=
  ∀ (slot generation kind flags order : Byte) (g8 g10 g12 g14 limit : Half) (s : State) (k : Nat) (h : Hazard),
    s.power = .ready → k < 96 →
    ((slot.toNat = k ∧ generation = (slotAt s.table k).generation) ∨
      (slot = 0xFF ∧ (slotAt s.table k).record = none ∧ ∀ j, j < k → (slotAt s.table j).record ≠ none)) →
    takeHazard s.config kind order g8 g10 g12 g14 limit = some h →
    (flags.getLsbD 2 = true →
      (∃ r, (slotAt s.table k).record = some r ∧ r.pinned = true) ∨ pinnedCount s.table < 32) →
    ∃ (gen : Byte) (r : Record) (t : State),
      exec (.recordPut slot generation kind flags order g8 g10 g12 g14 limit) s = .next t ∧
      gen = (if (slotAt s.table k).record = none then (slotAt s.table k).generation + 1
        else (slotAt s.table k).generation) ∧
      r = ⟨h, .host, flags.getLsbD 2, 15, 0,
        (match (slotAt s.table k).record with
          | none => 0
          | some old => old.hits), false⟩ ∧
      slotAt t.table k = ⟨gen, some r⟩ ∧ (∀ j, j ≠ k → slotAt t.table j = slotAt s.table j) ∧
      Responds 0x0B .ok (recordBody s.config ⟨k, gen⟩ r) s t ∧
      t.zones.centre = classAt t.table s.pose.px s.pose.py ∧
      KeepsWorld s t ∧ t.config = s.config ∧ t.pose = s.pose ∧ t.ageing = s.ageing ∧
      (s.straightRunning = none → Settled s →
        KeepsMotion s t ∧ t.clearance = freshClearance ∧ ZoneReported .table s t ∧ CentreClassified t) ∧
      (∀ c, s.segments.running = some c → s.segments.queue ≠ [] → c.segment.motion.isStraight = true →
        JudgedAgain c s t)

/-- RECORD_PUT's checks come in the order of R11, and a refused put changes nothing but the response, whose body is the
one R16 gives. -/
def Obligations.RecordPutRefusalsFollowTheOrder : Prop :=
  ∀ (slot generation kind flags order : Byte) (g8 g10 g12 g14 limit : Half) (s : State), s.power = .ready →
    (96 ≤ slot.toNat → slot ≠ 0xFF →
      exec (.recordPut slot generation kind flags order g8 g10 g12 g14 limit) s =
        .next (answered 0x0B .badField [slot, kind] s)) ∧
    (slot.toNat < 96 ∨ slot = 0xFF → 8 ≤ kind.toNat →
      exec (.recordPut slot generation kind flags order g8 g10 g12 g14 limit) s =
        .next (answered 0x0B .badField [slot, kind] s)) ∧
    (slot.toNat < 96 → kind.toNat < 8 → generation ≠ (slotAt s.table slot.toNat).generation →
      exec (.recordPut slot generation kind flags order g8 g10 g12 g14 limit) s =
        .next (answered 0x0B .stale [slot, (slotAt s.table slot.toNat).generation,
          if (slotAt s.table slot.toNat).record = none then 0 else 1] s)) ∧
    (slot = 0xFF → kind.toNat < 8 → (∀ k, k < 96 → (slotAt s.table k).record ≠ none) →
      exec (.recordPut slot generation kind flags order g8 g10 g12 g14 limit) s =
        .next (answered 0x0B .tableFull [96, toByte (pinnedCount s.table)] s)) ∧
    (∀ k, k < 96 → kind.toNat < 8 → flags.getLsbD 2 = true → 32 ≤ pinnedCount s.table →
      ((slot.toNat = k ∧ generation = (slotAt s.table k).generation) ∨
        (slot = 0xFF ∧ (slotAt s.table k).record = none ∧ ∀ j, j < k → (slotAt s.table j).record ≠ none)) →
      (∀ r, (slotAt s.table k).record = some r → r.pinned = false) →
      exec (.recordPut slot generation kind flags order g8 g10 g12 g14 limit) s =
        .next (answered 0x0B .pinFull
          [toByte k, (slotAt s.table k).generation, toByte (pinnedCount s.table)] s))

/-- The fields of a record as RECORD_PUT takes them, kind by kind: coordinates clamped and then exchanged, a radius at
most 1000, a dock heading mod 4096, a limit of 0 absent and one above `speed_max` taken as `speed_max` (R3, R4, R14). -/
def Obligations.RecordFieldsAreTakenInRange : Prop :=
  ∀ (cfg : Settings) (order : Byte) (g8 g10 g12 g14 limit : Half) (clamp : Half → Int) (c : Sys2Proof.Machine.Circle) (b : Rect)
    (l : Option Nat),
    (∀ v : Half, clamp v = max (-30000) (min 30000 v.toInt)) →
    c = ⟨clamp g8, clamp g10, min g12.toNat 1000⟩ →
    b = ⟨min (clamp g8) (clamp g12), min (clamp g10) (clamp g14), max (clamp g8) (clamp g12),
      max (clamp g10) (clamp g14), order.toNat⟩ →
    l = (if limit = 0 then none else some (min limit.toNat (speedMax cfg))) →
    takeHazard cfg 0 order g8 g10 g12 g14 limit = some (.post c) ∧
    takeHazard cfg 1 order g8 g10 g12 g14 limit = some (.drop c) ∧
    takeHazard cfg 2 order g8 g10 g12 g14 limit = some (.dock c (g14.toNat % 4096)) ∧
    takeHazard cfg 3 order g8 g10 g12 g14 limit = some (.keepout b) ∧
    takeHazard cfg 4 order g8 g10 g12 g14 limit = some (.slow b l) ∧
    takeHazard cfg 5 order g8 g10 g12 g14 limit = some (.rug b l) ∧
    takeHazard cfg 6 order g8 g10 g12 g14 limit = some (.darkRug b l) ∧
    takeHazard cfg 7 order g8 g10 g12 g14 limit = some (.clear b) ∧
    (∀ kind h, takeHazard cfg kind order g8 g10 g12 g14 limit = some h → ConfigOk cfg → HazardOk cfg h)

/-- RECORD_GET answers a live slot with its record body, field by field, a free one NOT_LIVE with its generation, and any
other slot field BAD_FIELD; it changes nothing else (R17, R179). -/
def Obligations.RecordGetReturnsTheSlot : Prop :=
  ∀ (slot : Byte) (s : State), s.power = .ready →
    (∀ r, slot.toNat < 96 → (slotAt s.table slot.toNat).record = some r →
      exec (.recordGet slot) s = .next (answered 0x0C .ok
        ([slot, (slotAt s.table slot.toNat).generation, r.hazard.kind.byte,
          r.source.byte + (if r.pinned then 4 else 0) + 8 * (match r.source with
            | .host => 0
            | _ => if r.confidence < confirmLevel s.config then 1 else 2),
          toByte r.confidence, toByte r.age, toByte r.hits] ++
          (match r.hazard with
            | .post c | .drop c => [0] ++ int16 c.cx ++ int16 c.cy ++ int16 c.r ++ [0, 0] ++ [0, 0]
            | .dock c h => [0] ++ int16 c.cx ++ int16 c.cy ++ int16 c.r ++ int16 h ++ [0, 0]
            | .keepout b | .clear b =>
              [toByte b.order] ++ int16 b.x0 ++ int16 b.y0 ++ int16 b.x1 ++ int16 b.y1 ++ [0, 0]
            | .slow b l | .rug b l | .darkRug b l =>
              [toByte b.order] ++ int16 b.x0 ++ int16 b.y0 ++ int16 b.x1 ++ int16 b.y1 ++ int16 (l.getD 0))) s)) ∧
    (slot.toNat < 96 → (slotAt s.table slot.toNat).record = none →
      exec (.recordGet slot) s =
        .next (answered 0x0C .notLive [slot, (slotAt s.table slot.toNat).generation] s)) ∧
    (96 ≤ slot.toNat → exec (.recordGet slot) s = .next (answered 0x0C .badField [] s))

/-- RECORD_NEXT answers the first live slot at or above its start slot, without wrapping, or NOT_FOUND; it changes nothing
else (R18). -/
def Obligations.RecordNextFindsTheFirstLive : Prop :=
  ∀ (start : Byte) (s : State), s.power = .ready →
    (∀ k r, start.toNat ≤ k → k < 96 → (slotAt s.table k).record = some r →
      (∀ j, start.toNat ≤ j → j < k → (slotAt s.table j).record = none) →
      exec (.recordNext start) s =
        .next (answered 0x0E .ok (recordBody s.config ⟨k, (slotAt s.table k).generation⟩ r) s)) ∧
    ((∀ j, start.toNat ≤ j → j < 96 → (slotAt s.table j).record = none) →
      exec (.recordNext start) s = .next (answered 0x0E .notFound [] s))

/-- RECORD_RETIRE frees a live slot whose generation it names, keeps the generation, changes no other slot, classifies
both points, with the zone limit of theirs, and judges a running LINE or DOCK; every other case changes nothing (R2, R9,
R19, R26 to R31, R53, R62, R64,
R65, R180, R181). -/
def Obligations.RecordRetireFreesTheSlot : Prop :=
  ∀ (slot generation : Byte) (s : State), s.power = .ready →
    (96 ≤ slot.toNat → exec (.recordRetire slot generation) s = .next (answered 0x0D .badField [] s)) ∧
    (slot.toNat < 96 → (slotAt s.table slot.toNat).record = none →
      exec (.recordRetire slot generation) s =
        .next (answered 0x0D .notLive [slot, (slotAt s.table slot.toNat).generation] s)) ∧
    (slot.toNat < 96 → (slotAt s.table slot.toNat).record ≠ none →
      generation ≠ (slotAt s.table slot.toNat).generation →
      exec (.recordRetire slot generation) s =
        .next (answered 0x0D .stale [slot, (slotAt s.table slot.toNat).generation, 1] s)) ∧
    (slot.toNat < 96 → (slotAt s.table slot.toNat).record ≠ none →
      generation = (slotAt s.table slot.toNat).generation →
      ∃ t, exec (.recordRetire slot generation) s = .next t ∧
        slotAt t.table slot.toNat = ⟨generation, none⟩ ∧
        (∀ j, j ≠ slot.toNat → slotAt t.table j = slotAt s.table j) ∧
        Responds 0x0D .ok [slot, generation] s t ∧
        t.zones.centre = classAt t.table s.pose.px s.pose.py ∧
        KeepsWorld s t ∧ t.config = s.config ∧ t.pose = s.pose ∧ t.ageing = s.ageing ∧
        (s.straightRunning = none → Settled s →
          KeepsMotion s t ∧ t.clearance = freshClearance ∧ ZoneReported .table s t ∧ CentreClassified t) ∧
        (∀ c, s.segments.running = some c → s.segments.queue ≠ [] → c.segment.motion.isStraight = true →
          JudgedAgain c s t))

/-- The scan of a point takes the live rectangle that contains it, edges included, and comes first by order and then by
slot, and finds none only where no live rectangle contains it; a point in none is BARE (R22, R23). -/
def Obligations.RegionScanTakesTheFirst : Prop :=
  ∀ (t : Table) (x y : Int),
    (∀ l, scan t x y = some l ↔ IsLive t l ∧ ∃ b, l.record.hazard.rect? = some b ∧
      (b.x0 ≤ x ∧ x ≤ b.x1 ∧ b.y0 ≤ y ∧ y ≤ b.y1) ∧
      ∀ l' b', IsLive t l' → l'.record.hazard.rect? = some b' →
        (b'.x0 ≤ x ∧ x ≤ b'.x1 ∧ b'.y0 ≤ y ∧ y ≤ b'.y1) →
        b.order < b'.order ∨ (b.order = b'.order ∧ l.ref.slot ≤ l'.ref.slot)) ∧
    (scan t x y = none ↔ ∀ l b, IsLive t l → l.record.hazard.rect? = some b →
      ¬ (b.x0 ≤ x ∧ x ≤ b.x1 ∧ b.y0 ≤ y ∧ y ≤ b.y1)) ∧
    (scan t x y = none → classAt t x y = ⟨.bare, none⟩) ∧
    (∀ l, scan t x y = some l → (classAt t x y).record = some l.ref ∧
      some (classAt t x y).cls.byte = (match l.record.hazard with
        | .clear _ => some 1
        | .slow _ _ => some 2
        | .rug _ _ => some 3
        | .darkRug _ _ => some 4
        | .keepout _ => some 5
        | _ => none))

/-- POINT_QUERY answers the point after its clamp, the class, the deciding record, its order and the limit the class
carries there, and changes nothing else (R25, R33). That the order takes one byte is the model's reading (log 42). -/
def Obligations.PointQueryClassifiesThePoint : Prop :=
  ∀ (x y : Half) (s : State) (cx cy : Int), s.power = .ready →
    cx = max (-30000) (min 30000 x.toInt) → cy = max (-30000) (min 30000 y.toInt) →
    (scan s.table cx cy = none →
      exec (.pointQuery x y) s =
        .next (answered 0x0F .ok (int16 cx ++ int16 cy ++ [0, 255, 0, 0, 0, 0]) s)) ∧
    (∀ l b, scan s.table cx cy = some l → l.record.hazard.rect? = some b →
      exec (.pointQuery x y) s =
        .next (answered 0x0F .ok (int16 cx ++ int16 cy ++
          [(classAt s.table cx cy).cls.byte, toByte l.ref.slot, l.ref.generation, toByte b.order] ++
          int16 (match l.record.hazard with
            | .slow _ limit => limit.getD (slowLimit s.config)
            | .rug _ limit | .darkRug _ limit => limit.getD (rugLimit s.config)
            | _ => 0)) s))

/-- PATH_QUERY takes the least gap of the live circle records in the path, ties to the lowest slot, and answers it with
its gap term, the probe point's class and the verdict; it changes nothing else (R54 to R57, R70, R71). -/
def Obligations.PathQueryFindsTheLeastGap : Prop :=
  ∀ (heading : Half) (direction : Byte) (s : State), s.power = .ready →
    (1 < direction.toNat → exec (.pathQuery heading direction) s = .next (answered 0x10 .badField [] s)) ∧
    (direction.toNat ≤ 1 → ∀ (d : Direction) (gap : Live → Option Nat) (probe : ClassResult),
      d = directionOf (heading.toNat % 4096) (decide (direction = 1)) →
      (∀ l, gap l = match l.record.hazard with
        | .post c | .drop c | .dock c _ =>
          let along := ((c.cx - s.pose.px) * d.c + (c.cy - s.pose.py) * d.s) / 4096
          let lat := (((c.cy - s.pose.py) * d.c - (c.cx - s.pose.px) * d.s).natAbs : Int) / 4096
          let reach : Int := robotRadius s.config + c.r + clearMargin s.config + s.pose.u
          if -reach < along ∧ lat < reach then some (max 0 (along - reach)).toNat else none
        | _ => none) →
      probe = classAt s.table (s.pose.px + probeDistance s.config * d.c / 4096)
        (s.pose.py + probeDistance s.config * d.s / 4096) →
      ((∀ l, IsLive s.table l → gap l = none) →
        exec (.pathQuery heading direction) s = .next (answered 0x10 .ok
          (int16 (heading.toNat % 4096 : Nat) ++ [direction, toByte s.pose.u, 255, 255, 255, 0, 255, 255,
            probe.cls.byte] ++ refBytes probe.record ++ [if probe.cls = .keepout then 2 else 0]) s)) ∧
      (∀ l g, IsLive s.table l → gap l = some g →
        (∀ l' g', IsLive s.table l' → gap l' = some g' → g < g' ∨ (g = g' ∧ l.ref.slot ≤ l'.ref.slot)) →
        exec (.pathQuery heading direction) s = .next (answered 0x10 .ok
          (int16 (heading.toNat % 4096 : Nat) ++ [direction, toByte s.pose.u] ++ int16 (min g 65534 : Nat) ++
            [toByte l.ref.slot, l.ref.generation] ++ int16 (min (g * guardGain s.config / 4) 65535 : Nat) ++
            [probe.cls.byte] ++ refBytes probe.record ++
            [if g < blockGap s.config then 1 else if probe.cls = .keepout then 2 else 0]) s)))

/-- POSE_SET replaces the pose by the values as taken, answers them, and classifies the centre with cause POSE_FIX; with
no LINE or DOCK running the zone limit is the centre's, the motion stays as it was, and a ZONE_CHANGED that is due joins
the notices (R26 to R31, R46, R47, R180, R181). -/
def Obligations.PoseSetReplacesThePose : Prop :=
  ∀ (x y heading u : Half) (s : State) (cx cy : Int), s.power = .ready →
    cx = max (-30000) (min 30000 x.toInt) → cy = max (-30000) (min 30000 y.toInt) →
    ∃ t, exec (.poseSet x y heading u) s = .next t ∧
      t.pose = ⟨cx * 1000, cy * 1000, heading.toNat % 4096, 0, min u.toNat 255, 0, min u.toNat 255, s.pose.ticks,
        s.pose.levels⟩ ∧
      Responds 0x11 .ok (int16 cx ++ int16 cy ++ int16 (heading.toNat % 4096 : Nat) ++ [toByte (min u.toNat 255)]) s t ∧
      t.zones.centre = classAt s.table cx cy ∧
      KeepsWorld s t ∧ t.table = s.table ∧ t.config = s.config ∧ t.ageing = s.ageing ∧
      (s.straightRunning = none → Settled s →
        KeepsMotion s t ∧ t.clearance = freshClearance ∧ ZoneReported .poseFix s t ∧ CentreClassified t)

/-- POSE_GET answers the position in whole millimetres, the heading, the uncertainty, the distance since fix in
millimetres up to 65535 and the docked flag, and changes nothing else (R49). -/
def Obligations.PoseGetReturnsThePose : Prop :=
  ∀ s : State, s.power = .ready →
    exec .poseGet s = .next (answered 0x12 .ok
      (int16 (s.pose.xUm / 1000) ++ int16 (s.pose.yUm / 1000) ++ int16 s.pose.heading ++ [toByte s.pose.u] ++
        int16 (if 65535 ≤ s.pose.distance / 1000 then 65535 else (s.pose.distance / 1000 : Nat)) ++
        [if s.dock.docked then 1 else 0]) s)

/-- A control period expiry integrates the ticks of the period into the pose, rule by rule, classifies the centre with
cause ODOMETRY and starts the period timer again; with no LINE or DOCK, the zone limit is the centre's, and an idle part
outside PARKING, with no stop in progress, changes nothing else but its wheels and what ZONE_CHANGED reports. Turning one
way and back by the same ticks returns the heading and the remainder exactly (R26 to R31, R37 to R42, R180, R181). A
running LINE or DOCK is judged at the new pose, with the zone limit of the centre and the probe point and its progress
before or after the period's travel as the order of the blocks has it: it runs on where nothing ends it, and a blocking
cause found first is its end cause, with a RAMP (R27, R29, R53, R62, R64, R65, R90). The order of the blocks is the
command's operand: the model's form (log 7). -/
def Obligations.ControlPeriodIntegratesThePose : Prop :=
  (∀ (order : List PeriodPart) (s : State) (dl dr d acc dh : Int) (i dist : Nat), s.power = .ready →
    (Instr.controlPeriodExpiry order).wellFormed = true →
    dl = max (-2000) (min 2000 s.pose.ticks.left) → dr = max (-2000) (min 2000 s.pose.ticks.right) →
    d = (dl + dr) * tickLength s.config → acc = s.pose.remainder + (dr - dl) * 4096 →
    dh = acc / (spinTicks s.config : Int) → i = (s.pose.heading + 32) / 64 % 64 →
    dist = min (s.pose.distance + d.natAbs / 2) 2147483647 →
    ∃ t, exec (.controlPeriodExpiry order) s = .next t ∧
      t.pose =
        { xUm := max (-30000000) (min 30000000 (s.pose.xUm + (d * cosAt i).tdiv 8192))
          yUm := max (-30000000) (min 30000000 (s.pose.yUm + (d * sinAt i).tdiv 8192))
          heading := ((s.pose.heading + dh) % 4096).toNat
          remainder := (acc - dh * spinTicks s.config).toNat
          uFix := s.pose.uFix
          distance := dist
          u := min 255 (s.pose.uFix + dist / 1000 * driftRate s.config / 1000)
          ticks := ⟨0, 0⟩
          levels := s.pose.levels } ∧
      t.drive.periodMs = 0 ∧ t.zones.centre = classAt s.table t.pose.px t.pose.py ∧
      KeepsWorld s t ∧ t.table = s.table ∧ t.config = s.config ∧ t.ageing = s.ageing ∧
      (s.straightRunning = none → t.segments.completions = s.segments.completions →
        t.segments.running.map Context.segment = s.segments.running.map Context.segment → CentreClassified t) ∧
      (Idle s → ZoneReported .odometry s t ∧ (s.drive.stop = .none → t.drive.stop = .none) ∧
        t = refresh { s with
          pose := t.pose
          zones := t.zones
          clearance := freshClearance
          drive := { s.drive with wheels := t.drive.wheels, stop := t.drive.stop, periodMs := 0 }
          latches := t.latches
          link := { s.link with notices := t.link.notices, noticeTimer := t.link.noticeTimer } })) ∧
  (∀ (order : List PeriodPart) (s : State) (c : Context), s.power = .ready →
    (Instr.controlPeriodExpiry order).wellFormed = true → SegmentsOk s.segments → s.segments.running = some c →
    c.segment.motion.isStraight = true →
    ∃ t, exec (.controlPeriodExpiry order) s = .next t ∧
      ∀ (d : Direction) (found : Option InPath) (probe : ClassResult) (free : Prop),
        d = directionOf t.pose.heading c.segment.motion.isReverse →
        found = constraining s.config s.table t.pose d (!c.segment.motion.isDock) →
        probe = classAt s.table (t.pose.px + probeDistance s.config * d.c / 4096)
          (t.pose.py + probeDistance s.config * d.s / 4096) →
        (free ↔ (∀ p, found = some p → blockGap s.config ≤ p.gap) ∧ probe.cls ≠ .keepout) →
        (∀ e, t.segments.running = some e → e.segment = c.segment →
          ClearanceJudged (if order.idxOf .segment < order.idxOf .monitor then e else c) found probe t ∧
          (¬ free → e.cause ≠ none)) ∧
        (c.cause = none → s.drive.stop = .none → free → ∀ grown : Int,
          grown = max (-32767000) (min 32767000 (c.progress + c.segment.motion.sigma *
            ((max (-2000) (min 2000 s.pose.ticks.left) + max (-2000) (min 2000 s.pose.ticks.right)) *
              tickLength s.config).tdiv 2)) →
          (match c.segment.motion with
            | .line _ distance _ _ => 2 < (distance : Int) - grown.tdiv 1000
            | .dock distance _ => 0 < (distance : Int) - grown.tdiv 1000
            | _ => False) →
          t.segments = { s.segments with running := some { c with progress := grown } } ∧ t.drive.stop = .none) ∧
        (∀ (rest : List PeriodPart) (e : EndCause), order = .monitor :: rest → c.cause = none → s.drive.stop = .none →
          (∃ p, found = some p ∧ p.gap < blockGap s.config ∧ e = ⟨.blocked, some p.ref⟩) ∨
            ((∀ p, found = some p → blockGap s.config ≤ p.gap) ∧ probe.cls = .keepout ∧
              e = ⟨.blockedZone, probe.record⟩) →
          (s.atRest = false → ∀ x, t.segments.running = some x → x.segment = c.segment →
            x.cause = some e ∧ x.phase = .stopping ∧ ∃ base, t.drive.stop = .ramp base) ∧
          (s.atRest = true → s.floor.resultPending = false →
            ∃ more, t.segments.completions = s.segments.completions ++ ⟨c.segment, e.kind, c.cancelSeen,
              c.progress.tdiv 1000, e.record, s.drive.retries, s.link.timeBase⟩ :: more))) ∧
  (∀ (cfg : Settings) (p : Pose) (dl dr : Int), ConfigOk cfg → PoseRanges cfg p →
    (odometry cfg dr dl (odometry cfg dl dr p)).heading = p.heading ∧
    (odometry cfg dr dl (odometry cfg dl dr p)).remainder = p.remainder)

/-- At a control period expiry the running segment's progress takes the period's travel in its own direction, or its
turn, in whatever order the blocks act; its start heading, hold target and cancel_seen stay (R44, R74, R77, R79). One
with no end cause that reaches its own ending takes it, COMPLETED for a LINE or a SPIN and DOCK_MISSED for a DOCK, with
a RAMP, or is written at once where both setpoints are 0; a monitor that acts first may block a LINE or DOCK before it.
Over CANCELLED a LINE or a SPIN takes COMPLETED; every other standing cause stays (R77, R79, R80, R90 to R92, R107,
R161). A BACKOFF move's progress grows against the segment's direction: the move goes on below `backoff_distance` and
ends in CLOSE, both targets 0, at the period that reaches it; the slew step takes HALT to REVERSE with progress 0 (R110,
R112). The order of the blocks is the command's operand: the model's form (log 7). That the progress of a move does not
fall below 0 and is held in REVERSE alone is the model's reading (log 19, log 41). -/
def Obligations.TravelJoinsTheProgress : Prop :=
  ∀ (order : List PeriodPart) (s : State) (c : Context) (dl dr dh grown : Int), s.power = .ready →
    (Instr.controlPeriodExpiry order).wellFormed = true → SegmentsOk s.segments → s.segments.running = some c →
    dl = max (-2000) (min 2000 s.pose.ticks.left) → dr = max (-2000) (min 2000 s.pose.ticks.right) →
    dh = (s.pose.remainder + (dr - dl) * 4096) / (spinTicks s.config : Int) →
    grown = (match c.segment.motion with
      | .line .. | .dock .. => max (-32767000) (min 32767000
          (c.progress + c.segment.motion.sigma * ((dl + dr) * tickLength s.config).tdiv 2))
      | .spin .. => max (-32767) (min 32767 (c.progress + dh))
      | .pause _ => c.progress) →
    ∃ t, exec (.controlPeriodExpiry order) s = .next t ∧
      (∀ p q : Int, s.drive.stop = .backoffReverse p →
        q = max 0 (p - c.segment.motion.sigma * ((dl + dr) * tickLength s.config).tdiv 2) →
        (q < (backoffDistance s.config : Int) * 1000 → t.drive.stop = .backoffReverse q ∧
          t.segments.running.map Context.segment = some c.segment) ∧
        ((backoffDistance s.config : Int) * 1000 ≤ q →
          ∀ e, t.segments.running = some e → e.segment = c.segment →
            t.drive.stop = .backoffClose ∧ TargetsZero t.drive)) ∧
      (s.drive.stop = .backoffHalt → order.idxOf .drive < order.idxOf .slew → t.drive.stop = .backoffReverse 0) ∧
      (∀ rest, order = .slew :: rest → t.drive.wheels.left.setpoint ≠ 0 ∨ t.drive.wheels.right.setpoint ≠ 0 →
        t.segments.running.map Context.segment = some c.segment) ∧
      (∀ kind, ReachedEnding c.segment.motion grown kind → c.cause = none → s.drive.stop = .none →
        order.idxOf .segment < order.idxOf .monitor ∨ c.segment.motion.isStraight = false →
        (∀ e, t.segments.running = some e → e.segment = c.segment → e.phase = .stopping ∧ t.drive.unjam = none ∧
          (order.idxOf .slew < order.idxOf .segment → t.drive.stop = .ramp (rampBaseOf c.holdTarget t.drive)) ∧
          (order.idxOf .segment < order.idxOf .slew → t.drive.stop = .ramp ((rampBaseOf c.holdTarget s.drive).map
            fun r => if 0 < r then max 0 (r - decelStep s.config) else min 0 (r + decelStep s.config)))) ∧
        (s.atRest = true → s.floor.resultPending = false → order.idxOf .segment < order.idxOf .slew →
          ∃ more, t.segments.completions = s.segments.completions ++ ⟨c.segment, kind, c.cancelSeen,
            (match c.segment.motion with
              | .line .. | .dock .. => grown.tdiv 1000
              | _ => grown), none, s.drive.retries, s.link.timeBase⟩ :: more)) ∧
      ∀ e, t.segments.running = some e → e.segment = c.segment →
        e.progress = grown ∧ e.startHeading = c.startHeading ∧ e.holdTarget = c.holdTarget ∧
        e.cancelSeen = c.cancelSeen ∧
        (∀ kind, ReachedEnding c.segment.motion grown kind →
          (∀ x, c.cause = some x → x.kind = .cancelled → kind = .completed → e.cause = some ⟨.completed, none⟩) ∧
          (c.cause = none → e.cause = some ⟨kind, none⟩ ∨
            (c.segment.motion.isStraight = true ∧ order.idxOf .monitor < order.idxOf .segment ∧
              ∃ x, e.cause = some x ∧ (x.kind = .blocked ∨ x.kind = .blockedZone)))) ∧
        (∀ x, c.cause = some x → x.kind ≠ .cancelled ∨ ¬ ReachedEnding c.segment.motion grown .completed →
          e.cause = some x) ∧
        (c.cause = none → c.segment.motion.isStraight = false →
          (∀ kind, ¬ ReachedEnding c.segment.motion grown kind) → e.cause = none)

/-- A slew step that comes first in its control period takes its targets from the table of R105, clamped to
`speed_max`, and moves each setpoint as R103 and R104 give; held at rest, both targets and setpoints are 0. The targets
stand at the end of the period where the parts after the slew step end nothing; where one does, it keeps them or sets
both to 0 (R76, R78, R105 to R107, R110, R114, R117). The order of the blocks is the command's operand: the model's form
(log 7). That a part which ends something keeps the targets it does not set to 0 is the model's reading (log 33). -/
def Obligations.WheelTargetsFollowTheTable : Prop :=
  ∀ (rest : List PeriodPart) (s : State), s.power = .ready →
    (Instr.controlPeriodExpiry (.slew :: rest)).wellFormed = true →
    ∃ t, exec (.controlPeriodExpiry (.slew :: rest)) s = .next t ∧
      (s.heldAtRest = true → t.drive.wheels.left.setpoint = 0 ∧ t.drive.wheels.right.setpoint = 0 ∧
        t.drive.wheels.left.target = 0 ∧ t.drive.wheels.right.target = 0) ∧
      (s.heldAtRest = false → ∀ l r cl cr : Int, TargetRow s t.pose.heading l r →
        cl = max (-(speedMax s.config : Int)) (min (speedMax s.config) l) →
        cr = max (-(speedMax s.config : Int)) (min (speedMax s.config) r) →
        (EndsNothing s t → t.drive.wheels.left.target = cl ∧ t.drive.wheels.right.target = cr) ∧
        ((t.drive.wheels.left.target = cl ∧ t.drive.wheels.right.target = cr) ∨ TargetsZero t.drive) ∧
        (∀ v, SlewRow s.config s.drive.wheels.left.guard s.drive.wheels.left.setpoint cl v →
          t.drive.wheels.left.setpoint = v) ∧
        (∀ v, SlewRow s.config s.drive.wheels.right.guard s.drive.wheels.right.setpoint cr v →
          t.drive.wheels.right.setpoint = v))

/-- A control period expiry changes a setpoint by at most the larger of `accel_step` and `decel_step`, and never takes it
above `speed_max`, in whatever order the blocks act (R103). That the order is the command's operand, and that one which
does not name each block once stands for the canonical order, is the model's form (log 7). -/
def Obligations.SetpointsMoveByOneStep : Prop :=
  ∀ (order : List PeriodPart) (s : State), s.power = .ready → DriveOk s →
    ∃ t, exec (.controlPeriodExpiry order) s = .next t ∧
      (t.drive.wheels.left.setpoint - s.drive.wheels.left.setpoint).natAbs ≤
        max (accelStep s.config) (decelStep s.config) ∧
      (t.drive.wheels.right.setpoint - s.drive.wheels.right.setpoint).natAbs ≤
        max (accelStep s.config) (decelStep s.config) ∧
      t.drive.wheels.left.setpoint.natAbs ≤ speedMax s.config ∧
      t.drive.wheels.right.setpoint.natAbs ≤ speedMax s.config

/-- An encoder edge counts +1 or -1 by the table of R36, reloads the wheel's running stall timer with the length that the
centre class gives, and takes the new levels as reference; a change of both channels counts nothing (R36, R115). During
start-up the line is not watched and only its level changes (section 10.4); that it is so without power too is the
model's reading (log 4). -/
def Obligations.EncoderEdgeCountsTheTick : Prop :=
  ∀ (wheel : Side) (a b : Bool) (s : State) (ahead : List (Levels × Levels)) (tick : Int) (rug : Bool),
    ahead = [(⟨false, false⟩, ⟨true, false⟩), (⟨true, false⟩, ⟨true, true⟩), (⟨true, true⟩, ⟨false, true⟩),
      (⟨false, true⟩, ⟨false, false⟩)] →
    tick = (if (s.pose.levels.get wheel, (⟨a, b⟩ : Levels)) ∈ ahead then 1
      else if ((⟨a, b⟩ : Levels), s.pose.levels.get wheel) ∈ ahead then -1 else 0) →
    (rug = true ↔ s.zones.centre.cls = .rug ∨ s.zones.centre.cls = .darkRug) →
    (s.power = .ready → exec (.encoderEdge wheel a b) s = .next (refresh { s with
      lines := { s.lines with encoders := s.lines.encoders.set wheel ⟨a, b⟩ }
      pose := { s.pose with
        ticks := s.pose.ticks.set wheel (s.pose.ticks.get wheel + tick)
        levels := s.pose.levels.set wheel ⟨a, b⟩ }
      drive := if tick = 0 then s.drive else { s.drive with
        wheels := s.drive.wheels.set wheel { s.drive.wheels.get wheel with
          stall := (s.drive.wheels.get wheel).stall.map fun _ =>
            ⟨0, if rug then 2 * stallTime s.config else stallTime s.config, rug⟩ } } })) ∧
    (s.power ≠ .ready → exec (.encoderEdge wheel a b) s = .next { s with
      lines := { s.lines with encoders := s.lines.encoders.set wheel ⟨a, b⟩ } })

/-- A stall timer's expiry, by the state of the running segment: an unjam while retries are left, then STALL with the
stop of `stall_response`, a RELEASE ending the segment at once in every mode; with a cause standing the stop goes on,
but a BACKOFF move is ended by a HARD stop, with the record where its result has come; on a rug a length not yet doubled
is doubled instead (R90 to R92, R107, R115 to R117, R136, R167 to R169). The expiry of a stopped timer has no effect: the
model's choice (log 4). That the record is written inside the event is the model's reading (log 6), and that a RELEASE
sets the targets to 0 at its request the model's choice (log 33). -/
def Obligations.StallTimerStartsUnjamsThenStops : Prop :=
  ∀ (wheel : Side) (s : State), s.power = .ready →
    ((s.drive.wheels.get wheel).stall = none → exec (.stallTimerExpiry wheel) s = .next (refresh s)) ∧
    (∀ timer, (s.drive.wheels.get wheel).stall = some timer → s.onRug = true → timer.doubled = false →
      exec (.stallTimerExpiry wheel) s = .next (refresh { s with drive := { s.drive with
        wheels := s.drive.wheels.set wheel { s.drive.wheels.get wheel with
          stall := some ⟨timer.length, 2 * stallTime s.config, true⟩ } } })) ∧
    (∀ timer c reload, (s.drive.wheels.get wheel).stall = some timer → (s.onRug = true → timer.doubled = true) →
      reload = (⟨0, if s.onRug then 2 * stallTime s.config else stallTime s.config, s.onRug⟩ : StallTimer) →
      s.segments.queue ≠ [] → s.segments.running = some c →
      (c.cause = none → s.drive.retries < stallRetries s.config →
        ∃ u t, exec (.stallTimerExpiry wheel) s = .next t ∧ u.elapsed = 0 ∧
          (∀ side, u.targets.get side = -(if (s.drive.wheels.get side).setpoint ≠ 0
            then (s.drive.wheels.get side).setpoint.sign else (s.drive.wheels.get side).target.sign) *
            (min (creepSpeed s.config) (speedMax s.config) : Nat)) ∧
          t = refresh { s with
            drive := { s.drive with
              retries := s.drive.retries + 1
              unjam := some u
              wheels := ⟨{ s.drive.wheels.left with stall := s.drive.wheels.left.stall.map fun _ => reload },
                { s.drive.wheels.right with stall := s.drive.wheels.right.stall.map fun _ => reload }⟩ }
            segments := { s.segments with running := some { c with phase := .unjam } } }) ∧
      (c.cause = none → stallRetries s.config ≤ s.drive.retries → s.atRest = false → s.drive.stop = .none →
        stallResponseCode s.config ≠ 1 →
        exec (.stallTimerExpiry wheel) s = .next (refresh { s with
          drive := rampFrom c.holdTarget { s.drive with
            wheels := s.drive.wheels.set wheel { s.drive.wheels.get wheel with stall := some reload } }
          segments := { s.segments with
            running := some { c with cause := some ⟨.stall, none⟩, phase := .stopping } } })) ∧
      (c.cause = none → stallRetries s.config ≤ s.drive.retries → stallResponseCode s.config = 1 →
        s.drive.stop = .none → s.floor.resultPending = false → s.segments.queue = [c.segment] →
        s.modes.mode ≠ .stopping → s.modes.mode ≠ .parking →
        ∃ t, exec (.stallTimerExpiry wheel) s = .next t ∧ WheelsReleased s.config s.drive t.drive ∧
          t.drive.releaseLatch = true ∧
          t.segments = ⟨[], none, s.segments.completions ++ [⟨c.segment, .stall, c.cancelSeen,
            (match c.segment.motion with
              | .line .. | .dock .. => c.progress.tdiv 1000
              | _ => c.progress), none, s.drive.retries, s.link.timeBase⟩]⟩) ∧
      (∀ rest, c.cause = none → stallRetries s.config ≤ s.drive.retries → stallResponseCode s.config = 1 →
        s.drive.stop = .none → s.floor.resultPending = false → s.segments.queue = c.segment :: rest →
        ∃ t more, exec (.stallTimerExpiry wheel) s = .next t ∧ WheelsReleased s.config s.drive t.drive ∧
          t.segments.completions = s.segments.completions ++ ⟨c.segment, .stall, c.cancelSeen,
            (match c.segment.motion with
              | .line .. | .dock .. => c.progress.tdiv 1000
              | _ => c.progress), none, s.drive.retries, s.link.timeBase⟩ :: more ∧
          (rest = [] → more = [] ∧ t.segments.queue = [] ∧ t.segments.running = none ∧ t.drive.releaseLatch = true ∧
            (s.modes.mode = .stopping → s.modes.haltPending = false →
              t.modes = { s.modes with mode := .config, wakeTimer := none } ∧
              t.latches = { s.latches with modeReached := true }) ∧
            (s.modes.mode = .stopping → s.modes.haltPending = true →
              t.modes = { s.modes with
                mode := .halted
                wakeTimer := none
                haltReason := .linkLost
                haltPending := false } ∧
              t.latches = { s.latches with modeReached := true, halt := true }) ∧
            (s.modes.mode = .parking → t.modes.mode =
              if t.drive.wheels.left.guard = none ∧ t.drive.wheels.right.guard = none then .parked else .parking))) ∧
      (∀ e, c.cause = some e → s.drive.stop.moveInProgress = false → s.atRest = false →
        exec (.stallTimerExpiry wheel) s = .next (refresh { s with drive := { s.drive with
          wheels := s.drive.wheels.set wheel { s.drive.wheels.get wheel with stall := some reload } } })) ∧
      (∀ e, c.cause = some e → s.drive.stop.moveInProgress = true → s.floor.resultPending = true →
        ∃ t, exec (.stallTimerExpiry wheel) s = .next t ∧ WheelsReleased s.config s.drive t.drive ∧
          t.drive.stop = .hard ∧ t = refresh { s with drive := t.drive }) ∧
      (∀ e rest, c.cause = some e → s.drive.stop.moveInProgress = true → s.floor.resultPending = false →
        s.segments.queue = c.segment :: rest →
        ∃ t more, exec (.stallTimerExpiry wheel) s = .next t ∧ WheelsReleased s.config s.drive t.drive ∧
          t.segments.completions = s.segments.completions ++ ⟨c.segment, e.kind, c.cancelSeen,
            (match c.segment.motion with
              | .line .. | .dock .. => c.progress.tdiv 1000
              | _ => c.progress), e.record, s.drive.retries, s.link.timeBase⟩ :: more ∧
          (rest = [] → more = [] ∧ t.segments.queue = [] ∧ t.segments.running = none)))

/-- The end of an unjam hands the wheels back to the segment, which is MOVING again; the end of a reversal guard
clears it, and PARKING that waited for it becomes PARKED with MODE_REACHED latched (R89, R104, R117, R169). The end of
an unjam or a guard that does not run has no effect: the model's choice (log 4). -/
def Obligations.UnjamAndGuardEnd : Prop :=
  ∀ s : State, s.power = .ready →
    (∀ u c, s.drive.unjam = some u → s.segments.running = some c →
      exec .unjamEnd s = .next (refresh { s with
        drive := { s.drive with unjam := none }
        segments := { s.segments with
          running := some { c with phase := if c.phase = .unjam then .moving else c.phase } } })) ∧
    (s.drive.unjam = none → exec .unjamEnd s = .next (refresh s)) ∧
    (∀ wheel g, (s.drive.wheels.get wheel).guard = some g →
      (Settled s → s.modes.mode ≠ .parking →
        exec (.reversalGuardExpiry wheel) s = .next (refresh { s with drive := { s.drive with
          wheels := s.drive.wheels.set wheel { s.drive.wheels.get wheel with guard := none } } })) ∧
      (s.modes.mode = .parking → s.segments.queue = [] → s.segments.running = none → s.atRest = true →
        (s.drive.wheels.get (otherSide wheel)).guard = none →
        ∃ t, exec (.reversalGuardExpiry wheel) s = .next t ∧
          t.modes = { s.modes with mode := .parked, wakeTimer := none } ∧
          t.latches = { s.latches with modeReached := true } ∧ t.outputs.sensorPower = false ∧
          t.drive.wheels.left.guard = none ∧ t.drive.wheels.right.guard = none)) ∧
    (∀ wheel, (s.drive.wheels.get wheel).guard = none →
      exec (.reversalGuardExpiry wheel) s = .next (refresh s))

/-- A POSE_SET during a LINE or a DOCK judges it at the new pose: the gap of the least record in the path, its gap term,
the allowance as the least of its terms, and BLOCKED or BLOCKED_ZONE with a RAMP where the gap is below `block_gap` or
the probe point reads KEEPOUT, the record written at once where the wheels are at rest (R27, R46, R53, R54, R57 to R66,
R90, R92, R107). -/
def Obligations.PoseFixJudgesTheRunningSegment : Prop :=
  ∀ (x y heading u : Half) (s : State) (c : Context), s.power = .ready → s.segments.running = some c →
    s.segments.queue ≠ [] → c.segment.motion.isStraight = true →
    ∃ t, exec (.poseSet x y heading u) s = .next t ∧ t.table = s.table ∧ t.config = s.config ∧
      t.pose.px = max (-30000) (min 30000 x.toInt) ∧ t.pose.py = max (-30000) (min 30000 y.toInt) ∧
      t.pose.heading = heading.toNat % 4096 ∧ t.pose.u = min u.toNat 255 ∧ JudgedAgain c s t

/-- An accepted SEGMENT_ADD takes its parameters as R83 gives, joins the tail of the queue and answers the segment body as
taken with its place and the counts. Behind a running segment, one that is stopping among them, and in WAKING, nothing
else changes; in an idle part it starts at once, or ends at its admission with travelled 0 (R73, R82, R83, R86, R87).
That a set hold flag is shown as 1 is the model's choice (log 32). -/
def Obligations.SegmentAddJoinsTheQueue : Prop :=
  (∀ (cfg : Settings) (direction hold : Byte) (amount speed : Half) (v : Nat),
    v = (if speed = 0 then 1 else min speed.toNat (speedMax cfg)) →
    (direction.toNat ≤ 1 → takeMotion cfg 0 direction hold amount speed =
      some (.line (decide (direction = 1)) (min amount.toNat 30000) v (decide (hold ≠ 0)))) ∧
    takeMotion cfg 1 direction hold amount speed = some (.spin (max (-4095) (min 4095 amount.toInt)) v) ∧
    takeMotion cfg 2 direction hold amount speed = some (.dock (min amount.toNat 2000) v) ∧
    takeMotion cfg 3 direction hold amount speed = some (.pause (min amount.toNat 10000))) ∧
  (∀ (tag kind direction hold : Byte) (amount speed : Half) (s : State) (m : Motion) (g : Segment), s.power = .ready →
    s.modes.mode = .active ∨ s.modes.mode = .waking →
    takeMotion s.config kind direction hold amount speed = some m → tag ≠ 255 → amount ≠ 0 → g = ⟨tag.toNat, m⟩ →
    (∀ x, x ∈ s.segments.queue → x.tag ≠ tag.toNat) → s.segments.queue.length < 8 →
    s.segments.queue.length + s.segments.completions.length < 16 →
    ∃ t, exec (.segmentAdd tag kind direction hold amount speed) s = .next t ∧
      t.link = answerLink 0x13 .ok
        ([tag, kind] ++ (match m with
          | .line reverse distance v held =>
            [if reverse then 1 else 0, if held then 1 else 0] ++ int16 distance ++ int16 v
          | .spin angle v => [0, 0] ++ int16 angle ++ int16 v
          | .dock distance v => [0, 0] ++ int16 distance ++ int16 v
          | .pause time => [0, 0] ++ int16 time ++ [0, 0]) ++
          [toByte s.segments.queue.length, toByte (s.segments.queue.length + 1),
            toByte s.segments.completions.length]) s ∧
      KeepsWorld s t ∧ KeepsPlan s t ∧ t.modes = s.modes ∧
      ((∃ c, s.segments.running = some c ∧ (c.cause = none ∨ s.atRest = false ∨
          s.drive.stop.moveInProgress = true ∨ s.floor.resultPending = true)) ∨
          (s.modes.mode = .waking ∧ s.segments.running = none) →
        t = refresh { s with
          segments := { s.segments with queue := s.segments.queue ++ [g] }
          link := t.link }) ∧
      (s.modes.mode = .active → s.segments.running = none → s.segments.queue = [] → s.atRest = true →
        s.dock.undock ≠ .wait →
        (t.segments.queue = [g] ∧ t.segments.running.map Context.segment = some g ∧
          t.segments.completions = s.segments.completions) ∨
        (t.segments.queue = [] ∧ t.segments.running = none ∧
          ∃ r, t.segments.completions = s.segments.completions ++ [r] ∧ r.segment = g ∧ r.travelled = 0)))

/-- SEGMENT_ADD's checks come in the order of R82, and a refused request changes nothing but the response, whose body is
the one R86 gives. -/
def Obligations.SegmentAddRefusalsFollowTheOrder : Prop :=
  ∀ (tag kind direction hold : Byte) (amount speed : Half) (s : State), s.power = .ready →
    (s.modes.mode ≠ .active → s.modes.mode ≠ .waking →
      exec (.segmentAdd tag kind direction hold amount speed) s =
        .next (answered 0x13 .mode [s.modes.mode.byte] s)) ∧
    (s.modes.mode = .active ∨ s.modes.mode = .waking →
      (3 < kind.toNat ∨ tag = 255 ∨ (kind = 0 ∧ 1 < direction.toNat) ∨ amount = 0 →
        exec (.segmentAdd tag kind direction hold amount speed) s =
          .next (answered 0x13 .badField [tag, kind] s)) ∧
      (kind.toNat ≤ 3 → tag ≠ 255 → (kind = 0 → direction.toNat ≤ 1) → amount ≠ 0 →
        (∀ x, x ∈ s.segments.queue → x.tag = tag.toNat →
          exec (.segmentAdd tag kind direction hold amount speed) s =
            .next (answered 0x13 .duplicateTag [tag, match s.segments.running with
              | some c => if c.segment.tag = tag.toNat then 1 else 0
              | none => 0] s)) ∧
        ((∀ x, x ∈ s.segments.queue → x.tag ≠ tag.toNat) →
          8 ≤ s.segments.queue.length ∨ 16 ≤ s.segments.queue.length + s.segments.completions.length →
          exec (.segmentAdd tag kind direction hold amount speed) s =
            .next (answered 0x13 .queueFull
              [toByte s.segments.queue.length, toByte s.segments.completions.length] s))))

/-- The start of the head segment makes its context and the drive afresh; docked, a segment that is no DOCK waits with the
charge off; a LINE or DOCK that its admission check blocks, and a DOCK that starts docked, ends at once with travelled
0. The start classifies both points, and the zone limit is the smaller of theirs (R26 to R29, R67, R74, R76, R80, R87,
R88, R158 to R160). Where the start conditions do not hold, the command has no effect: the
model's choice (log 6). -/
def Obligations.SegmentStartOpensTheContext : Prop :=
  ∀ s : State, s.power = .ready →
    (s.canStart = false → exec .segmentStart s = .next (refresh s)) ∧
    (∀ (g : Segment) (rest : List Segment) (hold : Option Nat), s.segments.queue = g :: rest →
      s.segments.running = none → s.modes.mode = .active ∨ s.modes.mode = .parking → s.atRest = true →
      s.dock.undock ≠ .wait → s.floor.resultPending = false →
      hold = (match g.motion with
        | .line _ _ _ true => some s.pose.heading
        | .dock _ _ => some ((lowestDockHeading s.table).getD s.pose.heading)
        | _ => none) →
      ∃ t, exec .segmentStart s = .next t ∧ KeepsWorld s t ∧ KeepsPlan s t ∧ t.link = s.link ∧
        (s.dock.docked = false → g.motion.isStraight = false →
          t.segments = { s.segments with running := some ⟨g, s.pose.heading, none, 0, .moving, none, false⟩ } ∧
          t.drive = { s.drive with stop := .none, unjam := none, retries := 0, releaseLatch := false } ∧
          t.dock = s.dock ∧ t.modes = s.modes ∧ t.floor = s.floor ∧ t.latches = s.latches ∧
          t.clearance = freshClearance ∧ CentreClassified t) ∧
        (s.dock.docked = true → g.motion.isStraight = false →
          t.segments = { s.segments with running := some ⟨g, s.pose.heading, none, 0, .waiting, none, false⟩ } ∧
          t.dock = { s.dock with undock := .wait, undockTimer := some 0 } ∧ t.outputs.chargeEnable = false ∧
          t.drive = { s.drive with stop := .none, unjam := none, retries := 0, releaseLatch := false } ∧
          CentreClassified t) ∧
        (∀ (d : Direction) (found : Option InPath) (probe : ClassResult), g.motion.isStraight = true →
          d = directionOf s.pose.heading g.motion.isReverse →
          found = constraining s.config s.table s.pose d (!g.motion.isDock) →
          probe = classAt s.table (s.pose.px + probeDistance s.config * d.c / 4096)
            (s.pose.py + probeDistance s.config * d.s / 4096) →
          ((∀ p, found = some p → blockGap s.config ≤ p.gap) → probe.cls ≠ .keepout →
            s.dock.docked = false ∨ g.motion.isDock = false →
            t.segments = { s.segments with
              running := some ⟨g, s.pose.heading, hold, 0, if s.dock.docked then .waiting else .moving, none, false⟩ } ∧
            t.dock = (if s.dock.docked then { s.dock with undock := .wait, undockTimer := some 0 } else s.dock) ∧
            t.zones.probe = probe ∧ t.zones.centre = classAt s.table s.pose.px s.pose.py ∧
            ZoneLimitIs t (s.pose.px + probeDistance s.config * d.c / 4096)
              (s.pose.py + probeDistance s.config * d.s / 4096) ∧
            t.clearance.gap = found.map InPath.gap ∧
            AllowanceIsLeast s ⟨g, s.pose.heading, hold, 0, .moving, none, false⟩ (found.map InPath.gap)
              t.zones.limit s.pose.u t.clearance.allowance) ∧
          ((∀ p, found = some p → blockGap s.config ≤ p.gap) → probe.cls ≠ .keepout → s.dock.docked = true →
            g.motion.isDock = true → ∃ more, t.segments.completions = s.segments.completions ++
              ⟨g, .docked, false, 0, none, 0, s.link.timeBase⟩ :: more) ∧
          (∀ p, found = some p → p.gap < blockGap s.config →
            ∃ more, t.segments.completions = s.segments.completions ++
              ⟨g, .blocked, false, 0, some p.ref, 0, s.link.timeBase⟩ :: more) ∧
          ((∀ p, found = some p → blockGap s.config ≤ p.gap) → probe.cls = .keepout →
            ∃ more, t.segments.completions = s.segments.completions ++
              ⟨g, .blockedZone, false, 0, probe.record, 0, s.link.timeBase⟩ :: more)))

/-- A running segment whose end cause stands, at rest, is written with the fields of R93 and leaves the head of the
queue; with the queue then empty, STOPPING is left for CONFIG, or for HALTED where halt is pending, and PARKING for
PARKED where no guard runs. A PAUSE whose time has run out takes COMPLETED and is written at once, and one whose cause
waits for its result keeps it (R81, R91 to R93, R136, R165, R167 to R169). Where the test of R92 fails, the command to
write has no effect: the model's choice (log 6); so has a pause timer's expiry with no PAUSE running (log 4). That the
progress of a PAUSE sent its expiry early is taken as its time is the model's (log 27). -/
def Obligations.RunningRecordIsWritten : Prop :=
  ∀ s : State, s.power = .ready →
    (s.canWrite = false → exec .completionRecordWrite s = .next (refresh s)) ∧
    (∀ (c : Context) (e : EndCause) (rest : List Segment) (r : Completion), s.segments.running = some c →
      c.cause = some e → s.segments.queue = c.segment :: rest → AtRest s →
      r = ⟨c.segment, e.kind, c.cancelSeen,
        (match c.segment.motion with
          | .line .. | .dock .. => c.progress.tdiv 1000
          | _ => c.progress), e.record, s.drive.retries, s.link.timeBase⟩ →
      ∃ t, exec .completionRecordWrite s = .next t ∧ KeepsWorld s t ∧ KeepsPlan s t ∧ t.link = s.link ∧
        (∃ more, t.segments.completions = s.segments.completions ++ r :: more) ∧
        (rest = [] → s.modes.mode ≠ .stopping → s.modes.mode ≠ .parking →
          t = refresh { s with
            segments := ⟨[], none, s.segments.completions ++ [r]⟩
            drive := { s.drive with stop := .none, unjam := none }
            floor := { s.floor with response := none }
            dock := if s.dock.undock = .leaving then { s.dock with undock := .none } else s.dock }) ∧
        (rest = [] → s.modes.mode = .stopping → s.modes.haltPending = false →
          t.modes = { s.modes with mode := .config, wakeTimer := none } ∧
          t.latches = { s.latches with modeReached := true }) ∧
        (rest = [] → s.modes.mode = .stopping → s.modes.haltPending = true →
          t.modes = { s.modes with
            mode := .halted
            wakeTimer := none
            haltReason := .linkLost
            haltPending := false } ∧
          t.latches = { s.latches with modeReached := true, halt := true }) ∧
        (rest = [] → s.modes.mode = .parking →
          (s.guardsClear = true → t.modes = { s.modes with mode := .parked, wakeTimer := none } ∧
            t.latches = { s.latches with modeReached := true } ∧ t.outputs.sensorPower = false) ∧
          (s.guardsClear = false → t.modes = s.modes ∧ t.latches = s.latches))) ∧
    (∀ (c : Context) (e : EndCause) (time : Nat) (rest : List Segment), s.segments.running = some c →
      c.cause = some e → c.segment.motion = .pause time → s.segments.queue = c.segment :: rest →
      s.floor.resultPending = true →
      exec .pauseTimerExpiry s = .next (refresh { s with segments := { s.segments with
        running := some { c with progress := max c.progress time } } })) ∧
    (∀ (c : Context) (time : Nat) (rest : List Segment), s.segments.running = some c → c.cause = none →
      c.segment.motion = .pause time → s.segments.queue = c.segment :: rest → AtRest s →
      ∃ t more, exec .pauseTimerExpiry s = .next t ∧ KeepsWorld s t ∧ KeepsPlan s t ∧
        t.segments.completions = s.segments.completions ++
          ⟨c.segment, .completed, c.cancelSeen, max c.progress time, none, s.drive.retries, s.link.timeBase⟩ :: more) ∧
    ((∀ c, s.segments.running = some c → c.segment.motion.isPause = false) →
      exec .pauseTimerExpiry s = .next (refresh s))

/-- COMPLETION_READ removes the oldest completion record and answers every field of it with the count left, or answers
EMPTY with a count of 0 and changes nothing (R98, R179). -/
def Obligations.CompletionsAreReadInOrder : Prop :=
  ∀ s : State, s.power = .ready →
    (s.segments.completions = [] → exec .completionRead s = .next (answered 0x16 .empty [0] s)) ∧
    (∀ r rest, s.segments.completions = r :: rest →
      exec .completionRead s = .next (refresh { s with
        segments := { s.segments with completions := rest }
        link := answerLink 0x16 .ok
          ([toByte r.segment.tag,
            (match r.segment.motion with
              | .line .. => 0
              | .spin .. => 1
              | .dock .. => 2
              | .pause _ => 3),
            r.outcome.byte, if r.cancelSeen then 1 else 0] ++ int16 r.travelled ++
            (match r.record with
              | none => [255, 0]
              | some ref => [toByte ref.slot, ref.generation]) ++
            [toByte r.retries] ++ halfBytes r.endTime ++ [toByte rest.length]) s }))

/-- SEGMENT_CANCEL writes a waiting segment CANCELLED and closes the queue up, behind one that is already stopping too,
gives a running one CANCELLED with a RAMP, whose record is written at once at rest, inside an unjam too, marks one that
already has its cause, and answers NOT_FOUND otherwise; SEGMENT_FLUSH writes every waiting segment FLUSHED, oldest first,
and gives a running one FLUSHED with a RAMP, whose record comes last at rest, but for one that already has its cause (R90
to R92, R94, R96, R107, R111). That the count answered stands
after the write and before the next start, and that "stopped" says that a segment ran, are the model's (log 20, 21). -/
def Obligations.CancelAndFlushEndSegments : Prop :=
  ∀ (tag : Byte) (s : State), s.power = .ready → SegmentsOk s.segments →
    ((∀ x, x ∈ s.segments.queue → x.tag ≠ tag.toNat) →
      exec (.segmentCancel tag) s = .next (answered 0x14 .notFound [tag, 0] s)) ∧
    (∀ g c, g ∈ s.segments.queue → g.tag = tag.toNat → s.segments.running = some c → c.segment ≠ g →
      (c.cause = none ∨ ¬ AtRest s) →
      exec (.segmentCancel tag) s = .next (refresh { s with
        segments := { s.segments with
          queue := s.segments.queue.filter fun x => decide (x.tag ≠ tag.toNat)
          completions := s.segments.completions ++ [⟨g, .cancelled, true, 0, none, 0, s.link.timeBase⟩] }
        link := answerLink 0x14 .ok [tag, 1, toByte (s.segments.queue.length - 1)] s })) ∧
    (∀ g, g ∈ s.segments.queue → g.tag = tag.toNat → s.segments.running = none → s.modes.mode ≠ .parking →
      (s.modes.mode ≠ .active ∨ s.dock.undock = .wait) →
      exec (.segmentCancel tag) s = .next (refresh { s with
        segments := { s.segments with
          queue := s.segments.queue.filter fun x => decide (x.tag ≠ tag.toNat)
          completions := s.segments.completions ++ [⟨g, .cancelled, true, 0, none, 0, s.link.timeBase⟩] }
        link := answerLink 0x14 .ok [tag, 1, toByte (s.segments.queue.length - 1)] s })) ∧
    (∀ c, s.segments.running = some c → s.atRest = false → s.drive.stop = .none → c.cause = none →
        (c.segment.tag = tag.toNat →
          exec (.segmentCancel tag) s = .next (refresh { s with
            segments := { s.segments with
              running := some { c with cause := some ⟨.cancelled, none⟩, phase := .stopping, cancelSeen := true } }
            drive := rampFrom c.holdTarget s.drive
            link := answerLink 0x14 .ok [tag, 2, toByte s.segments.queue.length] s })) ∧
        exec .segmentFlush s = .next (refresh { s with
          segments := ⟨s.segments.queue.take 1, some { c with cause := some ⟨.flushed, none⟩, phase := .stopping },
            s.segments.completions ++
              s.segments.queue.tail.map fun g => ⟨g, .flushed, false, 0, none, 0, s.link.timeBase⟩⟩
          drive := rampFrom c.holdTarget s.drive
          link := answerLink 0x15 .ok [toByte s.segments.queue.tail.length, 1] s })) ∧
    (∀ c rest, s.segments.running = some c → s.segments.queue = c.segment :: rest → s.atRest = true →
      s.floor.resultPending = false → s.drive.stop = .none → c.cause = none →
      (c.segment.tag = tag.toNat →
        ∃ t more, exec (.segmentCancel tag) s = .next t ∧ Responds 0x14 .ok [tag, 2, toByte rest.length] s t ∧
          t.segments.completions = s.segments.completions ++ ⟨c.segment, .cancelled, true,
            (match c.segment.motion with
              | .line .. | .dock .. => c.progress.tdiv 1000
              | _ => c.progress), none, s.drive.retries, s.link.timeBase⟩ :: more ∧
          (rest = [] → more = [] ∧ t.segments.queue = [] ∧ t.segments.running = none)) ∧
      ∃ t, exec .segmentFlush s = .next t ∧ Responds 0x15 .ok [toByte rest.length, 1] s t ∧
        t.segments = ⟨[], none, s.segments.completions ++
          (rest.map fun g => ⟨g, .flushed, false, 0, none, 0, s.link.timeBase⟩) ++
          [⟨c.segment, .flushed, c.cancelSeen,
            (match c.segment.motion with
              | .line .. | .dock .. => c.progress.tdiv 1000
              | _ => c.progress), none, s.drive.retries, s.link.timeBase⟩]⟩) ∧
    (∀ c e, s.segments.running = some c → ¬ AtRest s → c.cause = some e →
      (c.segment.tag = tag.toNat →
        exec (.segmentCancel tag) s = .next (refresh { s with
          segments := { s.segments with running := some { c with cancelSeen := true } }
          link := answerLink 0x14 .ok [tag, 2, toByte s.segments.queue.length] s })) ∧
      exec .segmentFlush s = .next (refresh { s with
        segments := ⟨s.segments.queue.take 1, some c, s.segments.completions ++
          s.segments.queue.tail.map fun g => ⟨g, .flushed, false, 0, none, 0, s.link.timeBase⟩⟩
        link := answerLink 0x15 .ok [toByte s.segments.queue.tail.length, 1] s })) ∧
    (s.segments.running = none → s.modes.mode ≠ .parking →
      exec .segmentFlush s = .next (refresh { s with
        segments := ⟨[], none, s.segments.completions ++
          s.segments.queue.map fun g => ⟨g, .flushed, false, 0, none, 0, s.link.timeBase⟩⟩
        link := answerLink 0x15 .ok [toByte s.segments.queue.length, 0] s }))

/-- A cliff sample is ignored outside the taking modes and otherwise judged: the lenient criteria on a DARK_RUG with no
confirmed DROP near the room point, the floor criteria elsewhere. A sensor that becomes TRIPPED hands a DROP observation
on, and nothing else where no segment runs, with segments waiting or in PARKING too. It gives a running segment
CLIFF_STOP, and asks for HARD, or for BACKOFF from a sensor that is not trailing. In the WAITING phase, a BACKOFF move
or an unjam it asks for HARD, and whatever stop is in progress the request combines with it by R111 (R120 to R125, R130,
R131, R133, R134, R136). That a PAUSE in WAITING asks for HARD too is the model's reading (log 26), and that a segment
just started backs away like any other the model's choice (log 34). -/
def Obligations.CliffSamplesAreJudged : Prop :=
  ∀ (sensor : CliffSensor) (v : Byte) (s : State) (old new : Cliff) (d : Direction) (wx wy : Int) (lenient : Prop)
    (dark : Nat → Cliff), s.power = .ready → old = s.floor.cliffs.get sensor →
    d = directionOf s.pose.heading false →
    wx = s.pose.px + (forwardOffset s.config sensor * d.c - leftOffset s.config sensor * d.s) / 4096 →
    wy = s.pose.py + (forwardOffset s.config sensor * d.s + leftOffset s.config sensor * d.c) / 4096 →
    (lenient ↔ s.zones.centre.cls = .darkRug ∧ ∀ l c, IsLive s.table l → l.record.hazard = .drop c →
      (l.record.source = .host ∨ confirmLevel s.config ≤ l.record.confidence) →
      c.r + mergeDistance s.config < max (c.cx - wx).natAbs (c.cy - wy).natAbs) →
    (∀ persist, dark persist = ⟨if old.state = .tripped ∨ persist ≤ min 15 (old.count + 1) then .tripped else old.state,
      min 15 (old.count + 1)⟩) →
    (floorThreshold s.config ≤ v.toNat → new = ⟨.clear, 0⟩) →
    (v.toNat < floorThreshold s.config → ¬ lenient → new = dark (floorPersist s.config)) →
    (v.toNat < floorThreshold s.config → lenient →
      min (rugThreshold s.config) (floorThreshold s.config - 1) ≤ v.toNat →
      new = ⟨if old.state = .tripped then .tripped else .suspect, 0⟩) →
    (v.toNat < floorThreshold s.config → lenient →
      v.toNat < min (rugThreshold s.config) (floorThreshold s.config - 1) → new = dark (rugPersist s.config)) →
    (isTaking s.modes.mode = false → exec (.cliffSample sensor v) s = .next (refresh s)) ∧
    (isTaking s.modes.mode = true →
      (new.state ≠ .tripped ∨ old.state = .tripped →
        exec (.cliffSample sensor v) s =
          .next (refresh { s with floor := { s.floor with cliffs := s.floor.cliffs.set sensor new } })) ∧
      (new.state = .tripped → old.state ≠ .tripped → ∀ o : Observation,
        o = ⟨true, max (-30000) (min 30000 wx), max (-30000) (min 30000 wy)⟩ →
        (s.segments.running = none → Settled s → exec (.cliffSample sensor v) s = .next (refresh { s with
          floor := { s.floor with cliffs := s.floor.cliffs.set sensor new }
          ageing := { s.ageing with observations := s.ageing.observations ++ [o] } })) ∧
        (∀ c, RunsOn s c → s.drive.stop = .none → s.drive.unjam = none → c.phase = .moving →
          ∃ t, exec (.cliffSample sensor v) s = .next t ∧
            t = refresh { s with
              floor := { s.floor with
                cliffs := s.floor.cliffs.set sensor new
                response := some ⟨o, .pending s.ageing.observations.length⟩ }
              ageing := { s.ageing with observations := s.ageing.observations ++ [o] }
              segments := { s.segments with
                running := some { c with cause := some ⟨.cliffStop, none⟩, phase := .stopping } }
              drive := t.drive } ∧
            (c.segment.motion.isPause = true → t.drive = s.drive) ∧
            (c.segment.motion.isPause = false → WheelsReleased s.config s.drive t.drive ∧
              t.drive.stop = (if c.segment.motion.isStraight = true ∧ cliffResponseCode s.config = 1 ∧
                0 ≤ c.segment.motion.sigma * forwardOffset s.config sensor then .backoffHalt else .hard))) ∧
        (∀ (c : Context) (asked : Option StopKind), s.segments.running = some c → s.segments.queue ≠ [] →
          asked = (if s.drive.stop.moveInProgress = true ∨ s.drive.unjam ≠ none ∨ c.phase = .waiting then some .hard
            else match c.segment.motion with
              | .line .. | .dock .. => some (if cliffResponseCode s.config = 1 ∧
                  0 ≤ c.segment.motion.sigma * forwardOffset s.config sensor then .backoff else .hard)
              | .spin .. => some .hard
              | .pause _ => none) →
          ∃ t, exec (.cliffSample sensor v) s = .next t ∧
            TriggerTaken asked c .cliffStop o s.ageing.observations.length { s with
              floor := { s.floor with cliffs := s.floor.cliffs.set sensor new }
              ageing := { s.ageing with observations := s.ageing.observations ++ [o] } } t)))

/-- A change of a bumper or lift line away from the debounced level starts the debounce at 0 and a return stops it; a
bumper's counted mark is cleared by a return to released before its press has completed. A debounce that completes
with no trigger takes the raw level, and a press clears the mark (R126, R127, R129). The expiry of a stopped timer has
no effect: the model's choice (log 4). -/
def Obligations.SwitchesAreDebounced : Prop :=
  ∀ (side : Side) (level : Bool) (s : State) (b : Bumper) (w : Switch), s.power = .ready →
    b = s.floor.bumpers.get side → w = s.floor.lifts.get side →
    (b.switch.raw ≠ level → exec (.bumperLineChange side level) s = .next (refresh { s with
      lines := { s.lines with bumpers := s.lines.bumpers.set side level }
      floor := { s.floor with
        bumpers := s.floor.bumpers.set side
          ⟨⟨level, b.switch.debounced, if level = b.switch.debounced then none else some 0⟩,
            if level = false ∧ b.switch.debounced = false then false else b.counted⟩ } })) ∧
    (w.raw ≠ level → exec (.liftLineChange side level) s = .next (refresh { s with
      lines := { s.lines with lifts := s.lines.lifts.set side level }
      floor := { s.floor with
        lifts := s.floor.lifts.set side ⟨level, w.debounced, if level = w.debounced then none else some 0⟩ } })) ∧
    (b.switch.timer = none → exec (.bumperDebounceExpiry side) s = .next (refresh s)) ∧
    (w.timer = none → exec (.liftDebounceExpiry side) s = .next (refresh s)) ∧
    (b.switch.timer ≠ none → (b.switch.raw = false ∨ b.switch.debounced = true) →
      exec (.bumperDebounceExpiry side) s = .next (refresh { s with
        floor := { s.floor with
          bumpers := s.floor.bumpers.set side ⟨⟨b.switch.raw, b.switch.raw, none⟩, b.counted⟩ } })) ∧
    (b.switch.timer ≠ none → b.switch.raw = true → b.switch.debounced = false →
      (isTaking s.modes.mode = false ∨ b.counted = true) →
      exec (.bumperDebounceExpiry side) s = .next (refresh { s with
        floor := { s.floor with bumpers := s.floor.bumpers.set side ⟨⟨true, true, none⟩, false⟩ } })) ∧
    (w.timer ≠ none → w.raw = false ∨ s.lifted = true →
      exec (.liftDebounceExpiry side) s = .next (refresh { s with
        floor := { s.floor with lifts := s.floor.lifts.set side ⟨w.raw, w.raw, none⟩ } }))

/-- A press that completes in a taking mode hands a POST observation at the contact point on, one for both bumpers where
the other's press debounce runs, and nothing else where no segment runs, with segments waiting or in PARKING too. It
gives a running segment BUMP_STOP with its stop, and a DOCK neither in any phase. In the WAITING phase, a BACKOFF move
or an unjam it asks for HARD, and whatever stop is in progress the request combines with it by R111. A lift that
completes forces rest, and in a taking mode releases the drive, flushes the queue with LIFTED and halts the part (R97,
R107, R114, R127 to R129, R131 to R136, R168). That a lift drops a result still pending (log 17), stops the wake timer
(log 18), sets the targets to 0 with its RELEASE (log 33) and flushes waiting segments with none running (log 35), that
a PAUSE in WAITING asks for HARD too (log 26) and that a segment just started backs away (log 34) are the model's. -/
def Obligations.BumpsAndLiftsTrigger : Prop :=
  (∀ (side : Side) (s : State) (b other : Bumper) (both : Bool) (r : Int) (j : Nat) (o : Observation) (f : Floor),
    s.power = .ready → isTaking s.modes.mode = true →
    b = s.floor.bumpers.get side → other = s.floor.bumpers.get (otherSide side) →
    b.switch.timer ≠ none → b.switch.raw = true → b.switch.debounced = false → b.counted = false →
    (both = true ↔ other.switch.raw = true ∧ other.switch.debounced = false ∧ other.switch.timer ≠ none) →
    r = ((robotRadius s.config + bumpRadius s.config : Nat) : Int) →
    j = (trigIndex s.pose.heading + (if both then 0 else match side with
      | .left => 8
      | .right => 56)) % 64 →
    o = ⟨false, max (-30000) (min 30000 (s.pose.px + r * cosAt j / 4096)),
      max (-30000) (min 30000 (s.pose.py + r * sinAt j / 4096))⟩ →
    f = { s.floor with
      bumpers := (s.floor.bumpers.set side ⟨⟨true, true, none⟩, false⟩).set (otherSide side)
        (if both then { other with counted := true } else other) } →
    (s.segments.running = none → Settled s → exec (.bumperDebounceExpiry side) s = .next (refresh { s with
      floor := f
      ageing := { s.ageing with observations := s.ageing.observations ++ [o] } })) ∧
    (∀ c, RunsOn s c → c.segment.motion.isDock = true →
      exec (.bumperDebounceExpiry side) s = .next (refresh { s with
        floor := f
        ageing := { s.ageing with observations := s.ageing.observations ++ [o] } })) ∧
    (∀ c, RunsOn s c → s.drive.stop = .none → s.drive.unjam = none → c.phase = .moving →
      c.segment.motion.isDock = false →
      ∃ t, exec (.bumperDebounceExpiry side) s = .next t ∧
        t = refresh { s with
          floor := { f with response := some ⟨o, .pending s.ageing.observations.length⟩ }
          ageing := { s.ageing with observations := s.ageing.observations ++ [o] }
          segments := { s.segments with
            running := some { c with cause := some ⟨.bumpStop, none⟩, phase := .stopping } }
          drive := t.drive } ∧
        (match c.segment.motion with
          | .line false _ _ _ =>
            (bumpResponseCode s.config = 0 →
              t.drive = rampFrom c.holdTarget s.drive) ∧
            (bumpResponseCode s.config ≠ 0 → WheelsReleased s.config s.drive t.drive ∧
              t.drive.stop = (if bumpResponseCode s.config = 1 then .hard else .backoffHalt))
          | .line true _ _ _ | .spin .. => WheelsReleased s.config s.drive t.drive ∧ t.drive.stop = .hard
          | _ => t.drive = s.drive)) ∧
    (∀ c, s.segments.running = some c → s.segments.queue ≠ [] → c.segment.motion.isDock = true → s.canWrite = false →
      exec (.bumperDebounceExpiry side) s = .next (refresh { s with
        floor := f
        ageing := { s.ageing with observations := s.ageing.observations ++ [o] } })) ∧
    (∀ (c : Context) (asked : Option StopKind), s.segments.running = some c → s.segments.queue ≠ [] →
      c.segment.motion.isDock = false →
      asked = (if s.drive.stop.moveInProgress = true ∨ s.drive.unjam ≠ none ∨ c.phase = .waiting then some .hard
        else match c.segment.motion with
          | .line false _ _ _ => some (if bumpResponseCode s.config = 0 then .ramp
              else if bumpResponseCode s.config = 1 then .hard else .backoff)
          | .line true _ _ _ | .spin .. => some .hard
          | _ => none) →
      ∃ t, exec (.bumperDebounceExpiry side) s = .next t ∧
        TriggerTaken asked c .bumpStop o s.ageing.observations.length { s with
          floor := f
          ageing := { s.ageing with observations := s.ageing.observations ++ [o] } } t)) ∧
  (∀ (side : Side) (s : State), s.power = .ready → (s.floor.lifts.get side).timer ≠ none →
    (s.floor.lifts.get side).raw = true → s.lifted = false →
    ∃ t, exec (.liftDebounceExpiry side) s = .next t ∧ KeepsWorld s t ∧ KeepsPlan s t ∧ t.link = s.link ∧
      t.floor.lifts = s.floor.lifts.set side ⟨true, true, none⟩ ∧ WheelsReleased s.config s.drive t.drive ∧
      t.outputs.motors.left.enable = false ∧ t.outputs.motors.right.enable = false ∧
      (isTaking s.modes.mode = false → t.modes = s.modes ∧ t.segments = s.segments ∧ t.latches = s.latches) ∧
      (isTaking s.modes.mode = true → s.drive.stop ≠ .release →
        t.drive.releaseLatch = true ∧ t.floor.cliffs = clearCliffs ∧
        t.modes = { s.modes with mode := .halted, haltReason := .lifted, haltPending := false, wakeTimer := none } ∧
        t.latches = { s.latches with modeReached := true, halt := true } ∧
        (s.segments.running = none → t.segments = ⟨[], none, s.segments.completions ++
          s.segments.queue.map fun g => ⟨g, .flushed, false, 0, none, 0, s.link.timeBase⟩⟩) ∧
        (∀ c rest, s.segments.running = some c → s.segments.queue = c.segment :: rest →
          (∀ e, c.cause = some e → e.kind ≠ .lifted) →
          t.segments = ⟨[], none, s.segments.completions ++
            (rest.map fun g => ⟨g, .flushed, false, 0, none, 0, s.link.timeBase⟩) ++
            [⟨c.segment, .lifted, c.cancelSeen,
              (match c.segment.motion with
                | .line .. | .dock .. => c.progress.tdiv 1000
                | _ => c.progress), none, s.drive.retries, s.link.timeBase⟩]⟩)))

/-- The oldest observation is taken against the table: merged into the nearest record of its kind, made a new record in
the lowest free slot, put in the place of a victim, or dropped; its notices join the queue in order, the first of an
empty queue loading the notice timer, and its result reaches the protective response that waits for it and the cause of
the running segment. A table change classifies the centre and judges a running LINE or DOCK (R9, R26 to R29, R53, R62,
R64, R65, R136, R143 to R149, R180, R181). That the unit takes the oldest observation at a command of its own, and that
the table change comes before the result, are the model's form (log 23, log 36). -/
def Obligations.ObservationsEnterTheTable : Prop :=
  ∀ (s : State) (o : Observation) (rest : List Observation) (shape : Sys2Proof.Machine.Circle → Hazard)
    (near : Live → Sys2Proof.Machine.Circle → Nat → Prop) (made : Hazard → Record),
    s.power = .ready → s.ageing.observations = o :: rest → shape = (if o.isDrop then .drop else .post) →
    (∀ l c n, near l c n ↔ IsLive s.table l ∧ l.record.hazard = shape c ∧
      n = max (c.cx - o.x).natAbs (c.cy - o.y).natAbs ∧ n ≤ mergeDistance s.config) →
    (∀ h, made h = ⟨h, if o.isDrop then .cliff else .bump, false, 4, 0, 1, true⟩) →
    ∃ (ref : Option Ref) (notices : List Notice) (t : State), exec .observation s = .next t ∧
      KeepsWorld s t ∧ t.config = s.config ∧ t.pose = s.pose ∧ t.ageing = { s.ageing with observations := rest } ∧
      (∀ l c n, near l c n → (∀ l' c' n', near l' c' n' → n < n' ∨ (n = n' ∧ l.ref.slot ≤ l'.ref.slot)) →
        ref = some l.ref ∧ (∀ k, k ≠ l.ref.slot → slotAt t.table k = slotAt s.table k) ∧
        (l.record.source = .host →
          slotAt t.table l.ref.slot = ⟨l.ref.generation, some { l.record with
            age := 0
            hits := min 255 (l.record.hits + 1)
            observed := true }⟩ ∧
          notices = [⟨.recordMerged, some l.ref, some (shape c).kind, some .host, c.cx, c.cy, none, s.link.timeBase⟩]) ∧
        (l.record.source ≠ .host → ∀ (d : Sys2Proof.Machine.Circle) (level : Nat),
          d = ⟨c.cx + (o.x - c.cx).tdiv 2, c.cy + (o.y - c.cy).tdiv 2, c.r⟩ → level = confirmLevel s.config →
          slotAt t.table l.ref.slot = ⟨l.ref.generation, some { l.record with
            hazard := shape d
            confidence := min 15 (l.record.confidence + 3)
            age := 0
            hits := min 255 (l.record.hits + 1)
            observed := true }⟩ ∧
          notices = [⟨if l.record.confidence < level ∧ level ≤ min 15 (l.record.confidence + 3) then .recordConfirmed
              else .recordMerged, some l.ref, some (shape c).kind,
            some (if min 15 (l.record.confidence + 3) < level then .tentative else .confirmed), d.cx, d.cy, none,
            s.link.timeBase⟩])) ∧
      ((∀ l c n, ¬ near l c n) → ∀ (h : Hazard) (created : Ref → Notice),
        h = shape ⟨o.x, o.y, if o.isDrop then dropRadius s.config else bumpRadius s.config⟩ →
        (∀ x, created x = ⟨.recordCreated, some x, some h.kind,
          some (if 4 < confirmLevel s.config then .tentative else .confirmed), o.x, o.y, none, s.link.timeBase⟩) →
        (∀ k, k < 96 → (slotAt s.table k).record = none → (∀ j, j < k → (slotAt s.table j).record ≠ none) →
          ref = some ⟨k, (slotAt s.table k).generation + 1⟩ ∧
          slotAt t.table k = ⟨(slotAt s.table k).generation + 1, some (made h)⟩ ∧
          (∀ j, j ≠ k → slotAt t.table j = slotAt s.table j) ∧
          notices = [created ⟨k, (slotAt s.table k).generation + 1⟩]) ∧
        ((∀ k, k < 96 → (slotAt s.table k).record ≠ none) →
          (∀ v, IsLive s.table v → v.record.source ≠ .host → v.record.pinned = false →
            (∀ l, IsLive s.table l → l.record.age ≤ 255) →
            (∀ w, IsLive s.table w → w.record.source ≠ .host → w.record.pinned = false →
              v.record.confidence < w.record.confidence ∨ (v.record.confidence = w.record.confidence ∧
                (w.record.age < v.record.age ∨ (w.record.age = v.record.age ∧ v.ref.slot ≤ w.ref.slot)))) →
            ref = some ⟨v.ref.slot, v.ref.generation + 1⟩ ∧
            slotAt t.table v.ref.slot = ⟨v.ref.generation + 1, some (made h)⟩ ∧
            (∀ j, j ≠ v.ref.slot → slotAt t.table j = slotAt s.table j) ∧
            notices = [⟨.recordRetired, some v.ref, some v.record.hazard.kind, some .replaced,
              v.record.hazard.centre.1, v.record.hazard.centre.2, none, s.link.timeBase⟩,
              created ⟨v.ref.slot, v.ref.generation + 1⟩]) ∧
          ((∀ l, IsLive s.table l → l.record.source = .host ∨ l.record.pinned = true) →
            ref = none ∧ t.table = s.table ∧
            notices = [⟨.observationDropped, none, some h.kind, some .tableFull, o.x, o.y, none, s.link.timeBase⟩]))) ∧
      (s.zones.centre = classAt s.table s.pose.px s.pose.py →
        (∀ l, IsLive s.table l → l.record.source ≠ .host → l.record.hazard.rect? = none) →
        s.link.notices.length + notices.length ≤ 16 → NoticesJoined notices s t) ∧
      (ref ≠ none → t.zones.centre = classAt t.table s.pose.px s.pose.py ∧
        (s.straightRunning = none → Settled s → s.floor.resultPending = false →
          KeepsMotion s t ∧ t.clearance = freshClearance ∧ CentreClassified t) ∧
        (∀ c, s.segments.running = some c → s.segments.queue ≠ [] → c.segment.motion.isStraight = true →
          (c.cause = none → s.floor.resultPending = false) → JudgedAgain c s t)) ∧
      (∀ p c e, s.floor.response = some ⟨p, .pending 0⟩ → s.segments.running = some c → c.cause = some e →
        s.segments.queue ≠ [] →
        (s.atRest = false → t.floor.response = some ⟨p, .arrived ref⟩ ∧
          t.segments.running = some { c with cause := some { e with record := ref } }) ∧
        (s.atRest = true → s.drive.stop.moveInProgress = false → s.drive.unjam = none →
          ∃ more, t.segments.completions = s.segments.completions ++ ⟨c.segment, e.kind, c.cancelSeen,
            (match c.segment.motion with
              | .line .. | .dock .. => c.progress.tdiv 1000
              | _ => c.progress), ref, s.drive.retries, s.link.timeBase⟩ :: more))

/-- An ageing pass, in ACTIVE and PARKING, starts the timer again and visits every sensed record: an observed one loses
its flag, any other a step of confidence, and one that reaches 0 is freed with a RECORD_RETIRED, which joins the notices
in slot order. HOST records and free slots stay. A pass that visits a record classifies the centre and judges a running
LINE or DOCK (R2, R9, R26 to R29, R53, R62, R64, R65, R151, R152, R180, R181). In the other modes the timer does not
expire, and the command has no effect: the model's choice (log 4). -/
def Obligations.AgeingPassFadesSensedRecords : Prop :=
  ∀ s : State, s.power = .ready →
    (s.modes.mode ≠ .active → s.modes.mode ≠ .parking → exec .ageingTimerExpiry s = .next (refresh s)) ∧
    (s.modes.mode = .active ∨ s.modes.mode = .parking →
      ∃ t, exec .ageingTimerExpiry s = .next t ∧ KeepsWorld s t ∧ t.config = s.config ∧ t.pose = s.pose ∧
        t.ageing = { s.ageing with timer := 0 } ∧
        (∀ k, slotAt t.table k = (match (slotAt s.table k).record with
          | none => slotAt s.table k
          | some r =>
            if r.source = .host then slotAt s.table k
            else if r.observed = true then ⟨(slotAt s.table k).generation, some { r with observed := false }⟩
            else if r.confidence ≤ 1 then ⟨(slotAt s.table k).generation, none⟩
            else ⟨(slotAt s.table k).generation,
              some { r with age := min 255 (r.age + 1), confidence := r.confidence - 1 }⟩)) ∧
        (∀ notices : List Notice, notices = ((List.range 96).filterMap fun k =>
            match (slotAt s.table k).record with
            | none => none
            | some r =>
              if r.source ≠ .host ∧ r.observed = false ∧ r.confidence ≤ 1 then
                some ⟨.recordRetired, some ⟨k, (slotAt s.table k).generation⟩, some r.hazard.kind, some .aged,
                  r.hazard.centre.1, r.hazard.centre.2, none, s.link.timeBase⟩
              else none) →
          s.zones.centre = classAt s.table s.pose.px s.pose.py →
          (∀ l, IsLive s.table l → l.record.source ≠ .host → l.record.hazard.rect? = none) →
          s.link.notices.length + notices.length ≤ 16 → NoticesJoined notices s t) ∧
        ((∀ l, IsLive s.table l → l.record.source = .host) → Settled s →
          t = refresh { s with ageing := { s.ageing with timer := 0 } }) ∧
        ((∃ l, IsLive s.table l ∧ l.record.source ≠ .host) →
          t.zones.centre = classAt t.table s.pose.px s.pose.py ∧
          (s.straightRunning = none → Settled s →
            KeepsMotion s t ∧ t.clearance = freshClearance ∧ CentreClassified t) ∧
          (∀ c, s.segments.running = some c → s.segments.queue ≠ [] → c.segment.motion.isStraight = true →
            JudgedAgain c s t)))

/-- The dock contact: a make starts the settle, a break clears docked at once with a DOCK_LOST that is no departure, the
settle's end sets docked with a DOCK_MADE and hands DOCKED to a running DOCK, and the undock wait's end lets the segment
that began it move, leaves one that is stopping to its stop, and where that segment is written already lets the next
head start as SEGMENT_START does (R87, R88, R156 to R159, R161, R180, R181). A make or break at the present level has no
effect: the model's choice (log 25). So is that the expiry of a stopped timer has none (log 4), and that a break in
LEAVING ends the departure whether docked is still set or not (log 29). -/
def Obligations.DockContactIsFollowed : Prop :=
  ∀ s : State, s.power = .ready →
    (s.dock.contact = false →
      exec .dockContactMake s = .next (refresh { s with
        lines := { s.lines with dockContact := true }
        dock := { s.dock with contact := true, settle := some ⟨0, dockSettle s.config⟩ } }) ∧
      exec .dockContactBreak s = .next (refresh { s with lines := { s.lines with dockContact := false } })) ∧
    (s.dock.contact = true →
      exec .dockContactMake s = .next (refresh { s with lines := { s.lines with dockContact := true } }) ∧
      ∃ t, exec .dockContactBreak s = .next t ∧ t.outputs.chargeEnable = false ∧
        t.dock = ⟨false, none, false, if s.dock.undock = .leaving then .none else s.dock.undock, s.dock.undockTimer⟩ ∧
        t = refresh { s with
          lines := { s.lines with dockContact := false }
          dock := t.dock
          link := t.link
          latches := t.latches } ∧
        (s.dock.docked = false ∨ s.dock.undock ≠ .none → t.link = s.link ∧ t.latches = s.latches) ∧
        (s.dock.docked = true → s.dock.undock = .none →
          (s.link.notices.length < 16 → t.latches = s.latches ∧
            NoticesJoined [⟨.dockLost, none, none, none, s.pose.px, s.pose.py, none, s.link.timeBase⟩] s t ∧
            t.link = { s.link with notices := t.link.notices, noticeTimer := t.link.noticeTimer }) ∧
          (16 ≤ s.link.notices.length → t.link = s.link ∧
            t.latches = { s.latches with noticeOverflow := true }))) ∧
    (s.dock.settle = none → exec .dockSettleExpiry s = .next (refresh s)) ∧
    (∀ timer, s.dock.settle = some timer →
      ∃ t, exec .dockSettleExpiry s = .next t ∧ KeepsWorld s t ∧ KeepsPlan s t ∧
        t.dock.docked = true ∧ t.dock.settle = none ∧
        (s.link.notices.length < 16 →
          NoticesJoined [⟨.dockMade, none, none, none, s.pose.px, s.pose.py, none, s.link.timeBase⟩] s t) ∧
        (Settled s → (∀ c, s.segments.running = some c → c.segment.motion.isDock = false) →
          t.segments = s.segments ∧ t.drive = s.drive ∧ t.floor = s.floor ∧ t.modes = s.modes) ∧
        (∀ c, RunsOn s c → c.segment.motion.isDock = true → s.atRest = false → s.drive.stop = .none →
          t.segments = { s.segments with
            running := some { c with cause := some ⟨.docked, none⟩, phase := .stopping } } ∧
          t.drive = rampFrom c.holdTarget s.drive)) ∧
    (s.dock.undockTimer = none → exec .undockWaitExpiry s = .next (refresh s)) ∧
    (∀ n, s.dock.undockTimer = some n →
      (∀ c, RunsOn s c → exec .undockWaitExpiry s = .next (refresh { s with
        dock := { s.dock with undock := .leaving, undockTimer := none }
        segments := { s.segments with
          running := some { c with phase := if c.phase = .waiting then .moving else c.phase } } })) ∧
      (∀ c e, s.segments.running = some c → c.cause = some e → s.segments.queue ≠ [] → ¬ AtRest s →
        exec .undockWaitExpiry s = .next (refresh { s with
          dock := { s.dock with undock := .leaving, undockTimer := none } })) ∧
      (s.segments.running = none → ∀ u : State, u = { s with dock := { s.dock with undock := .none, undockTimer := none } } →
        (Settled u → exec .undockWaitExpiry s = .next (refresh u)) ∧
        (SegmentsOk s.segments → s.segments.queue ≠ [] → s.modes.mode = .active ∨ s.modes.mode = .parking →
          s.atRest = true → exec .undockWaitExpiry s = exec .segmentStart u ∧
          ∃ t, exec .undockWaitExpiry s = .next t ∧
            ∀ g rest, s.segments.queue = g :: rest → g.motion.isStraight = false → s.floor.resultPending = false →
              t.segments.queue = g :: rest ∧ t.segments.completions = s.segments.completions ∧
              t.segments.running = some ⟨g, s.pose.heading, none, 0, if s.dock.docked then .waiting else .moving, none,
                false⟩ ∧
              t.dock = (if s.dock.docked then { s.dock with undock := .wait, undockTimer := some 0 } else u.dock))))

/-- Every well-formed request has a frame of 20 bytes that starts with its code of R177, and a transaction that brings
those bytes, and any more after them, is that request; no other command has a frame, and a transaction of fewer than 20
bytes is a short one (R176, R177, R179). -/
def Obligations.RequestFramesComeBack : Prop :=
  (∀ (c : Instr) (code : Byte), requestCode c = some code → c.wellFormed = true →
    ∃ f, Frame.encode c = some f ∧ f.length = 20 ∧ f.head? = some code ∧
      ∀ more, Frame.decodeTransaction (f ++ more) = c) ∧
  (∀ c : Instr, requestCode c = none → Frame.encode c = none) ∧
  (∀ bytes : List Byte, bytes.length < 20 → Frame.decodeTransaction bytes = .shortTransaction bytes.length)
end

