-- ==== Sys2Proof/Laws/State.lean ====
section
/-! SUPPORT. One lemma per field per shared update: the fields an update leaves unchanged, true by unfolding. -/

namespace Sys2Proof.Machine


/-! #### respond -/

@[simp] theorem respond_pending (code : Byte) (result : ResultCode) (body : List Byte) (s : State) : (respond code result body s).pending = s.pending := rfl
@[simp] theorem respond_choices (code : Byte) (result : ResultCode) (body : List Byte) (s : State) : (respond code result body s).choices = s.choices := rfl
@[simp] theorem respond_power (code : Byte) (result : ResultCode) (body : List Byte) (s : State) : (respond code result body s).power = s.power := rfl
@[simp] theorem respond_lines (code : Byte) (result : ResultCode) (body : List Byte) (s : State) : (respond code result body s).lines = s.lines := rfl
@[simp] theorem respond_nv (code : Byte) (result : ResultCode) (body : List Byte) (s : State) : (respond code result body s).nv = s.nv := rfl
@[simp] theorem respond_table (code : Byte) (result : ResultCode) (body : List Byte) (s : State) : (respond code result body s).table = s.table := rfl
@[simp] theorem respond_config (code : Byte) (result : ResultCode) (body : List Byte) (s : State) : (respond code result body s).config = s.config := rfl
@[simp] theorem respond_pose (code : Byte) (result : ResultCode) (body : List Byte) (s : State) : (respond code result body s).pose = s.pose := rfl
@[simp] theorem respond_zones (code : Byte) (result : ResultCode) (body : List Byte) (s : State) : (respond code result body s).zones = s.zones := rfl
@[simp] theorem respond_clearance (code : Byte) (result : ResultCode) (body : List Byte) (s : State) : (respond code result body s).clearance = s.clearance := rfl
@[simp] theorem respond_segments (code : Byte) (result : ResultCode) (body : List Byte) (s : State) : (respond code result body s).segments = s.segments := rfl
@[simp] theorem respond_drive (code : Byte) (result : ResultCode) (body : List Byte) (s : State) : (respond code result body s).drive = s.drive := rfl
@[simp] theorem respond_floor (code : Byte) (result : ResultCode) (body : List Byte) (s : State) : (respond code result body s).floor = s.floor := rfl
@[simp] theorem respond_ageing (code : Byte) (result : ResultCode) (body : List Byte) (s : State) : (respond code result body s).ageing = s.ageing := rfl
@[simp] theorem respond_dock (code : Byte) (result : ResultCode) (body : List Byte) (s : State) : (respond code result body s).dock = s.dock := rfl
@[simp] theorem respond_modes (code : Byte) (result : ResultCode) (body : List Byte) (s : State) : (respond code result body s).modes = s.modes := rfl
@[simp] theorem respond_latches (code : Byte) (result : ResultCode) (body : List Byte) (s : State) : (respond code result body s).latches = s.latches := rfl
@[simp] theorem respond_outputs (code : Byte) (result : ResultCode) (body : List Byte) (s : State) : (respond code result body s).outputs = s.outputs := rfl

/-! #### acceptFrame -/

@[simp] theorem acceptFrame_pending (s : State) : (acceptFrame s).pending = s.pending := rfl
@[simp] theorem acceptFrame_choices (s : State) : (acceptFrame s).choices = s.choices := rfl
@[simp] theorem acceptFrame_power (s : State) : (acceptFrame s).power = s.power := rfl
@[simp] theorem acceptFrame_lines (s : State) : (acceptFrame s).lines = s.lines := rfl
@[simp] theorem acceptFrame_nv (s : State) : (acceptFrame s).nv = s.nv := rfl
@[simp] theorem acceptFrame_table (s : State) : (acceptFrame s).table = s.table := rfl
@[simp] theorem acceptFrame_config (s : State) : (acceptFrame s).config = s.config := rfl
@[simp] theorem acceptFrame_pose (s : State) : (acceptFrame s).pose = s.pose := rfl
@[simp] theorem acceptFrame_zones (s : State) : (acceptFrame s).zones = s.zones := rfl
@[simp] theorem acceptFrame_clearance (s : State) : (acceptFrame s).clearance = s.clearance := rfl
@[simp] theorem acceptFrame_segments (s : State) : (acceptFrame s).segments = s.segments := rfl
@[simp] theorem acceptFrame_drive (s : State) : (acceptFrame s).drive = s.drive := rfl
@[simp] theorem acceptFrame_floor (s : State) : (acceptFrame s).floor = s.floor := rfl
@[simp] theorem acceptFrame_ageing (s : State) : (acceptFrame s).ageing = s.ageing := rfl
@[simp] theorem acceptFrame_dock (s : State) : (acceptFrame s).dock = s.dock := rfl
@[simp] theorem acceptFrame_modes (s : State) : (acceptFrame s).modes = s.modes := rfl
@[simp] theorem acceptFrame_latches (s : State) : (acceptFrame s).latches = s.latches := rfl
@[simp] theorem acceptFrame_outputs (s : State) : (acceptFrame s).outputs = s.outputs := rfl

/-! #### shiftOut -/

@[simp] theorem shiftOut_pending (n : Nat) (s : State) : (shiftOut n s).pending = s.pending := rfl
@[simp] theorem shiftOut_choices (n : Nat) (s : State) : (shiftOut n s).choices = s.choices := rfl
@[simp] theorem shiftOut_power (n : Nat) (s : State) : (shiftOut n s).power = s.power := rfl
@[simp] theorem shiftOut_lines (n : Nat) (s : State) : (shiftOut n s).lines = s.lines := rfl
@[simp] theorem shiftOut_nv (n : Nat) (s : State) : (shiftOut n s).nv = s.nv := rfl
@[simp] theorem shiftOut_table (n : Nat) (s : State) : (shiftOut n s).table = s.table := rfl
@[simp] theorem shiftOut_config (n : Nat) (s : State) : (shiftOut n s).config = s.config := rfl
@[simp] theorem shiftOut_pose (n : Nat) (s : State) : (shiftOut n s).pose = s.pose := rfl
@[simp] theorem shiftOut_zones (n : Nat) (s : State) : (shiftOut n s).zones = s.zones := rfl
@[simp] theorem shiftOut_clearance (n : Nat) (s : State) : (shiftOut n s).clearance = s.clearance := rfl
@[simp] theorem shiftOut_segments (n : Nat) (s : State) : (shiftOut n s).segments = s.segments := rfl
@[simp] theorem shiftOut_drive (n : Nat) (s : State) : (shiftOut n s).drive = s.drive := rfl
@[simp] theorem shiftOut_floor (n : Nat) (s : State) : (shiftOut n s).floor = s.floor := rfl
@[simp] theorem shiftOut_ageing (n : Nat) (s : State) : (shiftOut n s).ageing = s.ageing := rfl
@[simp] theorem shiftOut_dock (n : Nat) (s : State) : (shiftOut n s).dock = s.dock := rfl
@[simp] theorem shiftOut_modes (n : Nat) (s : State) : (shiftOut n s).modes = s.modes := rfl
@[simp] theorem shiftOut_latches (n : Nat) (s : State) : (shiftOut n s).latches = s.latches := rfl
@[simp] theorem shiftOut_outputs (n : Nat) (s : State) : (shiftOut n s).outputs = s.outputs := rfl

/-! #### discardInStartUp -/

@[simp] theorem discardInStartUp_pending (n : Nat) (s : State) : (discardInStartUp n s).pending = s.pending := rfl
@[simp] theorem discardInStartUp_choices (n : Nat) (s : State) : (discardInStartUp n s).choices = s.choices := rfl
@[simp] theorem discardInStartUp_power (n : Nat) (s : State) : (discardInStartUp n s).power = s.power := rfl
@[simp] theorem discardInStartUp_lines (n : Nat) (s : State) : (discardInStartUp n s).lines = s.lines := rfl
@[simp] theorem discardInStartUp_nv (n : Nat) (s : State) : (discardInStartUp n s).nv = s.nv := rfl
@[simp] theorem discardInStartUp_table (n : Nat) (s : State) : (discardInStartUp n s).table = s.table := rfl
@[simp] theorem discardInStartUp_config (n : Nat) (s : State) : (discardInStartUp n s).config = s.config := rfl
@[simp] theorem discardInStartUp_pose (n : Nat) (s : State) : (discardInStartUp n s).pose = s.pose := rfl
@[simp] theorem discardInStartUp_zones (n : Nat) (s : State) : (discardInStartUp n s).zones = s.zones := rfl
@[simp] theorem discardInStartUp_clearance (n : Nat) (s : State) : (discardInStartUp n s).clearance = s.clearance := rfl
@[simp] theorem discardInStartUp_segments (n : Nat) (s : State) : (discardInStartUp n s).segments = s.segments := rfl
@[simp] theorem discardInStartUp_drive (n : Nat) (s : State) : (discardInStartUp n s).drive = s.drive := rfl
@[simp] theorem discardInStartUp_floor (n : Nat) (s : State) : (discardInStartUp n s).floor = s.floor := rfl
@[simp] theorem discardInStartUp_ageing (n : Nat) (s : State) : (discardInStartUp n s).ageing = s.ageing := rfl
@[simp] theorem discardInStartUp_dock (n : Nat) (s : State) : (discardInStartUp n s).dock = s.dock := rfl
@[simp] theorem discardInStartUp_modes (n : Nat) (s : State) : (discardInStartUp n s).modes = s.modes := rfl
@[simp] theorem discardInStartUp_latches (n : Nat) (s : State) : (discardInStartUp n s).latches = s.latches := rfl
@[simp] theorem discardInStartUp_outputs (n : Nat) (s : State) : (discardInStartUp n s).outputs = s.outputs := rfl

/-! #### refresh -/

@[simp] theorem refresh_pending (s : State) : (refresh s).pending = s.pending := rfl
@[simp] theorem refresh_choices (s : State) : (refresh s).choices = s.choices := rfl
@[simp] theorem refresh_power (s : State) : (refresh s).power = s.power := rfl
@[simp] theorem refresh_lines (s : State) : (refresh s).lines = s.lines := rfl
@[simp] theorem refresh_nv (s : State) : (refresh s).nv = s.nv := rfl
@[simp] theorem refresh_table (s : State) : (refresh s).table = s.table := rfl
@[simp] theorem refresh_config (s : State) : (refresh s).config = s.config := rfl
@[simp] theorem refresh_pose (s : State) : (refresh s).pose = s.pose := rfl
@[simp] theorem refresh_zones (s : State) : (refresh s).zones = s.zones := rfl
@[simp] theorem refresh_clearance (s : State) : (refresh s).clearance = s.clearance := rfl
@[simp] theorem refresh_segments (s : State) : (refresh s).segments = s.segments := rfl
@[simp] theorem refresh_drive (s : State) : (refresh s).drive = s.drive := rfl
@[simp] theorem refresh_floor (s : State) : (refresh s).floor = s.floor := rfl
@[simp] theorem refresh_ageing (s : State) : (refresh s).ageing = s.ageing := rfl
@[simp] theorem refresh_dock (s : State) : (refresh s).dock = s.dock := rfl
@[simp] theorem refresh_modes (s : State) : (refresh s).modes = s.modes := rfl
@[simp] theorem refresh_latches (s : State) : (refresh s).latches = s.latches := rfl
@[simp] theorem refresh_link (s : State) : (refresh s).link = s.link := rfl

/-! #### classifySilently -/

@[simp] theorem classifySilently_pending (s : State) : (classifySilently s).pending = s.pending := rfl
@[simp] theorem classifySilently_choices (s : State) : (classifySilently s).choices = s.choices := rfl
@[simp] theorem classifySilently_power (s : State) : (classifySilently s).power = s.power := rfl
@[simp] theorem classifySilently_lines (s : State) : (classifySilently s).lines = s.lines := rfl
@[simp] theorem classifySilently_nv (s : State) : (classifySilently s).nv = s.nv := rfl
@[simp] theorem classifySilently_table (s : State) : (classifySilently s).table = s.table := rfl
@[simp] theorem classifySilently_config (s : State) : (classifySilently s).config = s.config := rfl
@[simp] theorem classifySilently_pose (s : State) : (classifySilently s).pose = s.pose := rfl
@[simp] theorem classifySilently_clearance (s : State) : (classifySilently s).clearance = s.clearance := rfl
@[simp] theorem classifySilently_segments (s : State) : (classifySilently s).segments = s.segments := rfl
@[simp] theorem classifySilently_drive (s : State) : (classifySilently s).drive = s.drive := rfl
@[simp] theorem classifySilently_floor (s : State) : (classifySilently s).floor = s.floor := rfl
@[simp] theorem classifySilently_ageing (s : State) : (classifySilently s).ageing = s.ageing := rfl
@[simp] theorem classifySilently_dock (s : State) : (classifySilently s).dock = s.dock := rfl
@[simp] theorem classifySilently_modes (s : State) : (classifySilently s).modes = s.modes := rfl
@[simp] theorem classifySilently_latches (s : State) : (classifySilently s).latches = s.latches := rfl
@[simp] theorem classifySilently_link (s : State) : (classifySilently s).link = s.link := rfl
@[simp] theorem classifySilently_outputs (s : State) : (classifySilently s).outputs = s.outputs := rfl

/-! #### latchModeReached -/

@[simp] theorem latchModeReached_pending (s : State) : (latchModeReached s).pending = s.pending := rfl
@[simp] theorem latchModeReached_choices (s : State) : (latchModeReached s).choices = s.choices := rfl
@[simp] theorem latchModeReached_power (s : State) : (latchModeReached s).power = s.power := rfl
@[simp] theorem latchModeReached_lines (s : State) : (latchModeReached s).lines = s.lines := rfl
@[simp] theorem latchModeReached_nv (s : State) : (latchModeReached s).nv = s.nv := rfl
@[simp] theorem latchModeReached_table (s : State) : (latchModeReached s).table = s.table := rfl
@[simp] theorem latchModeReached_config (s : State) : (latchModeReached s).config = s.config := rfl
@[simp] theorem latchModeReached_pose (s : State) : (latchModeReached s).pose = s.pose := rfl
@[simp] theorem latchModeReached_zones (s : State) : (latchModeReached s).zones = s.zones := rfl
@[simp] theorem latchModeReached_clearance (s : State) : (latchModeReached s).clearance = s.clearance := rfl
@[simp] theorem latchModeReached_segments (s : State) : (latchModeReached s).segments = s.segments := rfl
@[simp] theorem latchModeReached_drive (s : State) : (latchModeReached s).drive = s.drive := rfl
@[simp] theorem latchModeReached_floor (s : State) : (latchModeReached s).floor = s.floor := rfl
@[simp] theorem latchModeReached_ageing (s : State) : (latchModeReached s).ageing = s.ageing := rfl
@[simp] theorem latchModeReached_dock (s : State) : (latchModeReached s).dock = s.dock := rfl
@[simp] theorem latchModeReached_modes (s : State) : (latchModeReached s).modes = s.modes := rfl
@[simp] theorem latchModeReached_link (s : State) : (latchModeReached s).link = s.link := rfl
@[simp] theorem latchModeReached_outputs (s : State) : (latchModeReached s).outputs = s.outputs := rfl

/-! #### latchHalt -/

@[simp] theorem latchHalt_pending (s : State) : (latchHalt s).pending = s.pending := rfl
@[simp] theorem latchHalt_choices (s : State) : (latchHalt s).choices = s.choices := rfl
@[simp] theorem latchHalt_power (s : State) : (latchHalt s).power = s.power := rfl
@[simp] theorem latchHalt_lines (s : State) : (latchHalt s).lines = s.lines := rfl
@[simp] theorem latchHalt_nv (s : State) : (latchHalt s).nv = s.nv := rfl
@[simp] theorem latchHalt_table (s : State) : (latchHalt s).table = s.table := rfl
@[simp] theorem latchHalt_config (s : State) : (latchHalt s).config = s.config := rfl
@[simp] theorem latchHalt_pose (s : State) : (latchHalt s).pose = s.pose := rfl
@[simp] theorem latchHalt_zones (s : State) : (latchHalt s).zones = s.zones := rfl
@[simp] theorem latchHalt_clearance (s : State) : (latchHalt s).clearance = s.clearance := rfl
@[simp] theorem latchHalt_segments (s : State) : (latchHalt s).segments = s.segments := rfl
@[simp] theorem latchHalt_drive (s : State) : (latchHalt s).drive = s.drive := rfl
@[simp] theorem latchHalt_floor (s : State) : (latchHalt s).floor = s.floor := rfl
@[simp] theorem latchHalt_ageing (s : State) : (latchHalt s).ageing = s.ageing := rfl
@[simp] theorem latchHalt_dock (s : State) : (latchHalt s).dock = s.dock := rfl
@[simp] theorem latchHalt_modes (s : State) : (latchHalt s).modes = s.modes := rfl
@[simp] theorem latchHalt_link (s : State) : (latchHalt s).link = s.link := rfl
@[simp] theorem latchHalt_outputs (s : State) : (latchHalt s).outputs = s.outputs := rfl

/-! #### markCancelled -/

@[simp] theorem markCancelled_pending (s : State) : (markCancelled s).pending = s.pending := rfl
@[simp] theorem markCancelled_choices (s : State) : (markCancelled s).choices = s.choices := rfl
@[simp] theorem markCancelled_power (s : State) : (markCancelled s).power = s.power := rfl
@[simp] theorem markCancelled_lines (s : State) : (markCancelled s).lines = s.lines := rfl
@[simp] theorem markCancelled_nv (s : State) : (markCancelled s).nv = s.nv := rfl
@[simp] theorem markCancelled_table (s : State) : (markCancelled s).table = s.table := rfl
@[simp] theorem markCancelled_config (s : State) : (markCancelled s).config = s.config := rfl
@[simp] theorem markCancelled_pose (s : State) : (markCancelled s).pose = s.pose := rfl
@[simp] theorem markCancelled_zones (s : State) : (markCancelled s).zones = s.zones := rfl
@[simp] theorem markCancelled_clearance (s : State) : (markCancelled s).clearance = s.clearance := rfl
@[simp] theorem markCancelled_drive (s : State) : (markCancelled s).drive = s.drive := rfl
@[simp] theorem markCancelled_floor (s : State) : (markCancelled s).floor = s.floor := rfl
@[simp] theorem markCancelled_ageing (s : State) : (markCancelled s).ageing = s.ageing := rfl
@[simp] theorem markCancelled_dock (s : State) : (markCancelled s).dock = s.dock := rfl
@[simp] theorem markCancelled_modes (s : State) : (markCancelled s).modes = s.modes := rfl
@[simp] theorem markCancelled_latches (s : State) : (markCancelled s).latches = s.latches := rfl
@[simp] theorem markCancelled_link (s : State) : (markCancelled s).link = s.link := rfl
@[simp] theorem markCancelled_outputs (s : State) : (markCancelled s).outputs = s.outputs := rfl

/-! #### joinQueue -/

@[simp] theorem joinQueue_pending (g : Segment) (s : State) : (joinQueue g s).pending = s.pending := rfl
@[simp] theorem joinQueue_choices (g : Segment) (s : State) : (joinQueue g s).choices = s.choices := rfl
@[simp] theorem joinQueue_power (g : Segment) (s : State) : (joinQueue g s).power = s.power := rfl
@[simp] theorem joinQueue_lines (g : Segment) (s : State) : (joinQueue g s).lines = s.lines := rfl
@[simp] theorem joinQueue_nv (g : Segment) (s : State) : (joinQueue g s).nv = s.nv := rfl
@[simp] theorem joinQueue_table (g : Segment) (s : State) : (joinQueue g s).table = s.table := rfl
@[simp] theorem joinQueue_config (g : Segment) (s : State) : (joinQueue g s).config = s.config := rfl
@[simp] theorem joinQueue_pose (g : Segment) (s : State) : (joinQueue g s).pose = s.pose := rfl
@[simp] theorem joinQueue_zones (g : Segment) (s : State) : (joinQueue g s).zones = s.zones := rfl
@[simp] theorem joinQueue_clearance (g : Segment) (s : State) : (joinQueue g s).clearance = s.clearance := rfl
@[simp] theorem joinQueue_drive (g : Segment) (s : State) : (joinQueue g s).drive = s.drive := rfl
@[simp] theorem joinQueue_floor (g : Segment) (s : State) : (joinQueue g s).floor = s.floor := rfl
@[simp] theorem joinQueue_ageing (g : Segment) (s : State) : (joinQueue g s).ageing = s.ageing := rfl
@[simp] theorem joinQueue_dock (g : Segment) (s : State) : (joinQueue g s).dock = s.dock := rfl
@[simp] theorem joinQueue_modes (g : Segment) (s : State) : (joinQueue g s).modes = s.modes := rfl
@[simp] theorem joinQueue_latches (g : Segment) (s : State) : (joinQueue g s).latches = s.latches := rfl
@[simp] theorem joinQueue_link (g : Segment) (s : State) : (joinQueue g s).link = s.link := rfl
@[simp] theorem joinQueue_outputs (g : Segment) (s : State) : (joinQueue g s).outputs = s.outputs := rfl

/-! #### cancelWaiting -/

@[simp] theorem cancelWaiting_pending (g : Segment) (s : State) : (cancelWaiting g s).pending = s.pending := rfl
@[simp] theorem cancelWaiting_choices (g : Segment) (s : State) : (cancelWaiting g s).choices = s.choices := rfl
@[simp] theorem cancelWaiting_power (g : Segment) (s : State) : (cancelWaiting g s).power = s.power := rfl
@[simp] theorem cancelWaiting_lines (g : Segment) (s : State) : (cancelWaiting g s).lines = s.lines := rfl
@[simp] theorem cancelWaiting_nv (g : Segment) (s : State) : (cancelWaiting g s).nv = s.nv := rfl
@[simp] theorem cancelWaiting_table (g : Segment) (s : State) : (cancelWaiting g s).table = s.table := rfl
@[simp] theorem cancelWaiting_config (g : Segment) (s : State) : (cancelWaiting g s).config = s.config := rfl
@[simp] theorem cancelWaiting_pose (g : Segment) (s : State) : (cancelWaiting g s).pose = s.pose := rfl
@[simp] theorem cancelWaiting_zones (g : Segment) (s : State) : (cancelWaiting g s).zones = s.zones := rfl
@[simp] theorem cancelWaiting_clearance (g : Segment) (s : State) : (cancelWaiting g s).clearance = s.clearance := rfl
@[simp] theorem cancelWaiting_drive (g : Segment) (s : State) : (cancelWaiting g s).drive = s.drive := rfl
@[simp] theorem cancelWaiting_floor (g : Segment) (s : State) : (cancelWaiting g s).floor = s.floor := rfl
@[simp] theorem cancelWaiting_ageing (g : Segment) (s : State) : (cancelWaiting g s).ageing = s.ageing := rfl
@[simp] theorem cancelWaiting_dock (g : Segment) (s : State) : (cancelWaiting g s).dock = s.dock := rfl
@[simp] theorem cancelWaiting_modes (g : Segment) (s : State) : (cancelWaiting g s).modes = s.modes := rfl
@[simp] theorem cancelWaiting_latches (g : Segment) (s : State) : (cancelWaiting g s).latches = s.latches := rfl
@[simp] theorem cancelWaiting_link (g : Segment) (s : State) : (cancelWaiting g s).link = s.link := rfl
@[simp] theorem cancelWaiting_outputs (g : Segment) (s : State) : (cancelWaiting g s).outputs = s.outputs := rfl

/-! #### flushWaiting -/

@[simp] theorem flushWaiting_pending (s : State) : (flushWaiting s).pending = s.pending := rfl
@[simp] theorem flushWaiting_choices (s : State) : (flushWaiting s).choices = s.choices := rfl
@[simp] theorem flushWaiting_power (s : State) : (flushWaiting s).power = s.power := rfl
@[simp] theorem flushWaiting_lines (s : State) : (flushWaiting s).lines = s.lines := rfl
@[simp] theorem flushWaiting_nv (s : State) : (flushWaiting s).nv = s.nv := rfl
@[simp] theorem flushWaiting_table (s : State) : (flushWaiting s).table = s.table := rfl
@[simp] theorem flushWaiting_config (s : State) : (flushWaiting s).config = s.config := rfl
@[simp] theorem flushWaiting_pose (s : State) : (flushWaiting s).pose = s.pose := rfl
@[simp] theorem flushWaiting_zones (s : State) : (flushWaiting s).zones = s.zones := rfl
@[simp] theorem flushWaiting_clearance (s : State) : (flushWaiting s).clearance = s.clearance := rfl
@[simp] theorem flushWaiting_drive (s : State) : (flushWaiting s).drive = s.drive := rfl
@[simp] theorem flushWaiting_floor (s : State) : (flushWaiting s).floor = s.floor := rfl
@[simp] theorem flushWaiting_ageing (s : State) : (flushWaiting s).ageing = s.ageing := rfl
@[simp] theorem flushWaiting_dock (s : State) : (flushWaiting s).dock = s.dock := rfl
@[simp] theorem flushWaiting_modes (s : State) : (flushWaiting s).modes = s.modes := rfl
@[simp] theorem flushWaiting_latches (s : State) : (flushWaiting s).latches = s.latches := rfl
@[simp] theorem flushWaiting_link (s : State) : (flushWaiting s).link = s.link := rfl
@[simp] theorem flushWaiting_outputs (s : State) : (flushWaiting s).outputs = s.outputs := rfl

/-! #### setPhase -/

@[simp] theorem setPhase_pending (p : Phase) (s : State) : (setPhase p s).pending = s.pending := rfl
@[simp] theorem setPhase_choices (p : Phase) (s : State) : (setPhase p s).choices = s.choices := rfl
@[simp] theorem setPhase_power (p : Phase) (s : State) : (setPhase p s).power = s.power := rfl
@[simp] theorem setPhase_lines (p : Phase) (s : State) : (setPhase p s).lines = s.lines := rfl
@[simp] theorem setPhase_nv (p : Phase) (s : State) : (setPhase p s).nv = s.nv := rfl
@[simp] theorem setPhase_table (p : Phase) (s : State) : (setPhase p s).table = s.table := rfl
@[simp] theorem setPhase_config (p : Phase) (s : State) : (setPhase p s).config = s.config := rfl
@[simp] theorem setPhase_pose (p : Phase) (s : State) : (setPhase p s).pose = s.pose := rfl
@[simp] theorem setPhase_zones (p : Phase) (s : State) : (setPhase p s).zones = s.zones := rfl
@[simp] theorem setPhase_clearance (p : Phase) (s : State) : (setPhase p s).clearance = s.clearance := rfl
@[simp] theorem setPhase_drive (p : Phase) (s : State) : (setPhase p s).drive = s.drive := rfl
@[simp] theorem setPhase_floor (p : Phase) (s : State) : (setPhase p s).floor = s.floor := rfl
@[simp] theorem setPhase_ageing (p : Phase) (s : State) : (setPhase p s).ageing = s.ageing := rfl
@[simp] theorem setPhase_dock (p : Phase) (s : State) : (setPhase p s).dock = s.dock := rfl
@[simp] theorem setPhase_modes (p : Phase) (s : State) : (setPhase p s).modes = s.modes := rfl
@[simp] theorem setPhase_latches (p : Phase) (s : State) : (setPhase p s).latches = s.latches := rfl
@[simp] theorem setPhase_link (p : Phase) (s : State) : (setPhase p s).link = s.link := rfl
@[simp] theorem setPhase_outputs (p : Phase) (s : State) : (setPhase p s).outputs = s.outputs := rfl

/-! #### openContext -/

@[simp] theorem openContext_pending (g : Segment) (s : State) : (openContext g s).pending = s.pending := rfl
@[simp] theorem openContext_choices (g : Segment) (s : State) : (openContext g s).choices = s.choices := rfl
@[simp] theorem openContext_power (g : Segment) (s : State) : (openContext g s).power = s.power := rfl
@[simp] theorem openContext_lines (g : Segment) (s : State) : (openContext g s).lines = s.lines := rfl
@[simp] theorem openContext_nv (g : Segment) (s : State) : (openContext g s).nv = s.nv := rfl
@[simp] theorem openContext_table (g : Segment) (s : State) : (openContext g s).table = s.table := rfl
@[simp] theorem openContext_config (g : Segment) (s : State) : (openContext g s).config = s.config := rfl
@[simp] theorem openContext_pose (g : Segment) (s : State) : (openContext g s).pose = s.pose := rfl
@[simp] theorem openContext_zones (g : Segment) (s : State) : (openContext g s).zones = s.zones := rfl
@[simp] theorem openContext_clearance (g : Segment) (s : State) : (openContext g s).clearance = s.clearance := rfl
@[simp] theorem openContext_floor (g : Segment) (s : State) : (openContext g s).floor = s.floor := rfl
@[simp] theorem openContext_ageing (g : Segment) (s : State) : (openContext g s).ageing = s.ageing := rfl
@[simp] theorem openContext_modes (g : Segment) (s : State) : (openContext g s).modes = s.modes := rfl
@[simp] theorem openContext_latches (g : Segment) (s : State) : (openContext g s).latches = s.latches := rfl
@[simp] theorem openContext_link (g : Segment) (s : State) : (openContext g s).link = s.link := rfl
@[simp] theorem openContext_outputs (g : Segment) (s : State) : (openContext g s).outputs = s.outputs := rfl

/-! #### reloadWheel -/

@[simp] theorem reloadWheel_pending (wheel : Side) (s : State) : (reloadWheel wheel s).pending = s.pending := rfl
@[simp] theorem reloadWheel_choices (wheel : Side) (s : State) : (reloadWheel wheel s).choices = s.choices := rfl
@[simp] theorem reloadWheel_power (wheel : Side) (s : State) : (reloadWheel wheel s).power = s.power := rfl
@[simp] theorem reloadWheel_lines (wheel : Side) (s : State) : (reloadWheel wheel s).lines = s.lines := rfl
@[simp] theorem reloadWheel_nv (wheel : Side) (s : State) : (reloadWheel wheel s).nv = s.nv := rfl
@[simp] theorem reloadWheel_table (wheel : Side) (s : State) : (reloadWheel wheel s).table = s.table := rfl
@[simp] theorem reloadWheel_config (wheel : Side) (s : State) : (reloadWheel wheel s).config = s.config := rfl
@[simp] theorem reloadWheel_pose (wheel : Side) (s : State) : (reloadWheel wheel s).pose = s.pose := rfl
@[simp] theorem reloadWheel_zones (wheel : Side) (s : State) : (reloadWheel wheel s).zones = s.zones := rfl
@[simp] theorem reloadWheel_clearance (wheel : Side) (s : State) : (reloadWheel wheel s).clearance = s.clearance := rfl
@[simp] theorem reloadWheel_segments (wheel : Side) (s : State) : (reloadWheel wheel s).segments = s.segments := rfl
@[simp] theorem reloadWheel_floor (wheel : Side) (s : State) : (reloadWheel wheel s).floor = s.floor := rfl
@[simp] theorem reloadWheel_ageing (wheel : Side) (s : State) : (reloadWheel wheel s).ageing = s.ageing := rfl
@[simp] theorem reloadWheel_dock (wheel : Side) (s : State) : (reloadWheel wheel s).dock = s.dock := rfl
@[simp] theorem reloadWheel_modes (wheel : Side) (s : State) : (reloadWheel wheel s).modes = s.modes := rfl
@[simp] theorem reloadWheel_latches (wheel : Side) (s : State) : (reloadWheel wheel s).latches = s.latches := rfl
@[simp] theorem reloadWheel_link (wheel : Side) (s : State) : (reloadWheel wheel s).link = s.link := rfl
@[simp] theorem reloadWheel_outputs (wheel : Side) (s : State) : (reloadWheel wheel s).outputs = s.outputs := rfl

/-! #### doubleStall -/

@[simp] theorem doubleStall_pending (wheel : Side) (t : StallTimer) (s : State) : (doubleStall wheel t s).pending = s.pending := rfl
@[simp] theorem doubleStall_choices (wheel : Side) (t : StallTimer) (s : State) : (doubleStall wheel t s).choices = s.choices := rfl
@[simp] theorem doubleStall_power (wheel : Side) (t : StallTimer) (s : State) : (doubleStall wheel t s).power = s.power := rfl
@[simp] theorem doubleStall_lines (wheel : Side) (t : StallTimer) (s : State) : (doubleStall wheel t s).lines = s.lines := rfl
@[simp] theorem doubleStall_nv (wheel : Side) (t : StallTimer) (s : State) : (doubleStall wheel t s).nv = s.nv := rfl
@[simp] theorem doubleStall_table (wheel : Side) (t : StallTimer) (s : State) : (doubleStall wheel t s).table = s.table := rfl
@[simp] theorem doubleStall_config (wheel : Side) (t : StallTimer) (s : State) : (doubleStall wheel t s).config = s.config := rfl
@[simp] theorem doubleStall_pose (wheel : Side) (t : StallTimer) (s : State) : (doubleStall wheel t s).pose = s.pose := rfl
@[simp] theorem doubleStall_zones (wheel : Side) (t : StallTimer) (s : State) : (doubleStall wheel t s).zones = s.zones := rfl
@[simp] theorem doubleStall_clearance (wheel : Side) (t : StallTimer) (s : State) : (doubleStall wheel t s).clearance = s.clearance := rfl
@[simp] theorem doubleStall_segments (wheel : Side) (t : StallTimer) (s : State) : (doubleStall wheel t s).segments = s.segments := rfl
@[simp] theorem doubleStall_floor (wheel : Side) (t : StallTimer) (s : State) : (doubleStall wheel t s).floor = s.floor := rfl
@[simp] theorem doubleStall_ageing (wheel : Side) (t : StallTimer) (s : State) : (doubleStall wheel t s).ageing = s.ageing := rfl
@[simp] theorem doubleStall_dock (wheel : Side) (t : StallTimer) (s : State) : (doubleStall wheel t s).dock = s.dock := rfl
@[simp] theorem doubleStall_modes (wheel : Side) (t : StallTimer) (s : State) : (doubleStall wheel t s).modes = s.modes := rfl
@[simp] theorem doubleStall_latches (wheel : Side) (t : StallTimer) (s : State) : (doubleStall wheel t s).latches = s.latches := rfl
@[simp] theorem doubleStall_link (wheel : Side) (t : StallTimer) (s : State) : (doubleStall wheel t s).link = s.link := rfl
@[simp] theorem doubleStall_outputs (wheel : Side) (t : StallTimer) (s : State) : (doubleStall wheel t s).outputs = s.outputs := rfl

/-! #### startUnjam -/

@[simp] theorem startUnjam_pending (s : State) : (startUnjam s).pending = s.pending := rfl
@[simp] theorem startUnjam_choices (s : State) : (startUnjam s).choices = s.choices := rfl
@[simp] theorem startUnjam_power (s : State) : (startUnjam s).power = s.power := rfl
@[simp] theorem startUnjam_lines (s : State) : (startUnjam s).lines = s.lines := rfl
@[simp] theorem startUnjam_nv (s : State) : (startUnjam s).nv = s.nv := rfl
@[simp] theorem startUnjam_table (s : State) : (startUnjam s).table = s.table := rfl
@[simp] theorem startUnjam_config (s : State) : (startUnjam s).config = s.config := rfl
@[simp] theorem startUnjam_pose (s : State) : (startUnjam s).pose = s.pose := rfl
@[simp] theorem startUnjam_zones (s : State) : (startUnjam s).zones = s.zones := rfl
@[simp] theorem startUnjam_clearance (s : State) : (startUnjam s).clearance = s.clearance := rfl
@[simp] theorem startUnjam_floor (s : State) : (startUnjam s).floor = s.floor := rfl
@[simp] theorem startUnjam_ageing (s : State) : (startUnjam s).ageing = s.ageing := rfl
@[simp] theorem startUnjam_dock (s : State) : (startUnjam s).dock = s.dock := rfl
@[simp] theorem startUnjam_modes (s : State) : (startUnjam s).modes = s.modes := rfl
@[simp] theorem startUnjam_latches (s : State) : (startUnjam s).latches = s.latches := rfl
@[simp] theorem startUnjam_link (s : State) : (startUnjam s).link = s.link := rfl
@[simp] theorem startUnjam_outputs (s : State) : (startUnjam s).outputs = s.outputs := rfl

/-! #### clearGuard -/

@[simp] theorem clearGuard_pending (wheel : Side) (s : State) : (clearGuard wheel s).pending = s.pending := rfl
@[simp] theorem clearGuard_choices (wheel : Side) (s : State) : (clearGuard wheel s).choices = s.choices := rfl
@[simp] theorem clearGuard_power (wheel : Side) (s : State) : (clearGuard wheel s).power = s.power := rfl
@[simp] theorem clearGuard_lines (wheel : Side) (s : State) : (clearGuard wheel s).lines = s.lines := rfl
@[simp] theorem clearGuard_nv (wheel : Side) (s : State) : (clearGuard wheel s).nv = s.nv := rfl
@[simp] theorem clearGuard_table (wheel : Side) (s : State) : (clearGuard wheel s).table = s.table := rfl
@[simp] theorem clearGuard_config (wheel : Side) (s : State) : (clearGuard wheel s).config = s.config := rfl
@[simp] theorem clearGuard_pose (wheel : Side) (s : State) : (clearGuard wheel s).pose = s.pose := rfl
@[simp] theorem clearGuard_zones (wheel : Side) (s : State) : (clearGuard wheel s).zones = s.zones := rfl
@[simp] theorem clearGuard_clearance (wheel : Side) (s : State) : (clearGuard wheel s).clearance = s.clearance := rfl
@[simp] theorem clearGuard_segments (wheel : Side) (s : State) : (clearGuard wheel s).segments = s.segments := rfl
@[simp] theorem clearGuard_floor (wheel : Side) (s : State) : (clearGuard wheel s).floor = s.floor := rfl
@[simp] theorem clearGuard_ageing (wheel : Side) (s : State) : (clearGuard wheel s).ageing = s.ageing := rfl
@[simp] theorem clearGuard_dock (wheel : Side) (s : State) : (clearGuard wheel s).dock = s.dock := rfl
@[simp] theorem clearGuard_modes (wheel : Side) (s : State) : (clearGuard wheel s).modes = s.modes := rfl
@[simp] theorem clearGuard_latches (wheel : Side) (s : State) : (clearGuard wheel s).latches = s.latches := rfl
@[simp] theorem clearGuard_link (wheel : Side) (s : State) : (clearGuard wheel s).link = s.link := rfl
@[simp] theorem clearGuard_outputs (wheel : Side) (s : State) : (clearGuard wheel s).outputs = s.outputs := rfl

/-! #### slewStep -/

@[simp] theorem slewStep_pending (s : State) : (slewStep s).pending = s.pending := rfl
@[simp] theorem slewStep_choices (s : State) : (slewStep s).choices = s.choices := rfl
@[simp] theorem slewStep_power (s : State) : (slewStep s).power = s.power := rfl
@[simp] theorem slewStep_lines (s : State) : (slewStep s).lines = s.lines := rfl
@[simp] theorem slewStep_nv (s : State) : (slewStep s).nv = s.nv := rfl
@[simp] theorem slewStep_table (s : State) : (slewStep s).table = s.table := rfl
@[simp] theorem slewStep_config (s : State) : (slewStep s).config = s.config := rfl
@[simp] theorem slewStep_pose (s : State) : (slewStep s).pose = s.pose := rfl
@[simp] theorem slewStep_zones (s : State) : (slewStep s).zones = s.zones := rfl
@[simp] theorem slewStep_clearance (s : State) : (slewStep s).clearance = s.clearance := rfl
@[simp] theorem slewStep_segments (s : State) : (slewStep s).segments = s.segments := rfl
@[simp] theorem slewStep_floor (s : State) : (slewStep s).floor = s.floor := rfl
@[simp] theorem slewStep_ageing (s : State) : (slewStep s).ageing = s.ageing := rfl
@[simp] theorem slewStep_dock (s : State) : (slewStep s).dock = s.dock := rfl
@[simp] theorem slewStep_modes (s : State) : (slewStep s).modes = s.modes := rfl
@[simp] theorem slewStep_latches (s : State) : (slewStep s).latches = s.latches := rfl
@[simp] theorem slewStep_link (s : State) : (slewStep s).link = s.link := rfl
@[simp] theorem slewStep_outputs (s : State) : (slewStep s).outputs = s.outputs := rfl

/-! #### handObservation -/

@[simp] theorem handObservation_pending (o : Observation) (s : State) : (handObservation o s).pending = s.pending := rfl
@[simp] theorem handObservation_choices (o : Observation) (s : State) : (handObservation o s).choices = s.choices := rfl
@[simp] theorem handObservation_power (o : Observation) (s : State) : (handObservation o s).power = s.power := rfl
@[simp] theorem handObservation_lines (o : Observation) (s : State) : (handObservation o s).lines = s.lines := rfl
@[simp] theorem handObservation_nv (o : Observation) (s : State) : (handObservation o s).nv = s.nv := rfl
@[simp] theorem handObservation_table (o : Observation) (s : State) : (handObservation o s).table = s.table := rfl
@[simp] theorem handObservation_config (o : Observation) (s : State) : (handObservation o s).config = s.config := rfl
@[simp] theorem handObservation_pose (o : Observation) (s : State) : (handObservation o s).pose = s.pose := rfl
@[simp] theorem handObservation_zones (o : Observation) (s : State) : (handObservation o s).zones = s.zones := rfl
@[simp] theorem handObservation_clearance (o : Observation) (s : State) : (handObservation o s).clearance = s.clearance := rfl
@[simp] theorem handObservation_segments (o : Observation) (s : State) : (handObservation o s).segments = s.segments := rfl
@[simp] theorem handObservation_drive (o : Observation) (s : State) : (handObservation o s).drive = s.drive := rfl
@[simp] theorem handObservation_floor (o : Observation) (s : State) : (handObservation o s).floor = s.floor := rfl
@[simp] theorem handObservation_dock (o : Observation) (s : State) : (handObservation o s).dock = s.dock := rfl
@[simp] theorem handObservation_modes (o : Observation) (s : State) : (handObservation o s).modes = s.modes := rfl
@[simp] theorem handObservation_latches (o : Observation) (s : State) : (handObservation o s).latches = s.latches := rfl
@[simp] theorem handObservation_link (o : Observation) (s : State) : (handObservation o s).link = s.link := rfl
@[simp] theorem handObservation_outputs (o : Observation) (s : State) : (handObservation o s).outputs = s.outputs := rfl

/-! #### setBumper -/

@[simp] theorem setBumper_pending (side : Side) (b : Bumper) (s : State) : (setBumper side b s).pending = s.pending := rfl
@[simp] theorem setBumper_choices (side : Side) (b : Bumper) (s : State) : (setBumper side b s).choices = s.choices := rfl
@[simp] theorem setBumper_power (side : Side) (b : Bumper) (s : State) : (setBumper side b s).power = s.power := rfl
@[simp] theorem setBumper_lines (side : Side) (b : Bumper) (s : State) : (setBumper side b s).lines = s.lines := rfl
@[simp] theorem setBumper_nv (side : Side) (b : Bumper) (s : State) : (setBumper side b s).nv = s.nv := rfl
@[simp] theorem setBumper_table (side : Side) (b : Bumper) (s : State) : (setBumper side b s).table = s.table := rfl
@[simp] theorem setBumper_config (side : Side) (b : Bumper) (s : State) : (setBumper side b s).config = s.config := rfl
@[simp] theorem setBumper_pose (side : Side) (b : Bumper) (s : State) : (setBumper side b s).pose = s.pose := rfl
@[simp] theorem setBumper_zones (side : Side) (b : Bumper) (s : State) : (setBumper side b s).zones = s.zones := rfl
@[simp] theorem setBumper_clearance (side : Side) (b : Bumper) (s : State) : (setBumper side b s).clearance = s.clearance := rfl
@[simp] theorem setBumper_segments (side : Side) (b : Bumper) (s : State) : (setBumper side b s).segments = s.segments := rfl
@[simp] theorem setBumper_drive (side : Side) (b : Bumper) (s : State) : (setBumper side b s).drive = s.drive := rfl
@[simp] theorem setBumper_ageing (side : Side) (b : Bumper) (s : State) : (setBumper side b s).ageing = s.ageing := rfl
@[simp] theorem setBumper_dock (side : Side) (b : Bumper) (s : State) : (setBumper side b s).dock = s.dock := rfl
@[simp] theorem setBumper_modes (side : Side) (b : Bumper) (s : State) : (setBumper side b s).modes = s.modes := rfl
@[simp] theorem setBumper_latches (side : Side) (b : Bumper) (s : State) : (setBumper side b s).latches = s.latches := rfl
@[simp] theorem setBumper_link (side : Side) (b : Bumper) (s : State) : (setBumper side b s).link = s.link := rfl
@[simp] theorem setBumper_outputs (side : Side) (b : Bumper) (s : State) : (setBumper side b s).outputs = s.outputs := rfl

/-! #### endUndockWait -/

@[simp] theorem endUndockWait_pending (s : State) : (endUndockWait s).pending = s.pending := rfl
@[simp] theorem endUndockWait_choices (s : State) : (endUndockWait s).choices = s.choices := rfl
@[simp] theorem endUndockWait_power (s : State) : (endUndockWait s).power = s.power := rfl
@[simp] theorem endUndockWait_lines (s : State) : (endUndockWait s).lines = s.lines := rfl
@[simp] theorem endUndockWait_nv (s : State) : (endUndockWait s).nv = s.nv := rfl
@[simp] theorem endUndockWait_table (s : State) : (endUndockWait s).table = s.table := rfl
@[simp] theorem endUndockWait_config (s : State) : (endUndockWait s).config = s.config := rfl
@[simp] theorem endUndockWait_pose (s : State) : (endUndockWait s).pose = s.pose := rfl
@[simp] theorem endUndockWait_zones (s : State) : (endUndockWait s).zones = s.zones := rfl
@[simp] theorem endUndockWait_clearance (s : State) : (endUndockWait s).clearance = s.clearance := rfl
@[simp] theorem endUndockWait_drive (s : State) : (endUndockWait s).drive = s.drive := rfl
@[simp] theorem endUndockWait_floor (s : State) : (endUndockWait s).floor = s.floor := rfl
@[simp] theorem endUndockWait_ageing (s : State) : (endUndockWait s).ageing = s.ageing := rfl
@[simp] theorem endUndockWait_modes (s : State) : (endUndockWait s).modes = s.modes := rfl
@[simp] theorem endUndockWait_latches (s : State) : (endUndockWait s).latches = s.latches := rfl
@[simp] theorem endUndockWait_link (s : State) : (endUndockWait s).link = s.link := rfl
@[simp] theorem endUndockWait_outputs (s : State) : (endUndockWait s).outputs = s.outputs := rfl

end Sys2Proof.Machine
end

