-- ==== Sys2Proof/Laws/Frames.lean ====
section
/-! SUPPORT. The fields that each operation with cases leaves unchanged, whatever the case: the frame of the shared
operations. -/

namespace Sys2Proof.Machine


/-! #### offerNotice -/

@[simp] theorem offerNotice_pending (n : Notice) (s : State) : (offerNotice n s).pending = s.pending := by unfold offerNotice; split <;> rfl
@[simp] theorem offerNotice_choices (n : Notice) (s : State) : (offerNotice n s).choices = s.choices := by unfold offerNotice; split <;> rfl
@[simp] theorem offerNotice_power (n : Notice) (s : State) : (offerNotice n s).power = s.power := by unfold offerNotice; split <;> rfl
@[simp] theorem offerNotice_lines (n : Notice) (s : State) : (offerNotice n s).lines = s.lines := by unfold offerNotice; split <;> rfl
@[simp] theorem offerNotice_nv (n : Notice) (s : State) : (offerNotice n s).nv = s.nv := by unfold offerNotice; split <;> rfl
@[simp] theorem offerNotice_table (n : Notice) (s : State) : (offerNotice n s).table = s.table := by unfold offerNotice; split <;> rfl
@[simp] theorem offerNotice_config (n : Notice) (s : State) : (offerNotice n s).config = s.config := by unfold offerNotice; split <;> rfl
@[simp] theorem offerNotice_pose (n : Notice) (s : State) : (offerNotice n s).pose = s.pose := by unfold offerNotice; split <;> rfl
@[simp] theorem offerNotice_zones (n : Notice) (s : State) : (offerNotice n s).zones = s.zones := by unfold offerNotice; split <;> rfl
@[simp] theorem offerNotice_clearance (n : Notice) (s : State) : (offerNotice n s).clearance = s.clearance := by unfold offerNotice; split <;> rfl
@[simp] theorem offerNotice_segments (n : Notice) (s : State) : (offerNotice n s).segments = s.segments := by unfold offerNotice; split <;> rfl
@[simp] theorem offerNotice_drive (n : Notice) (s : State) : (offerNotice n s).drive = s.drive := by unfold offerNotice; split <;> rfl
@[simp] theorem offerNotice_floor (n : Notice) (s : State) : (offerNotice n s).floor = s.floor := by unfold offerNotice; split <;> rfl
@[simp] theorem offerNotice_ageing (n : Notice) (s : State) : (offerNotice n s).ageing = s.ageing := by unfold offerNotice; split <;> rfl
@[simp] theorem offerNotice_dock (n : Notice) (s : State) : (offerNotice n s).dock = s.dock := by unfold offerNotice; split <;> rfl
@[simp] theorem offerNotice_modes (n : Notice) (s : State) : (offerNotice n s).modes = s.modes := by unfold offerNotice; split <;> rfl
@[simp] theorem offerNotice_outputs (n : Notice) (s : State) : (offerNotice n s).outputs = s.outputs := by unfold offerNotice; split <;> rfl

/-! #### classify -/

@[simp] theorem classify_pending (cause : NoticeCause) (s : State) : (classify cause s).pending = s.pending := by unfold classify; dsimp only; split <;> simp
@[simp] theorem classify_choices (cause : NoticeCause) (s : State) : (classify cause s).choices = s.choices := by unfold classify; dsimp only; split <;> simp
@[simp] theorem classify_power (cause : NoticeCause) (s : State) : (classify cause s).power = s.power := by unfold classify; dsimp only; split <;> simp
@[simp] theorem classify_lines (cause : NoticeCause) (s : State) : (classify cause s).lines = s.lines := by unfold classify; dsimp only; split <;> simp
@[simp] theorem classify_nv (cause : NoticeCause) (s : State) : (classify cause s).nv = s.nv := by unfold classify; dsimp only; split <;> simp
@[simp] theorem classify_table (cause : NoticeCause) (s : State) : (classify cause s).table = s.table := by unfold classify; dsimp only; split <;> simp
@[simp] theorem classify_config (cause : NoticeCause) (s : State) : (classify cause s).config = s.config := by unfold classify; dsimp only; split <;> simp
@[simp] theorem classify_pose (cause : NoticeCause) (s : State) : (classify cause s).pose = s.pose := by unfold classify; dsimp only; split <;> simp
@[simp] theorem classify_clearance (cause : NoticeCause) (s : State) : (classify cause s).clearance = s.clearance := by unfold classify; dsimp only; split <;> simp
@[simp] theorem classify_segments (cause : NoticeCause) (s : State) : (classify cause s).segments = s.segments := by unfold classify; dsimp only; split <;> simp
@[simp] theorem classify_drive (cause : NoticeCause) (s : State) : (classify cause s).drive = s.drive := by unfold classify; dsimp only; split <;> simp
@[simp] theorem classify_floor (cause : NoticeCause) (s : State) : (classify cause s).floor = s.floor := by unfold classify; dsimp only; split <;> simp
@[simp] theorem classify_ageing (cause : NoticeCause) (s : State) : (classify cause s).ageing = s.ageing := by unfold classify; dsimp only; split <;> simp
@[simp] theorem classify_dock (cause : NoticeCause) (s : State) : (classify cause s).dock = s.dock := by unfold classify; dsimp only; split <;> simp
@[simp] theorem classify_modes (cause : NoticeCause) (s : State) : (classify cause s).modes = s.modes := by unfold classify; dsimp only; split <;> simp
@[simp] theorem classify_outputs (cause : NoticeCause) (s : State) : (classify cause s).outputs = s.outputs := by unfold classify; dsimp only; split <;> simp

/-! #### requestStop -/

@[simp] theorem requestStop_pending (kind : StopKind) (s : State) : (requestStop kind s).pending = s.pending := by unfold requestStop; split <;> rfl
@[simp] theorem requestStop_choices (kind : StopKind) (s : State) : (requestStop kind s).choices = s.choices := by unfold requestStop; split <;> rfl
@[simp] theorem requestStop_power (kind : StopKind) (s : State) : (requestStop kind s).power = s.power := by unfold requestStop; split <;> rfl
@[simp] theorem requestStop_lines (kind : StopKind) (s : State) : (requestStop kind s).lines = s.lines := by unfold requestStop; split <;> rfl
@[simp] theorem requestStop_nv (kind : StopKind) (s : State) : (requestStop kind s).nv = s.nv := by unfold requestStop; split <;> rfl
@[simp] theorem requestStop_table (kind : StopKind) (s : State) : (requestStop kind s).table = s.table := by unfold requestStop; split <;> rfl
@[simp] theorem requestStop_config (kind : StopKind) (s : State) : (requestStop kind s).config = s.config := by unfold requestStop; split <;> rfl
@[simp] theorem requestStop_pose (kind : StopKind) (s : State) : (requestStop kind s).pose = s.pose := by unfold requestStop; split <;> rfl
@[simp] theorem requestStop_zones (kind : StopKind) (s : State) : (requestStop kind s).zones = s.zones := by unfold requestStop; split <;> rfl
@[simp] theorem requestStop_clearance (kind : StopKind) (s : State) : (requestStop kind s).clearance = s.clearance := by unfold requestStop; split <;> rfl
@[simp] theorem requestStop_segments (kind : StopKind) (s : State) : (requestStop kind s).segments = s.segments := by unfold requestStop; split <;> rfl
@[simp] theorem requestStop_floor (kind : StopKind) (s : State) : (requestStop kind s).floor = s.floor := by unfold requestStop; split <;> rfl
@[simp] theorem requestStop_ageing (kind : StopKind) (s : State) : (requestStop kind s).ageing = s.ageing := by unfold requestStop; split <;> rfl
@[simp] theorem requestStop_dock (kind : StopKind) (s : State) : (requestStop kind s).dock = s.dock := by unfold requestStop; split <;> rfl
@[simp] theorem requestStop_modes (kind : StopKind) (s : State) : (requestStop kind s).modes = s.modes := by unfold requestStop; split <;> rfl
@[simp] theorem requestStop_latches (kind : StopKind) (s : State) : (requestStop kind s).latches = s.latches := by unfold requestStop; split <;> rfl
@[simp] theorem requestStop_link (kind : StopKind) (s : State) : (requestStop kind s).link = s.link := by unfold requestStop; split <;> rfl
@[simp] theorem requestStop_outputs (kind : StopKind) (s : State) : (requestStop kind s).outputs = s.outputs := by unfold requestStop; split <;> rfl

/-! #### handCause -/

@[simp] theorem handCause_pending (kind : EndKind) (record : Option Ref) (s : State) : (handCause kind record s).pending = s.pending := by unfold handCause; repeat' (first | rfl | split)
@[simp] theorem handCause_choices (kind : EndKind) (record : Option Ref) (s : State) : (handCause kind record s).choices = s.choices := by unfold handCause; repeat' (first | rfl | split)
@[simp] theorem handCause_power (kind : EndKind) (record : Option Ref) (s : State) : (handCause kind record s).power = s.power := by unfold handCause; repeat' (first | rfl | split)
@[simp] theorem handCause_lines (kind : EndKind) (record : Option Ref) (s : State) : (handCause kind record s).lines = s.lines := by unfold handCause; repeat' (first | rfl | split)
@[simp] theorem handCause_nv (kind : EndKind) (record : Option Ref) (s : State) : (handCause kind record s).nv = s.nv := by unfold handCause; repeat' (first | rfl | split)
@[simp] theorem handCause_table (kind : EndKind) (record : Option Ref) (s : State) : (handCause kind record s).table = s.table := by unfold handCause; repeat' (first | rfl | split)
@[simp] theorem handCause_config (kind : EndKind) (record : Option Ref) (s : State) : (handCause kind record s).config = s.config := by unfold handCause; repeat' (first | rfl | split)
@[simp] theorem handCause_pose (kind : EndKind) (record : Option Ref) (s : State) : (handCause kind record s).pose = s.pose := by unfold handCause; repeat' (first | rfl | split)
@[simp] theorem handCause_zones (kind : EndKind) (record : Option Ref) (s : State) : (handCause kind record s).zones = s.zones := by unfold handCause; repeat' (first | rfl | split)
@[simp] theorem handCause_clearance (kind : EndKind) (record : Option Ref) (s : State) : (handCause kind record s).clearance = s.clearance := by unfold handCause; repeat' (first | rfl | split)
@[simp] theorem handCause_ageing (kind : EndKind) (record : Option Ref) (s : State) : (handCause kind record s).ageing = s.ageing := by unfold handCause; repeat' (first | rfl | split)
@[simp] theorem handCause_dock (kind : EndKind) (record : Option Ref) (s : State) : (handCause kind record s).dock = s.dock := by unfold handCause; repeat' (first | rfl | split)
@[simp] theorem handCause_modes (kind : EndKind) (record : Option Ref) (s : State) : (handCause kind record s).modes = s.modes := by unfold handCause; repeat' (first | rfl | split)
@[simp] theorem handCause_latches (kind : EndKind) (record : Option Ref) (s : State) : (handCause kind record s).latches = s.latches := by unfold handCause; repeat' (first | rfl | split)
@[simp] theorem handCause_link (kind : EndKind) (record : Option Ref) (s : State) : (handCause kind record s).link = s.link := by unfold handCause; repeat' (first | rfl | split)
@[simp] theorem handCause_outputs (kind : EndKind) (record : Option Ref) (s : State) : (handCause kind record s).outputs = s.outputs := by unfold handCause; repeat' (first | rfl | split)

/-! #### handPending -/

@[simp] theorem handPending_pending (p : PendingCause) (s : State) : (handPending p s).pending = s.pending := by cases p <;> simp [handPending]
@[simp] theorem handPending_choices (p : PendingCause) (s : State) : (handPending p s).choices = s.choices := by cases p <;> simp [handPending]
@[simp] theorem handPending_power (p : PendingCause) (s : State) : (handPending p s).power = s.power := by cases p <;> simp [handPending]
@[simp] theorem handPending_lines (p : PendingCause) (s : State) : (handPending p s).lines = s.lines := by cases p <;> simp [handPending]
@[simp] theorem handPending_nv (p : PendingCause) (s : State) : (handPending p s).nv = s.nv := by cases p <;> simp [handPending]
@[simp] theorem handPending_table (p : PendingCause) (s : State) : (handPending p s).table = s.table := by cases p <;> simp [handPending]
@[simp] theorem handPending_config (p : PendingCause) (s : State) : (handPending p s).config = s.config := by cases p <;> simp [handPending]
@[simp] theorem handPending_pose (p : PendingCause) (s : State) : (handPending p s).pose = s.pose := by cases p <;> simp [handPending]
@[simp] theorem handPending_zones (p : PendingCause) (s : State) : (handPending p s).zones = s.zones := by cases p <;> simp [handPending]
@[simp] theorem handPending_clearance (p : PendingCause) (s : State) : (handPending p s).clearance = s.clearance := by cases p <;> simp [handPending]
@[simp] theorem handPending_ageing (p : PendingCause) (s : State) : (handPending p s).ageing = s.ageing := by cases p <;> simp [handPending]
@[simp] theorem handPending_dock (p : PendingCause) (s : State) : (handPending p s).dock = s.dock := by cases p <;> simp [handPending]
@[simp] theorem handPending_modes (p : PendingCause) (s : State) : (handPending p s).modes = s.modes := by cases p <;> simp [handPending]
@[simp] theorem handPending_latches (p : PendingCause) (s : State) : (handPending p s).latches = s.latches := by cases p <;> simp [handPending]
@[simp] theorem handPending_link (p : PendingCause) (s : State) : (handPending p s).link = s.link := by cases p <;> simp [handPending]
@[simp] theorem handPending_outputs (p : PendingCause) (s : State) : (handPending p s).outputs = s.outputs := by cases p <;> simp [handPending]

/-! #### evaluate -/

@[simp] theorem evaluate_pending (s : State) : (evaluate s).pending = s.pending := by unfold evaluate; split <;> simp
@[simp] theorem evaluate_choices (s : State) : (evaluate s).choices = s.choices := by unfold evaluate; split <;> simp
@[simp] theorem evaluate_power (s : State) : (evaluate s).power = s.power := by unfold evaluate; split <;> simp
@[simp] theorem evaluate_lines (s : State) : (evaluate s).lines = s.lines := by unfold evaluate; split <;> simp
@[simp] theorem evaluate_nv (s : State) : (evaluate s).nv = s.nv := by unfold evaluate; split <;> simp
@[simp] theorem evaluate_table (s : State) : (evaluate s).table = s.table := by unfold evaluate; split <;> simp
@[simp] theorem evaluate_config (s : State) : (evaluate s).config = s.config := by unfold evaluate; split <;> simp
@[simp] theorem evaluate_pose (s : State) : (evaluate s).pose = s.pose := by unfold evaluate; split <;> simp
@[simp] theorem evaluate_zones (s : State) : (evaluate s).zones = s.zones := by unfold evaluate; split <;> simp
@[simp] theorem evaluate_ageing (s : State) : (evaluate s).ageing = s.ageing := by unfold evaluate; split <;> simp
@[simp] theorem evaluate_dock (s : State) : (evaluate s).dock = s.dock := by unfold evaluate; split <;> simp
@[simp] theorem evaluate_modes (s : State) : (evaluate s).modes = s.modes := by unfold evaluate; split <;> simp
@[simp] theorem evaluate_latches (s : State) : (evaluate s).latches = s.latches := by unfold evaluate; split <;> simp
@[simp] theorem evaluate_link (s : State) : (evaluate s).link = s.link := by unfold evaluate; split <;> simp
@[simp] theorem evaluate_outputs (s : State) : (evaluate s).outputs = s.outputs := by unfold evaluate; split <;> simp

/-! #### tableChanged -/

@[simp] theorem tableChanged_pending (s : State) : (tableChanged s).pending = s.pending := by simp [tableChanged]
@[simp] theorem tableChanged_choices (s : State) : (tableChanged s).choices = s.choices := by simp [tableChanged]
@[simp] theorem tableChanged_power (s : State) : (tableChanged s).power = s.power := by simp [tableChanged]
@[simp] theorem tableChanged_lines (s : State) : (tableChanged s).lines = s.lines := by simp [tableChanged]
@[simp] theorem tableChanged_nv (s : State) : (tableChanged s).nv = s.nv := by simp [tableChanged]
@[simp] theorem tableChanged_table (s : State) : (tableChanged s).table = s.table := by simp [tableChanged]
@[simp] theorem tableChanged_config (s : State) : (tableChanged s).config = s.config := by simp [tableChanged]
@[simp] theorem tableChanged_pose (s : State) : (tableChanged s).pose = s.pose := by simp [tableChanged]
@[simp] theorem tableChanged_ageing (s : State) : (tableChanged s).ageing = s.ageing := by simp [tableChanged]
@[simp] theorem tableChanged_dock (s : State) : (tableChanged s).dock = s.dock := by simp [tableChanged]
@[simp] theorem tableChanged_modes (s : State) : (tableChanged s).modes = s.modes := by simp [tableChanged]
@[simp] theorem tableChanged_outputs (s : State) : (tableChanged s).outputs = s.outputs := by simp [tableChanged]

/-! #### writeRecord -/

@[simp] theorem writeRecord_pending (s : State) : (writeRecord s).pending = s.pending := by unfold writeRecord; split; split <;> rfl; rfl
@[simp] theorem writeRecord_choices (s : State) : (writeRecord s).choices = s.choices := by unfold writeRecord; split; split <;> rfl; rfl
@[simp] theorem writeRecord_power (s : State) : (writeRecord s).power = s.power := by unfold writeRecord; split; split <;> rfl; rfl
@[simp] theorem writeRecord_lines (s : State) : (writeRecord s).lines = s.lines := by unfold writeRecord; split; split <;> rfl; rfl
@[simp] theorem writeRecord_nv (s : State) : (writeRecord s).nv = s.nv := by unfold writeRecord; split; split <;> rfl; rfl
@[simp] theorem writeRecord_table (s : State) : (writeRecord s).table = s.table := by unfold writeRecord; split; split <;> rfl; rfl
@[simp] theorem writeRecord_config (s : State) : (writeRecord s).config = s.config := by unfold writeRecord; split; split <;> rfl; rfl
@[simp] theorem writeRecord_pose (s : State) : (writeRecord s).pose = s.pose := by unfold writeRecord; split; split <;> rfl; rfl
@[simp] theorem writeRecord_zones (s : State) : (writeRecord s).zones = s.zones := by unfold writeRecord; split; split <;> rfl; rfl
@[simp] theorem writeRecord_clearance (s : State) : (writeRecord s).clearance = s.clearance := by unfold writeRecord; split; split <;> rfl; rfl
@[simp] theorem writeRecord_ageing (s : State) : (writeRecord s).ageing = s.ageing := by unfold writeRecord; split; split <;> rfl; rfl
@[simp] theorem writeRecord_modes (s : State) : (writeRecord s).modes = s.modes := by unfold writeRecord; split; split <;> rfl; rfl
@[simp] theorem writeRecord_latches (s : State) : (writeRecord s).latches = s.latches := by unfold writeRecord; split; split <;> rfl; rfl
@[simp] theorem writeRecord_link (s : State) : (writeRecord s).link = s.link := by unfold writeRecord; split; split <;> rfl; rfl
@[simp] theorem writeRecord_outputs (s : State) : (writeRecord s).outputs = s.outputs := by unfold writeRecord; split; split <;> rfl; rfl

/-! #### writeIfDue -/

@[simp] theorem writeIfDue_pending (s : State) : (writeIfDue s).pending = s.pending := by unfold writeIfDue; split <;> simp
@[simp] theorem writeIfDue_choices (s : State) : (writeIfDue s).choices = s.choices := by unfold writeIfDue; split <;> simp
@[simp] theorem writeIfDue_power (s : State) : (writeIfDue s).power = s.power := by unfold writeIfDue; split <;> simp
@[simp] theorem writeIfDue_lines (s : State) : (writeIfDue s).lines = s.lines := by unfold writeIfDue; split <;> simp
@[simp] theorem writeIfDue_nv (s : State) : (writeIfDue s).nv = s.nv := by unfold writeIfDue; split <;> simp
@[simp] theorem writeIfDue_table (s : State) : (writeIfDue s).table = s.table := by unfold writeIfDue; split <;> simp
@[simp] theorem writeIfDue_config (s : State) : (writeIfDue s).config = s.config := by unfold writeIfDue; split <;> simp
@[simp] theorem writeIfDue_pose (s : State) : (writeIfDue s).pose = s.pose := by unfold writeIfDue; split <;> simp
@[simp] theorem writeIfDue_zones (s : State) : (writeIfDue s).zones = s.zones := by unfold writeIfDue; split <;> simp
@[simp] theorem writeIfDue_clearance (s : State) : (writeIfDue s).clearance = s.clearance := by unfold writeIfDue; split <;> simp
@[simp] theorem writeIfDue_ageing (s : State) : (writeIfDue s).ageing = s.ageing := by unfold writeIfDue; split <;> simp
@[simp] theorem writeIfDue_modes (s : State) : (writeIfDue s).modes = s.modes := by unfold writeIfDue; split <;> simp
@[simp] theorem writeIfDue_latches (s : State) : (writeIfDue s).latches = s.latches := by unfold writeIfDue; split <;> simp
@[simp] theorem writeIfDue_link (s : State) : (writeIfDue s).link = s.link := by unfold writeIfDue; split <;> simp
@[simp] theorem writeIfDue_outputs (s : State) : (writeIfDue s).outputs = s.outputs := by unfold writeIfDue; split <;> simp

/-! #### enterMode -/

@[simp] theorem enterMode_pending (m : Mode) (s : State) : (enterMode m s).pending = s.pending := by unfold enterMode; split <;> rfl
@[simp] theorem enterMode_choices (m : Mode) (s : State) : (enterMode m s).choices = s.choices := by unfold enterMode; split <;> rfl
@[simp] theorem enterMode_power (m : Mode) (s : State) : (enterMode m s).power = s.power := by unfold enterMode; split <;> rfl
@[simp] theorem enterMode_lines (m : Mode) (s : State) : (enterMode m s).lines = s.lines := by unfold enterMode; split <;> rfl
@[simp] theorem enterMode_nv (m : Mode) (s : State) : (enterMode m s).nv = s.nv := by unfold enterMode; split <;> rfl
@[simp] theorem enterMode_table (m : Mode) (s : State) : (enterMode m s).table = s.table := by unfold enterMode; split <;> rfl
@[simp] theorem enterMode_config (m : Mode) (s : State) : (enterMode m s).config = s.config := by unfold enterMode; split <;> rfl
@[simp] theorem enterMode_pose (m : Mode) (s : State) : (enterMode m s).pose = s.pose := by unfold enterMode; split <;> rfl
@[simp] theorem enterMode_zones (m : Mode) (s : State) : (enterMode m s).zones = s.zones := by unfold enterMode; split <;> rfl
@[simp] theorem enterMode_clearance (m : Mode) (s : State) : (enterMode m s).clearance = s.clearance := by unfold enterMode; split <;> rfl
@[simp] theorem enterMode_segments (m : Mode) (s : State) : (enterMode m s).segments = s.segments := by unfold enterMode; split <;> rfl
@[simp] theorem enterMode_ageing (m : Mode) (s : State) : (enterMode m s).ageing = s.ageing := by unfold enterMode; split <;> rfl
@[simp] theorem enterMode_dock (m : Mode) (s : State) : (enterMode m s).dock = s.dock := by unfold enterMode; split <;> rfl
@[simp] theorem enterMode_latches (m : Mode) (s : State) : (enterMode m s).latches = s.latches := by unfold enterMode; split <;> rfl
@[simp] theorem enterMode_link (m : Mode) (s : State) : (enterMode m s).link = s.link := by unfold enterMode; split <;> rfl
@[simp] theorem enterMode_outputs (m : Mode) (s : State) : (enterMode m s).outputs = s.outputs := by unfold enterMode; split <;> rfl

/-! #### fallToHalted -/

@[simp] theorem fallToHalted_pending (reason : HaltReason) (s : State) : (fallToHalted reason s).pending = s.pending := by simp [fallToHalted]
@[simp] theorem fallToHalted_choices (reason : HaltReason) (s : State) : (fallToHalted reason s).choices = s.choices := by simp [fallToHalted]
@[simp] theorem fallToHalted_power (reason : HaltReason) (s : State) : (fallToHalted reason s).power = s.power := by simp [fallToHalted]
@[simp] theorem fallToHalted_lines (reason : HaltReason) (s : State) : (fallToHalted reason s).lines = s.lines := by simp [fallToHalted]
@[simp] theorem fallToHalted_nv (reason : HaltReason) (s : State) : (fallToHalted reason s).nv = s.nv := by simp [fallToHalted]
@[simp] theorem fallToHalted_table (reason : HaltReason) (s : State) : (fallToHalted reason s).table = s.table := by simp [fallToHalted]
@[simp] theorem fallToHalted_config (reason : HaltReason) (s : State) : (fallToHalted reason s).config = s.config := by simp [fallToHalted]
@[simp] theorem fallToHalted_pose (reason : HaltReason) (s : State) : (fallToHalted reason s).pose = s.pose := by simp [fallToHalted]
@[simp] theorem fallToHalted_zones (reason : HaltReason) (s : State) : (fallToHalted reason s).zones = s.zones := by simp [fallToHalted]
@[simp] theorem fallToHalted_clearance (reason : HaltReason) (s : State) : (fallToHalted reason s).clearance = s.clearance := by simp [fallToHalted]
@[simp] theorem fallToHalted_segments (reason : HaltReason) (s : State) : (fallToHalted reason s).segments = s.segments := by simp [fallToHalted]
@[simp] theorem fallToHalted_ageing (reason : HaltReason) (s : State) : (fallToHalted reason s).ageing = s.ageing := by simp [fallToHalted]
@[simp] theorem fallToHalted_dock (reason : HaltReason) (s : State) : (fallToHalted reason s).dock = s.dock := by simp [fallToHalted]
@[simp] theorem fallToHalted_link (reason : HaltReason) (s : State) : (fallToHalted reason s).link = s.link := by simp [fallToHalted]
@[simp] theorem fallToHalted_outputs (reason : HaltReason) (s : State) : (fallToHalted reason s).outputs = s.outputs := by simp [fallToHalted]

/-! #### leaveStopping -/

@[simp] theorem leaveStopping_pending (s : State) : (leaveStopping s).pending = s.pending := by unfold leaveStopping; repeat' (first | rfl | split)
@[simp] theorem leaveStopping_choices (s : State) : (leaveStopping s).choices = s.choices := by unfold leaveStopping; repeat' (first | rfl | split)
@[simp] theorem leaveStopping_power (s : State) : (leaveStopping s).power = s.power := by unfold leaveStopping; repeat' (first | rfl | split)
@[simp] theorem leaveStopping_lines (s : State) : (leaveStopping s).lines = s.lines := by unfold leaveStopping; repeat' (first | rfl | split)
@[simp] theorem leaveStopping_nv (s : State) : (leaveStopping s).nv = s.nv := by unfold leaveStopping; repeat' (first | rfl | split)
@[simp] theorem leaveStopping_table (s : State) : (leaveStopping s).table = s.table := by unfold leaveStopping; repeat' (first | rfl | split)
@[simp] theorem leaveStopping_config (s : State) : (leaveStopping s).config = s.config := by unfold leaveStopping; repeat' (first | rfl | split)
@[simp] theorem leaveStopping_pose (s : State) : (leaveStopping s).pose = s.pose := by unfold leaveStopping; repeat' (first | rfl | split)
@[simp] theorem leaveStopping_zones (s : State) : (leaveStopping s).zones = s.zones := by unfold leaveStopping; repeat' (first | rfl | split)
@[simp] theorem leaveStopping_clearance (s : State) : (leaveStopping s).clearance = s.clearance := by unfold leaveStopping; repeat' (first | rfl | split)
@[simp] theorem leaveStopping_segments (s : State) : (leaveStopping s).segments = s.segments := by unfold leaveStopping; repeat' (first | rfl | split)
@[simp] theorem leaveStopping_ageing (s : State) : (leaveStopping s).ageing = s.ageing := by unfold leaveStopping; repeat' (first | rfl | split)
@[simp] theorem leaveStopping_dock (s : State) : (leaveStopping s).dock = s.dock := by unfold leaveStopping; repeat' (first | rfl | split)
@[simp] theorem leaveStopping_link (s : State) : (leaveStopping s).link = s.link := by unfold leaveStopping; repeat' (first | rfl | split)
@[simp] theorem leaveStopping_outputs (s : State) : (leaveStopping s).outputs = s.outputs := by unfold leaveStopping; repeat' (first | rfl | split)

/-! #### parkIfDrained -/

@[simp] theorem parkIfDrained_pending (s : State) : (parkIfDrained s).pending = s.pending := by unfold parkIfDrained; split <;> simp
@[simp] theorem parkIfDrained_choices (s : State) : (parkIfDrained s).choices = s.choices := by unfold parkIfDrained; split <;> simp
@[simp] theorem parkIfDrained_power (s : State) : (parkIfDrained s).power = s.power := by unfold parkIfDrained; split <;> simp
@[simp] theorem parkIfDrained_lines (s : State) : (parkIfDrained s).lines = s.lines := by unfold parkIfDrained; split <;> simp
@[simp] theorem parkIfDrained_nv (s : State) : (parkIfDrained s).nv = s.nv := by unfold parkIfDrained; split <;> simp
@[simp] theorem parkIfDrained_table (s : State) : (parkIfDrained s).table = s.table := by unfold parkIfDrained; split <;> simp
@[simp] theorem parkIfDrained_config (s : State) : (parkIfDrained s).config = s.config := by unfold parkIfDrained; split <;> simp
@[simp] theorem parkIfDrained_pose (s : State) : (parkIfDrained s).pose = s.pose := by unfold parkIfDrained; split <;> simp
@[simp] theorem parkIfDrained_zones (s : State) : (parkIfDrained s).zones = s.zones := by unfold parkIfDrained; split <;> simp
@[simp] theorem parkIfDrained_clearance (s : State) : (parkIfDrained s).clearance = s.clearance := by unfold parkIfDrained; split <;> simp
@[simp] theorem parkIfDrained_segments (s : State) : (parkIfDrained s).segments = s.segments := by unfold parkIfDrained; split <;> simp
@[simp] theorem parkIfDrained_ageing (s : State) : (parkIfDrained s).ageing = s.ageing := by unfold parkIfDrained; split <;> simp
@[simp] theorem parkIfDrained_dock (s : State) : (parkIfDrained s).dock = s.dock := by unfold parkIfDrained; split <;> simp
@[simp] theorem parkIfDrained_link (s : State) : (parkIfDrained s).link = s.link := by unfold parkIfDrained; split <;> simp
@[simp] theorem parkIfDrained_outputs (s : State) : (parkIfDrained s).outputs = s.outputs := by unfold parkIfDrained; split <;> simp

/-! #### dockedAtStart -/

@[simp] theorem dockedAtStart_pending (m : Motion) (s : State) : (dockedAtStart m s).pending = s.pending := by unfold dockedAtStart; split <;> simp
@[simp] theorem dockedAtStart_choices (m : Motion) (s : State) : (dockedAtStart m s).choices = s.choices := by unfold dockedAtStart; split <;> simp
@[simp] theorem dockedAtStart_power (m : Motion) (s : State) : (dockedAtStart m s).power = s.power := by unfold dockedAtStart; split <;> simp
@[simp] theorem dockedAtStart_lines (m : Motion) (s : State) : (dockedAtStart m s).lines = s.lines := by unfold dockedAtStart; split <;> simp
@[simp] theorem dockedAtStart_nv (m : Motion) (s : State) : (dockedAtStart m s).nv = s.nv := by unfold dockedAtStart; split <;> simp
@[simp] theorem dockedAtStart_table (m : Motion) (s : State) : (dockedAtStart m s).table = s.table := by unfold dockedAtStart; split <;> simp
@[simp] theorem dockedAtStart_config (m : Motion) (s : State) : (dockedAtStart m s).config = s.config := by unfold dockedAtStart; split <;> simp
@[simp] theorem dockedAtStart_pose (m : Motion) (s : State) : (dockedAtStart m s).pose = s.pose := by unfold dockedAtStart; split <;> simp
@[simp] theorem dockedAtStart_zones (m : Motion) (s : State) : (dockedAtStart m s).zones = s.zones := by unfold dockedAtStart; split <;> simp
@[simp] theorem dockedAtStart_clearance (m : Motion) (s : State) : (dockedAtStart m s).clearance = s.clearance := by unfold dockedAtStart; split <;> simp
@[simp] theorem dockedAtStart_ageing (m : Motion) (s : State) : (dockedAtStart m s).ageing = s.ageing := by unfold dockedAtStart; split <;> simp
@[simp] theorem dockedAtStart_dock (m : Motion) (s : State) : (dockedAtStart m s).dock = s.dock := by unfold dockedAtStart; split <;> simp
@[simp] theorem dockedAtStart_modes (m : Motion) (s : State) : (dockedAtStart m s).modes = s.modes := by unfold dockedAtStart; split <;> simp
@[simp] theorem dockedAtStart_latches (m : Motion) (s : State) : (dockedAtStart m s).latches = s.latches := by unfold dockedAtStart; split <;> simp
@[simp] theorem dockedAtStart_link (m : Motion) (s : State) : (dockedAtStart m s).link = s.link := by unfold dockedAtStart; split <;> simp
@[simp] theorem dockedAtStart_outputs (m : Motion) (s : State) : (dockedAtStart m s).outputs = s.outputs := by unfold dockedAtStart; split <;> simp

/-! #### startSegment -/

@[simp] theorem startSegment_pending (s : State) : (startSegment s).pending = s.pending := by unfold startSegment; split <;> simp
@[simp] theorem startSegment_choices (s : State) : (startSegment s).choices = s.choices := by unfold startSegment; split <;> simp
@[simp] theorem startSegment_power (s : State) : (startSegment s).power = s.power := by unfold startSegment; split <;> simp
@[simp] theorem startSegment_lines (s : State) : (startSegment s).lines = s.lines := by unfold startSegment; split <;> simp
@[simp] theorem startSegment_nv (s : State) : (startSegment s).nv = s.nv := by unfold startSegment; split <;> simp
@[simp] theorem startSegment_table (s : State) : (startSegment s).table = s.table := by unfold startSegment; split <;> simp
@[simp] theorem startSegment_config (s : State) : (startSegment s).config = s.config := by unfold startSegment; split <;> simp
@[simp] theorem startSegment_pose (s : State) : (startSegment s).pose = s.pose := by unfold startSegment; split <;> simp
@[simp] theorem startSegment_ageing (s : State) : (startSegment s).ageing = s.ageing := by unfold startSegment; split <;> simp
@[simp] theorem startSegment_modes (s : State) : (startSegment s).modes = s.modes := by unfold startSegment; split <;> simp
@[simp] theorem startSegment_latches (s : State) : (startSegment s).latches = s.latches := by unfold startSegment; split <;> simp
@[simp] theorem startSegment_link (s : State) : (startSegment s).link = s.link := by unfold startSegment; split <;> simp
@[simp] theorem startSegment_outputs (s : State) : (startSegment s).outputs = s.outputs := by unfold startSegment; split <;> simp

/-! #### settleOnce -/

@[simp] theorem settleOnce_pending (s : State) : (settleOnce s).pending = s.pending := by unfold settleOnce; repeat' (first | rfl | split | simp)
@[simp] theorem settleOnce_choices (s : State) : (settleOnce s).choices = s.choices := by unfold settleOnce; repeat' (first | rfl | split | simp)
@[simp] theorem settleOnce_power (s : State) : (settleOnce s).power = s.power := by unfold settleOnce; repeat' (first | rfl | split | simp)
@[simp] theorem settleOnce_lines (s : State) : (settleOnce s).lines = s.lines := by unfold settleOnce; repeat' (first | rfl | split | simp)
@[simp] theorem settleOnce_nv (s : State) : (settleOnce s).nv = s.nv := by unfold settleOnce; repeat' (first | rfl | split | simp)
@[simp] theorem settleOnce_table (s : State) : (settleOnce s).table = s.table := by unfold settleOnce; repeat' (first | rfl | split | simp)
@[simp] theorem settleOnce_config (s : State) : (settleOnce s).config = s.config := by unfold settleOnce; repeat' (first | rfl | split | simp)
@[simp] theorem settleOnce_pose (s : State) : (settleOnce s).pose = s.pose := by unfold settleOnce; repeat' (first | rfl | split | simp)
@[simp] theorem settleOnce_ageing (s : State) : (settleOnce s).ageing = s.ageing := by unfold settleOnce; repeat' (first | rfl | split | simp)
@[simp] theorem settleOnce_link (s : State) : (settleOnce s).link = s.link := by unfold settleOnce; repeat' (first | rfl | split | simp)
@[simp] theorem settleOnce_outputs (s : State) : (settleOnce s).outputs = s.outputs := by unfold settleOnce; repeat' (first | rfl | split | simp)

/-! #### settleLoop -/

@[simp] theorem settleLoop_pending (n : Nat) (s : State) : (settleLoop n s).pending = s.pending := by
  induction n generalizing s with
  | zero => rfl
  | succ n ih => simp only [settleLoop]; split <;> simp [ih]
@[simp] theorem settleLoop_choices (n : Nat) (s : State) : (settleLoop n s).choices = s.choices := by
  induction n generalizing s with
  | zero => rfl
  | succ n ih => simp only [settleLoop]; split <;> simp [ih]
@[simp] theorem settleLoop_power (n : Nat) (s : State) : (settleLoop n s).power = s.power := by
  induction n generalizing s with
  | zero => rfl
  | succ n ih => simp only [settleLoop]; split <;> simp [ih]
@[simp] theorem settleLoop_lines (n : Nat) (s : State) : (settleLoop n s).lines = s.lines := by
  induction n generalizing s with
  | zero => rfl
  | succ n ih => simp only [settleLoop]; split <;> simp [ih]
@[simp] theorem settleLoop_nv (n : Nat) (s : State) : (settleLoop n s).nv = s.nv := by
  induction n generalizing s with
  | zero => rfl
  | succ n ih => simp only [settleLoop]; split <;> simp [ih]
@[simp] theorem settleLoop_table (n : Nat) (s : State) : (settleLoop n s).table = s.table := by
  induction n generalizing s with
  | zero => rfl
  | succ n ih => simp only [settleLoop]; split <;> simp [ih]
@[simp] theorem settleLoop_config (n : Nat) (s : State) : (settleLoop n s).config = s.config := by
  induction n generalizing s with
  | zero => rfl
  | succ n ih => simp only [settleLoop]; split <;> simp [ih]
@[simp] theorem settleLoop_pose (n : Nat) (s : State) : (settleLoop n s).pose = s.pose := by
  induction n generalizing s with
  | zero => rfl
  | succ n ih => simp only [settleLoop]; split <;> simp [ih]
@[simp] theorem settleLoop_ageing (n : Nat) (s : State) : (settleLoop n s).ageing = s.ageing := by
  induction n generalizing s with
  | zero => rfl
  | succ n ih => simp only [settleLoop]; split <;> simp [ih]
@[simp] theorem settleLoop_link (n : Nat) (s : State) : (settleLoop n s).link = s.link := by
  induction n generalizing s with
  | zero => rfl
  | succ n ih => simp only [settleLoop]; split <;> simp [ih]
@[simp] theorem settleLoop_outputs (n : Nat) (s : State) : (settleLoop n s).outputs = s.outputs := by
  induction n generalizing s with
  | zero => rfl
  | succ n ih => simp only [settleLoop]; split <;> simp [ih]

/-! #### settle -/

@[simp] theorem settle_pending (s : State) : (settle s).pending = s.pending := by simp [settle]
@[simp] theorem settle_choices (s : State) : (settle s).choices = s.choices := by simp [settle]
@[simp] theorem settle_power (s : State) : (settle s).power = s.power := by simp [settle]
@[simp] theorem settle_lines (s : State) : (settle s).lines = s.lines := by simp [settle]
@[simp] theorem settle_nv (s : State) : (settle s).nv = s.nv := by simp [settle]
@[simp] theorem settle_table (s : State) : (settle s).table = s.table := by simp [settle]
@[simp] theorem settle_config (s : State) : (settle s).config = s.config := by simp [settle]
@[simp] theorem settle_pose (s : State) : (settle s).pose = s.pose := by simp [settle]
@[simp] theorem settle_ageing (s : State) : (settle s).ageing = s.ageing := by simp [settle]
@[simp] theorem settle_link (s : State) : (settle s).link = s.link := by simp [settle]
@[simp] theorem settle_outputs (s : State) : (settle s).outputs = s.outputs := by simp [settle]

/-! #### writeDue -/

@[simp] theorem writeDue_pending (s : State) : (writeDue s).pending = s.pending := by unfold writeDue; split <;> simp
@[simp] theorem writeDue_choices (s : State) : (writeDue s).choices = s.choices := by unfold writeDue; split <;> simp
@[simp] theorem writeDue_power (s : State) : (writeDue s).power = s.power := by unfold writeDue; split <;> simp
@[simp] theorem writeDue_lines (s : State) : (writeDue s).lines = s.lines := by unfold writeDue; split <;> simp
@[simp] theorem writeDue_nv (s : State) : (writeDue s).nv = s.nv := by unfold writeDue; split <;> simp
@[simp] theorem writeDue_table (s : State) : (writeDue s).table = s.table := by unfold writeDue; split <;> simp
@[simp] theorem writeDue_config (s : State) : (writeDue s).config = s.config := by unfold writeDue; split <;> simp
@[simp] theorem writeDue_pose (s : State) : (writeDue s).pose = s.pose := by unfold writeDue; split <;> simp
@[simp] theorem writeDue_zones (s : State) : (writeDue s).zones = s.zones := by unfold writeDue; split <;> simp
@[simp] theorem writeDue_clearance (s : State) : (writeDue s).clearance = s.clearance := by unfold writeDue; split <;> simp
@[simp] theorem writeDue_ageing (s : State) : (writeDue s).ageing = s.ageing := by unfold writeDue; split <;> simp
@[simp] theorem writeDue_link (s : State) : (writeDue s).link = s.link := by unfold writeDue; split <;> simp
@[simp] theorem writeDue_outputs (s : State) : (writeDue s).outputs = s.outputs := by unfold writeDue; split <;> simp

/-! #### takeProgress -/

@[simp] theorem takeProgress_pending (tag : Option Nat) (h : Handed) (s : State) : (takeProgress tag h s).pending = s.pending := by unfold takeProgress; repeat' (first | rfl | split | simp)
@[simp] theorem takeProgress_choices (tag : Option Nat) (h : Handed) (s : State) : (takeProgress tag h s).choices = s.choices := by unfold takeProgress; repeat' (first | rfl | split | simp)
@[simp] theorem takeProgress_power (tag : Option Nat) (h : Handed) (s : State) : (takeProgress tag h s).power = s.power := by unfold takeProgress; repeat' (first | rfl | split | simp)
@[simp] theorem takeProgress_lines (tag : Option Nat) (h : Handed) (s : State) : (takeProgress tag h s).lines = s.lines := by unfold takeProgress; repeat' (first | rfl | split | simp)
@[simp] theorem takeProgress_nv (tag : Option Nat) (h : Handed) (s : State) : (takeProgress tag h s).nv = s.nv := by unfold takeProgress; repeat' (first | rfl | split | simp)
@[simp] theorem takeProgress_table (tag : Option Nat) (h : Handed) (s : State) : (takeProgress tag h s).table = s.table := by unfold takeProgress; repeat' (first | rfl | split | simp)
@[simp] theorem takeProgress_config (tag : Option Nat) (h : Handed) (s : State) : (takeProgress tag h s).config = s.config := by unfold takeProgress; repeat' (first | rfl | split | simp)
@[simp] theorem takeProgress_pose (tag : Option Nat) (h : Handed) (s : State) : (takeProgress tag h s).pose = s.pose := by unfold takeProgress; repeat' (first | rfl | split | simp)
@[simp] theorem takeProgress_zones (tag : Option Nat) (h : Handed) (s : State) : (takeProgress tag h s).zones = s.zones := by unfold takeProgress; repeat' (first | rfl | split | simp)
@[simp] theorem takeProgress_clearance (tag : Option Nat) (h : Handed) (s : State) : (takeProgress tag h s).clearance = s.clearance := by unfold takeProgress; repeat' (first | rfl | split | simp)
@[simp] theorem takeProgress_ageing (tag : Option Nat) (h : Handed) (s : State) : (takeProgress tag h s).ageing = s.ageing := by unfold takeProgress; repeat' (first | rfl | split | simp)
@[simp] theorem takeProgress_dock (tag : Option Nat) (h : Handed) (s : State) : (takeProgress tag h s).dock = s.dock := by unfold takeProgress; repeat' (first | rfl | split | simp)
@[simp] theorem takeProgress_modes (tag : Option Nat) (h : Handed) (s : State) : (takeProgress tag h s).modes = s.modes := by unfold takeProgress; repeat' (first | rfl | split | simp)
@[simp] theorem takeProgress_latches (tag : Option Nat) (h : Handed) (s : State) : (takeProgress tag h s).latches = s.latches := by unfold takeProgress; repeat' (first | rfl | split | simp)
@[simp] theorem takeProgress_link (tag : Option Nat) (h : Handed) (s : State) : (takeProgress tag h s).link = s.link := by unfold takeProgress; repeat' (first | rfl | split | simp)
@[simp] theorem takeProgress_outputs (tag : Option Nat) (h : Handed) (s : State) : (takeProgress tag h s).outputs = s.outputs := by unfold takeProgress; repeat' (first | rfl | split | simp)

/-! #### takeBackoff -/

@[simp] theorem takeBackoff_pending (h : Handed) (s : State) : (takeBackoff h s).pending = s.pending := by unfold takeBackoff; split <;> rfl
@[simp] theorem takeBackoff_choices (h : Handed) (s : State) : (takeBackoff h s).choices = s.choices := by unfold takeBackoff; split <;> rfl
@[simp] theorem takeBackoff_power (h : Handed) (s : State) : (takeBackoff h s).power = s.power := by unfold takeBackoff; split <;> rfl
@[simp] theorem takeBackoff_lines (h : Handed) (s : State) : (takeBackoff h s).lines = s.lines := by unfold takeBackoff; split <;> rfl
@[simp] theorem takeBackoff_nv (h : Handed) (s : State) : (takeBackoff h s).nv = s.nv := by unfold takeBackoff; split <;> rfl
@[simp] theorem takeBackoff_table (h : Handed) (s : State) : (takeBackoff h s).table = s.table := by unfold takeBackoff; split <;> rfl
@[simp] theorem takeBackoff_config (h : Handed) (s : State) : (takeBackoff h s).config = s.config := by unfold takeBackoff; split <;> rfl
@[simp] theorem takeBackoff_pose (h : Handed) (s : State) : (takeBackoff h s).pose = s.pose := by unfold takeBackoff; split <;> rfl
@[simp] theorem takeBackoff_zones (h : Handed) (s : State) : (takeBackoff h s).zones = s.zones := by unfold takeBackoff; split <;> rfl
@[simp] theorem takeBackoff_clearance (h : Handed) (s : State) : (takeBackoff h s).clearance = s.clearance := by unfold takeBackoff; split <;> rfl
@[simp] theorem takeBackoff_segments (h : Handed) (s : State) : (takeBackoff h s).segments = s.segments := by unfold takeBackoff; split <;> rfl
@[simp] theorem takeBackoff_floor (h : Handed) (s : State) : (takeBackoff h s).floor = s.floor := by unfold takeBackoff; split <;> rfl
@[simp] theorem takeBackoff_ageing (h : Handed) (s : State) : (takeBackoff h s).ageing = s.ageing := by unfold takeBackoff; split <;> rfl
@[simp] theorem takeBackoff_dock (h : Handed) (s : State) : (takeBackoff h s).dock = s.dock := by unfold takeBackoff; split <;> rfl
@[simp] theorem takeBackoff_modes (h : Handed) (s : State) : (takeBackoff h s).modes = s.modes := by unfold takeBackoff; split <;> rfl
@[simp] theorem takeBackoff_latches (h : Handed) (s : State) : (takeBackoff h s).latches = s.latches := by unfold takeBackoff; split <;> rfl
@[simp] theorem takeBackoff_link (h : Handed) (s : State) : (takeBackoff h s).link = s.link := by unfold takeBackoff; split <;> rfl
@[simp] theorem takeBackoff_outputs (h : Handed) (s : State) : (takeBackoff h s).outputs = s.outputs := by unfold takeBackoff; split <;> rfl

/-! #### periodPart -/

@[simp] theorem periodPart_pending (tag : Option Nat) (h : Handed) (part : PeriodPart) (s : State) : (periodPart tag h part s).pending = s.pending := by cases part <;> simp [periodPart]
@[simp] theorem periodPart_choices (tag : Option Nat) (h : Handed) (part : PeriodPart) (s : State) : (periodPart tag h part s).choices = s.choices := by cases part <;> simp [periodPart]
@[simp] theorem periodPart_power (tag : Option Nat) (h : Handed) (part : PeriodPart) (s : State) : (periodPart tag h part s).power = s.power := by cases part <;> simp [periodPart]
@[simp] theorem periodPart_lines (tag : Option Nat) (h : Handed) (part : PeriodPart) (s : State) : (periodPart tag h part s).lines = s.lines := by cases part <;> simp [periodPart]
@[simp] theorem periodPart_nv (tag : Option Nat) (h : Handed) (part : PeriodPart) (s : State) : (periodPart tag h part s).nv = s.nv := by cases part <;> simp [periodPart]
@[simp] theorem periodPart_table (tag : Option Nat) (h : Handed) (part : PeriodPart) (s : State) : (periodPart tag h part s).table = s.table := by cases part <;> simp [periodPart]
@[simp] theorem periodPart_config (tag : Option Nat) (h : Handed) (part : PeriodPart) (s : State) : (periodPart tag h part s).config = s.config := by cases part <;> simp [periodPart]
@[simp] theorem periodPart_pose (tag : Option Nat) (h : Handed) (part : PeriodPart) (s : State) : (periodPart tag h part s).pose = s.pose := by cases part <;> simp [periodPart]
@[simp] theorem periodPart_ageing (tag : Option Nat) (h : Handed) (part : PeriodPart) (s : State) : (periodPart tag h part s).ageing = s.ageing := by cases part <;> simp [periodPart]
@[simp] theorem periodPart_link (tag : Option Nat) (h : Handed) (part : PeriodPart) (s : State) : (periodPart tag h part s).link = s.link := by cases part <;> simp [periodPart]
@[simp] theorem periodPart_outputs (tag : Option Nat) (h : Handed) (part : PeriodPart) (s : State) : (periodPart tag h part s).outputs = s.outputs := by cases part <;> simp [periodPart]

/-! #### stallExpired -/

@[simp] theorem stallExpired_pending (wheel : Side) (s : State) : (stallExpired wheel s).pending = s.pending := by unfold stallExpired; repeat' (first | rfl | split | simp)
@[simp] theorem stallExpired_choices (wheel : Side) (s : State) : (stallExpired wheel s).choices = s.choices := by unfold stallExpired; repeat' (first | rfl | split | simp)
@[simp] theorem stallExpired_power (wheel : Side) (s : State) : (stallExpired wheel s).power = s.power := by unfold stallExpired; repeat' (first | rfl | split | simp)
@[simp] theorem stallExpired_lines (wheel : Side) (s : State) : (stallExpired wheel s).lines = s.lines := by unfold stallExpired; repeat' (first | rfl | split | simp)
@[simp] theorem stallExpired_nv (wheel : Side) (s : State) : (stallExpired wheel s).nv = s.nv := by unfold stallExpired; repeat' (first | rfl | split | simp)
@[simp] theorem stallExpired_table (wheel : Side) (s : State) : (stallExpired wheel s).table = s.table := by unfold stallExpired; repeat' (first | rfl | split | simp)
@[simp] theorem stallExpired_config (wheel : Side) (s : State) : (stallExpired wheel s).config = s.config := by unfold stallExpired; repeat' (first | rfl | split | simp)
@[simp] theorem stallExpired_pose (wheel : Side) (s : State) : (stallExpired wheel s).pose = s.pose := by unfold stallExpired; repeat' (first | rfl | split | simp)
@[simp] theorem stallExpired_zones (wheel : Side) (s : State) : (stallExpired wheel s).zones = s.zones := by unfold stallExpired; repeat' (first | rfl | split | simp)
@[simp] theorem stallExpired_clearance (wheel : Side) (s : State) : (stallExpired wheel s).clearance = s.clearance := by unfold stallExpired; repeat' (first | rfl | split | simp)
@[simp] theorem stallExpired_ageing (wheel : Side) (s : State) : (stallExpired wheel s).ageing = s.ageing := by unfold stallExpired; repeat' (first | rfl | split | simp)
@[simp] theorem stallExpired_dock (wheel : Side) (s : State) : (stallExpired wheel s).dock = s.dock := by unfold stallExpired; repeat' (first | rfl | split | simp)
@[simp] theorem stallExpired_modes (wheel : Side) (s : State) : (stallExpired wheel s).modes = s.modes := by unfold stallExpired; repeat' (first | rfl | split | simp)
@[simp] theorem stallExpired_latches (wheel : Side) (s : State) : (stallExpired wheel s).latches = s.latches := by unfold stallExpired; repeat' (first | rfl | split | simp)
@[simp] theorem stallExpired_link (wheel : Side) (s : State) : (stallExpired wheel s).link = s.link := by unfold stallExpired; repeat' (first | rfl | split | simp)
@[simp] theorem stallExpired_outputs (wheel : Side) (s : State) : (stallExpired wheel s).outputs = s.outputs := by unfold stallExpired; repeat' (first | rfl | split | simp)

/-! #### triggerCause -/

@[simp] theorem triggerCause_pending (kind : EndKind) (o : Observation) (s : State) : (triggerCause kind o s).pending = s.pending := by unfold triggerCause; repeat' (first | rfl | split | simp)
@[simp] theorem triggerCause_choices (kind : EndKind) (o : Observation) (s : State) : (triggerCause kind o s).choices = s.choices := by unfold triggerCause; repeat' (first | rfl | split | simp)
@[simp] theorem triggerCause_power (kind : EndKind) (o : Observation) (s : State) : (triggerCause kind o s).power = s.power := by unfold triggerCause; repeat' (first | rfl | split | simp)
@[simp] theorem triggerCause_lines (kind : EndKind) (o : Observation) (s : State) : (triggerCause kind o s).lines = s.lines := by unfold triggerCause; repeat' (first | rfl | split | simp)
@[simp] theorem triggerCause_nv (kind : EndKind) (o : Observation) (s : State) : (triggerCause kind o s).nv = s.nv := by unfold triggerCause; repeat' (first | rfl | split | simp)
@[simp] theorem triggerCause_table (kind : EndKind) (o : Observation) (s : State) : (triggerCause kind o s).table = s.table := by unfold triggerCause; repeat' (first | rfl | split | simp)
@[simp] theorem triggerCause_config (kind : EndKind) (o : Observation) (s : State) : (triggerCause kind o s).config = s.config := by unfold triggerCause; repeat' (first | rfl | split | simp)
@[simp] theorem triggerCause_pose (kind : EndKind) (o : Observation) (s : State) : (triggerCause kind o s).pose = s.pose := by unfold triggerCause; repeat' (first | rfl | split | simp)
@[simp] theorem triggerCause_zones (kind : EndKind) (o : Observation) (s : State) : (triggerCause kind o s).zones = s.zones := by unfold triggerCause; repeat' (first | rfl | split | simp)
@[simp] theorem triggerCause_clearance (kind : EndKind) (o : Observation) (s : State) : (triggerCause kind o s).clearance = s.clearance := by unfold triggerCause; repeat' (first | rfl | split | simp)
@[simp] theorem triggerCause_ageing (kind : EndKind) (o : Observation) (s : State) : (triggerCause kind o s).ageing = s.ageing := by unfold triggerCause; repeat' (first | rfl | split | simp)
@[simp] theorem triggerCause_dock (kind : EndKind) (o : Observation) (s : State) : (triggerCause kind o s).dock = s.dock := by unfold triggerCause; repeat' (first | rfl | split | simp)
@[simp] theorem triggerCause_modes (kind : EndKind) (o : Observation) (s : State) : (triggerCause kind o s).modes = s.modes := by unfold triggerCause; repeat' (first | rfl | split | simp)
@[simp] theorem triggerCause_latches (kind : EndKind) (o : Observation) (s : State) : (triggerCause kind o s).latches = s.latches := by unfold triggerCause; repeat' (first | rfl | split | simp)
@[simp] theorem triggerCause_link (kind : EndKind) (o : Observation) (s : State) : (triggerCause kind o s).link = s.link := by unfold triggerCause; repeat' (first | rfl | split | simp)
@[simp] theorem triggerCause_outputs (kind : EndKind) (o : Observation) (s : State) : (triggerCause kind o s).outputs = s.outputs := by unfold triggerCause; repeat' (first | rfl | split | simp)

/-! #### fireTrigger -/

@[simp] theorem fireTrigger_pending (stop : Option StopKind) (cause : Option EndKind) (o : Observation) (s : State) : (fireTrigger stop cause o s).pending = s.pending := by cases stop <;> cases cause <;> simp [fireTrigger]
@[simp] theorem fireTrigger_choices (stop : Option StopKind) (cause : Option EndKind) (o : Observation) (s : State) : (fireTrigger stop cause o s).choices = s.choices := by cases stop <;> cases cause <;> simp [fireTrigger]
@[simp] theorem fireTrigger_power (stop : Option StopKind) (cause : Option EndKind) (o : Observation) (s : State) : (fireTrigger stop cause o s).power = s.power := by cases stop <;> cases cause <;> simp [fireTrigger]
@[simp] theorem fireTrigger_lines (stop : Option StopKind) (cause : Option EndKind) (o : Observation) (s : State) : (fireTrigger stop cause o s).lines = s.lines := by cases stop <;> cases cause <;> simp [fireTrigger]
@[simp] theorem fireTrigger_nv (stop : Option StopKind) (cause : Option EndKind) (o : Observation) (s : State) : (fireTrigger stop cause o s).nv = s.nv := by cases stop <;> cases cause <;> simp [fireTrigger]
@[simp] theorem fireTrigger_table (stop : Option StopKind) (cause : Option EndKind) (o : Observation) (s : State) : (fireTrigger stop cause o s).table = s.table := by cases stop <;> cases cause <;> simp [fireTrigger]
@[simp] theorem fireTrigger_config (stop : Option StopKind) (cause : Option EndKind) (o : Observation) (s : State) : (fireTrigger stop cause o s).config = s.config := by cases stop <;> cases cause <;> simp [fireTrigger]
@[simp] theorem fireTrigger_pose (stop : Option StopKind) (cause : Option EndKind) (o : Observation) (s : State) : (fireTrigger stop cause o s).pose = s.pose := by cases stop <;> cases cause <;> simp [fireTrigger]
@[simp] theorem fireTrigger_link (stop : Option StopKind) (cause : Option EndKind) (o : Observation) (s : State) : (fireTrigger stop cause o s).link = s.link := by cases stop <;> cases cause <;> simp [fireTrigger]
@[simp] theorem fireTrigger_outputs (stop : Option StopKind) (cause : Option EndKind) (o : Observation) (s : State) : (fireTrigger stop cause o s).outputs = s.outputs := by cases stop <;> cases cause <;> simp [fireTrigger]

/-! #### deliver -/

@[simp] theorem deliver_pending (ref : Option Ref) (s : State) : (deliver ref s).pending = s.pending := by unfold deliver; split <;> rfl
@[simp] theorem deliver_choices (ref : Option Ref) (s : State) : (deliver ref s).choices = s.choices := by unfold deliver; split <;> rfl
@[simp] theorem deliver_power (ref : Option Ref) (s : State) : (deliver ref s).power = s.power := by unfold deliver; split <;> rfl
@[simp] theorem deliver_lines (ref : Option Ref) (s : State) : (deliver ref s).lines = s.lines := by unfold deliver; split <;> rfl
@[simp] theorem deliver_nv (ref : Option Ref) (s : State) : (deliver ref s).nv = s.nv := by unfold deliver; split <;> rfl
@[simp] theorem deliver_table (ref : Option Ref) (s : State) : (deliver ref s).table = s.table := by unfold deliver; split <;> rfl
@[simp] theorem deliver_config (ref : Option Ref) (s : State) : (deliver ref s).config = s.config := by unfold deliver; split <;> rfl
@[simp] theorem deliver_pose (ref : Option Ref) (s : State) : (deliver ref s).pose = s.pose := by unfold deliver; split <;> rfl
@[simp] theorem deliver_zones (ref : Option Ref) (s : State) : (deliver ref s).zones = s.zones := by unfold deliver; split <;> rfl
@[simp] theorem deliver_clearance (ref : Option Ref) (s : State) : (deliver ref s).clearance = s.clearance := by unfold deliver; split <;> rfl
@[simp] theorem deliver_drive (ref : Option Ref) (s : State) : (deliver ref s).drive = s.drive := by unfold deliver; split <;> rfl
@[simp] theorem deliver_ageing (ref : Option Ref) (s : State) : (deliver ref s).ageing = s.ageing := by unfold deliver; split <;> rfl
@[simp] theorem deliver_dock (ref : Option Ref) (s : State) : (deliver ref s).dock = s.dock := by unfold deliver; split <;> rfl
@[simp] theorem deliver_modes (ref : Option Ref) (s : State) : (deliver ref s).modes = s.modes := by unfold deliver; split <;> rfl
@[simp] theorem deliver_latches (ref : Option Ref) (s : State) : (deliver ref s).latches = s.latches := by unfold deliver; split <;> rfl
@[simp] theorem deliver_link (ref : Option Ref) (s : State) : (deliver ref s).link = s.link := by unfold deliver; split <;> rfl
@[simp] theorem deliver_outputs (ref : Option Ref) (s : State) : (deliver ref s).outputs = s.outputs := by unfold deliver; split <;> rfl

/-! #### liftTrigger -/

@[simp] theorem liftTrigger_pending (s : State) : (liftTrigger s).pending = s.pending := by simp [liftTrigger]
@[simp] theorem liftTrigger_choices (s : State) : (liftTrigger s).choices = s.choices := by simp [liftTrigger]
@[simp] theorem liftTrigger_power (s : State) : (liftTrigger s).power = s.power := by simp [liftTrigger]
@[simp] theorem liftTrigger_lines (s : State) : (liftTrigger s).lines = s.lines := by simp [liftTrigger]
@[simp] theorem liftTrigger_nv (s : State) : (liftTrigger s).nv = s.nv := by simp [liftTrigger]
@[simp] theorem liftTrigger_table (s : State) : (liftTrigger s).table = s.table := by simp [liftTrigger]
@[simp] theorem liftTrigger_config (s : State) : (liftTrigger s).config = s.config := by simp [liftTrigger]
@[simp] theorem liftTrigger_pose (s : State) : (liftTrigger s).pose = s.pose := by simp [liftTrigger]
@[simp] theorem liftTrigger_zones (s : State) : (liftTrigger s).zones = s.zones := by simp [liftTrigger]
@[simp] theorem liftTrigger_clearance (s : State) : (liftTrigger s).clearance = s.clearance := by simp [liftTrigger]
@[simp] theorem liftTrigger_ageing (s : State) : (liftTrigger s).ageing = s.ageing := by simp [liftTrigger]
@[simp] theorem liftTrigger_link (s : State) : (liftTrigger s).link = s.link := by simp [liftTrigger]
@[simp] theorem liftTrigger_outputs (s : State) : (liftTrigger s).outputs = s.outputs := by simp [liftTrigger]

/-! #### becomeLifted -/

@[simp] theorem becomeLifted_pending (s : State) : (becomeLifted s).pending = s.pending := by unfold becomeLifted; dsimp only; split <;> simp
@[simp] theorem becomeLifted_choices (s : State) : (becomeLifted s).choices = s.choices := by unfold becomeLifted; dsimp only; split <;> simp
@[simp] theorem becomeLifted_power (s : State) : (becomeLifted s).power = s.power := by unfold becomeLifted; dsimp only; split <;> simp
@[simp] theorem becomeLifted_lines (s : State) : (becomeLifted s).lines = s.lines := by unfold becomeLifted; dsimp only; split <;> simp
@[simp] theorem becomeLifted_nv (s : State) : (becomeLifted s).nv = s.nv := by unfold becomeLifted; dsimp only; split <;> simp
@[simp] theorem becomeLifted_table (s : State) : (becomeLifted s).table = s.table := by unfold becomeLifted; dsimp only; split <;> simp
@[simp] theorem becomeLifted_config (s : State) : (becomeLifted s).config = s.config := by unfold becomeLifted; dsimp only; split <;> simp
@[simp] theorem becomeLifted_pose (s : State) : (becomeLifted s).pose = s.pose := by unfold becomeLifted; dsimp only; split <;> simp
@[simp] theorem becomeLifted_zones (s : State) : (becomeLifted s).zones = s.zones := by unfold becomeLifted; dsimp only; split <;> simp
@[simp] theorem becomeLifted_clearance (s : State) : (becomeLifted s).clearance = s.clearance := by unfold becomeLifted; dsimp only; split <;> simp
@[simp] theorem becomeLifted_ageing (s : State) : (becomeLifted s).ageing = s.ageing := by unfold becomeLifted; dsimp only; split <;> simp
@[simp] theorem becomeLifted_link (s : State) : (becomeLifted s).link = s.link := by unfold becomeLifted; dsimp only; split <;> simp
@[simp] theorem becomeLifted_outputs (s : State) : (becomeLifted s).outputs = s.outputs := by unfold becomeLifted; dsimp only; split <;> simp

/-! #### linkLost -/

@[simp] theorem linkLost_pending (s : State) : (linkLost s).pending = s.pending := by unfold linkLost; dsimp only; split <;> simp
@[simp] theorem linkLost_choices (s : State) : (linkLost s).choices = s.choices := by unfold linkLost; dsimp only; split <;> simp
@[simp] theorem linkLost_power (s : State) : (linkLost s).power = s.power := by unfold linkLost; dsimp only; split <;> simp
@[simp] theorem linkLost_lines (s : State) : (linkLost s).lines = s.lines := by unfold linkLost; dsimp only; split <;> simp
@[simp] theorem linkLost_nv (s : State) : (linkLost s).nv = s.nv := by unfold linkLost; dsimp only; split <;> simp
@[simp] theorem linkLost_table (s : State) : (linkLost s).table = s.table := by unfold linkLost; dsimp only; split <;> simp
@[simp] theorem linkLost_config (s : State) : (linkLost s).config = s.config := by unfold linkLost; dsimp only; split <;> simp
@[simp] theorem linkLost_pose (s : State) : (linkLost s).pose = s.pose := by unfold linkLost; dsimp only; split <;> simp
@[simp] theorem linkLost_zones (s : State) : (linkLost s).zones = s.zones := by unfold linkLost; dsimp only; split <;> simp
@[simp] theorem linkLost_clearance (s : State) : (linkLost s).clearance = s.clearance := by unfold linkLost; dsimp only; split <;> simp
@[simp] theorem linkLost_ageing (s : State) : (linkLost s).ageing = s.ageing := by unfold linkLost; dsimp only; split <;> simp
@[simp] theorem linkLost_link (s : State) : (linkLost s).link = s.link := by unfold linkLost; dsimp only; split <;> simp
@[simp] theorem linkLost_outputs (s : State) : (linkLost s).outputs = s.outputs := by unfold linkLost; dsimp only; split <;> simp

/-! #### flushToConfig -/

@[simp] theorem flushToConfig_pending (s : State) : (flushToConfig s).pending = s.pending := by unfold flushToConfig; dsimp only; split <;> simp
@[simp] theorem flushToConfig_choices (s : State) : (flushToConfig s).choices = s.choices := by unfold flushToConfig; dsimp only; split <;> simp
@[simp] theorem flushToConfig_power (s : State) : (flushToConfig s).power = s.power := by unfold flushToConfig; dsimp only; split <;> simp
@[simp] theorem flushToConfig_lines (s : State) : (flushToConfig s).lines = s.lines := by unfold flushToConfig; dsimp only; split <;> simp
@[simp] theorem flushToConfig_nv (s : State) : (flushToConfig s).nv = s.nv := by unfold flushToConfig; dsimp only; split <;> simp
@[simp] theorem flushToConfig_table (s : State) : (flushToConfig s).table = s.table := by unfold flushToConfig; dsimp only; split <;> simp
@[simp] theorem flushToConfig_config (s : State) : (flushToConfig s).config = s.config := by unfold flushToConfig; dsimp only; split <;> simp
@[simp] theorem flushToConfig_pose (s : State) : (flushToConfig s).pose = s.pose := by unfold flushToConfig; dsimp only; split <;> simp
@[simp] theorem flushToConfig_zones (s : State) : (flushToConfig s).zones = s.zones := by unfold flushToConfig; dsimp only; split <;> simp
@[simp] theorem flushToConfig_clearance (s : State) : (flushToConfig s).clearance = s.clearance := by unfold flushToConfig; dsimp only; split <;> simp
@[simp] theorem flushToConfig_ageing (s : State) : (flushToConfig s).ageing = s.ageing := by unfold flushToConfig; dsimp only; split <;> simp
@[simp] theorem flushToConfig_latches (s : State) : (flushToConfig s).latches = s.latches := by unfold flushToConfig; dsimp only; split <;> simp
@[simp] theorem flushToConfig_link (s : State) : (flushToConfig s).link = s.link := by unfold flushToConfig; dsimp only; split <;> simp
@[simp] theorem flushToConfig_outputs (s : State) : (flushToConfig s).outputs = s.outputs := by unfold flushToConfig; dsimp only; split <;> simp

/-! #### takeObservation -/

@[simp] theorem takeObservation_pending (o : Observation) (s : State) : (takeObservation o s).state.pending = s.pending := by unfold takeObservation; repeat' (first | rfl | split | simp [takeMerge, takeCreate, takeReplace])
@[simp] theorem takeObservation_choices (o : Observation) (s : State) : (takeObservation o s).state.choices = s.choices := by unfold takeObservation; repeat' (first | rfl | split | simp [takeMerge, takeCreate, takeReplace])
@[simp] theorem takeObservation_power (o : Observation) (s : State) : (takeObservation o s).state.power = s.power := by unfold takeObservation; repeat' (first | rfl | split | simp [takeMerge, takeCreate, takeReplace])
@[simp] theorem takeObservation_lines (o : Observation) (s : State) : (takeObservation o s).state.lines = s.lines := by unfold takeObservation; repeat' (first | rfl | split | simp [takeMerge, takeCreate, takeReplace])
@[simp] theorem takeObservation_nv (o : Observation) (s : State) : (takeObservation o s).state.nv = s.nv := by unfold takeObservation; repeat' (first | rfl | split | simp [takeMerge, takeCreate, takeReplace])
@[simp] theorem takeObservation_config (o : Observation) (s : State) : (takeObservation o s).state.config = s.config := by unfold takeObservation; repeat' (first | rfl | split | simp [takeMerge, takeCreate, takeReplace])
@[simp] theorem takeObservation_pose (o : Observation) (s : State) : (takeObservation o s).state.pose = s.pose := by unfold takeObservation; repeat' (first | rfl | split | simp [takeMerge, takeCreate, takeReplace])
@[simp] theorem takeObservation_ageing (o : Observation) (s : State) : (takeObservation o s).state.ageing = s.ageing := by unfold takeObservation; repeat' (first | rfl | split | simp [takeMerge, takeCreate, takeReplace])
@[simp] theorem takeObservation_dock (o : Observation) (s : State) : (takeObservation o s).state.dock = s.dock := by unfold takeObservation; repeat' (first | rfl | split | simp [takeMerge, takeCreate, takeReplace])
@[simp] theorem takeObservation_modes (o : Observation) (s : State) : (takeObservation o s).state.modes = s.modes := by unfold takeObservation; repeat' (first | rfl | split | simp [takeMerge, takeCreate, takeReplace])
@[simp] theorem takeObservation_outputs (o : Observation) (s : State) : (takeObservation o s).state.outputs = s.outputs := by unfold takeObservation; repeat' (first | rfl | split | simp [takeMerge, takeCreate, takeReplace])

end Sys2Proof.Machine
end

