-- ==== Sys2Proof/Laws/Effects.lean ====
section
/-! SUPPORT. The fields that the effect of each command leaves unchanged, whatever the case. -/

set_option linter.unusedTactic false
set_option linter.unreachableTactic false

namespace Sys2Proof.Machine

/-- Notices offered one after another change the link and the latched causes alone. -/
theorem foldl_offer_frame (l : List Notice) (s : State) :
    l.foldl (fun u n => offerNotice n u) s =
      { s with
        link := (l.foldl (fun u n => offerNotice n u) s).link
        latches := (l.foldl (fun u n => offerNotice n u) s).latches } := by
  induction l generalizing s with
  | nil => rfl
  | cons n l ih =>
    simp only [List.foldl_cons]
    rw [ih (offerNotice n s)]
    unfold offerNotice
    split <;> rfl


/-! #### writeItem -/

@[simp] theorem writeItem_pending (n : Nat) (v : Int) (s : State) : (writeItem n v s).pending = s.pending := by unfold writeItem; split <;> rfl
@[simp] theorem writeItem_choices (n : Nat) (v : Int) (s : State) : (writeItem n v s).choices = s.choices := by unfold writeItem; split <;> rfl
@[simp] theorem writeItem_power (n : Nat) (v : Int) (s : State) : (writeItem n v s).power = s.power := by unfold writeItem; split <;> rfl
@[simp] theorem writeItem_lines (n : Nat) (v : Int) (s : State) : (writeItem n v s).lines = s.lines := by unfold writeItem; split <;> rfl
@[simp] theorem writeItem_nv (n : Nat) (v : Int) (s : State) : (writeItem n v s).nv = s.nv := by unfold writeItem; split <;> rfl
@[simp] theorem writeItem_table (n : Nat) (v : Int) (s : State) : (writeItem n v s).table = s.table := by unfold writeItem; split <;> rfl
@[simp] theorem writeItem_zones (n : Nat) (v : Int) (s : State) : (writeItem n v s).zones = s.zones := by unfold writeItem; split <;> rfl
@[simp] theorem writeItem_clearance (n : Nat) (v : Int) (s : State) : (writeItem n v s).clearance = s.clearance := by unfold writeItem; split <;> rfl
@[simp] theorem writeItem_segments (n : Nat) (v : Int) (s : State) : (writeItem n v s).segments = s.segments := by unfold writeItem; split <;> rfl
@[simp] theorem writeItem_drive (n : Nat) (v : Int) (s : State) : (writeItem n v s).drive = s.drive := by unfold writeItem; split <;> rfl
@[simp] theorem writeItem_floor (n : Nat) (v : Int) (s : State) : (writeItem n v s).floor = s.floor := by unfold writeItem; split <;> rfl
@[simp] theorem writeItem_dock (n : Nat) (v : Int) (s : State) : (writeItem n v s).dock = s.dock := by unfold writeItem; split <;> rfl
@[simp] theorem writeItem_modes (n : Nat) (v : Int) (s : State) : (writeItem n v s).modes = s.modes := by unfold writeItem; split <;> rfl
@[simp] theorem writeItem_latches (n : Nat) (v : Int) (s : State) : (writeItem n v s).latches = s.latches := by unfold writeItem; split <;> rfl
@[simp] theorem writeItem_link (n : Nat) (v : Int) (s : State) : (writeItem n v s).link = s.link := by unfold writeItem; split <;> rfl
@[simp] theorem writeItem_outputs (n : Nat) (v : Int) (s : State) : (writeItem n v s).outputs = s.outputs := by unfold writeItem; split <;> rfl

/-! #### refuseMode -/

@[simp] theorem refuseMode_pending (code : Byte) (s : State) : (refuseMode code s).pending = s.pending := by
  unfold refuseMode; try dsimp only
  repeat' (first | rfl | split | simp)
@[simp] theorem refuseMode_choices (code : Byte) (s : State) : (refuseMode code s).choices = s.choices := by
  unfold refuseMode; try dsimp only
  repeat' (first | rfl | split | simp)
@[simp] theorem refuseMode_power (code : Byte) (s : State) : (refuseMode code s).power = s.power := by
  unfold refuseMode; try dsimp only
  repeat' (first | rfl | split | simp)
@[simp] theorem refuseMode_lines (code : Byte) (s : State) : (refuseMode code s).lines = s.lines := by
  unfold refuseMode; try dsimp only
  repeat' (first | rfl | split | simp)
@[simp] theorem refuseMode_nv (code : Byte) (s : State) : (refuseMode code s).nv = s.nv := by
  unfold refuseMode; try dsimp only
  repeat' (first | rfl | split | simp)
@[simp] theorem refuseMode_table (code : Byte) (s : State) : (refuseMode code s).table = s.table := by
  unfold refuseMode; try dsimp only
  repeat' (first | rfl | split | simp)
@[simp] theorem refuseMode_config (code : Byte) (s : State) : (refuseMode code s).config = s.config := by
  unfold refuseMode; try dsimp only
  repeat' (first | rfl | split | simp)
@[simp] theorem refuseMode_pose (code : Byte) (s : State) : (refuseMode code s).pose = s.pose := by
  unfold refuseMode; try dsimp only
  repeat' (first | rfl | split | simp)
@[simp] theorem refuseMode_zones (code : Byte) (s : State) : (refuseMode code s).zones = s.zones := by
  unfold refuseMode; try dsimp only
  repeat' (first | rfl | split | simp)
@[simp] theorem refuseMode_clearance (code : Byte) (s : State) : (refuseMode code s).clearance = s.clearance := by
  unfold refuseMode; try dsimp only
  repeat' (first | rfl | split | simp)
@[simp] theorem refuseMode_segments (code : Byte) (s : State) : (refuseMode code s).segments = s.segments := by
  unfold refuseMode; try dsimp only
  repeat' (first | rfl | split | simp)
@[simp] theorem refuseMode_drive (code : Byte) (s : State) : (refuseMode code s).drive = s.drive := by
  unfold refuseMode; try dsimp only
  repeat' (first | rfl | split | simp)
@[simp] theorem refuseMode_floor (code : Byte) (s : State) : (refuseMode code s).floor = s.floor := by
  unfold refuseMode; try dsimp only
  repeat' (first | rfl | split | simp)
@[simp] theorem refuseMode_ageing (code : Byte) (s : State) : (refuseMode code s).ageing = s.ageing := by
  unfold refuseMode; try dsimp only
  repeat' (first | rfl | split | simp)
@[simp] theorem refuseMode_dock (code : Byte) (s : State) : (refuseMode code s).dock = s.dock := by
  unfold refuseMode; try dsimp only
  repeat' (first | rfl | split | simp)
@[simp] theorem refuseMode_modes (code : Byte) (s : State) : (refuseMode code s).modes = s.modes := by
  unfold refuseMode; try dsimp only
  repeat' (first | rfl | split | simp)
@[simp] theorem refuseMode_latches (code : Byte) (s : State) : (refuseMode code s).latches = s.latches := by
  unfold refuseMode; try dsimp only
  repeat' (first | rfl | split | simp)
@[simp] theorem refuseMode_outputs (code : Byte) (s : State) : (refuseMode code s).outputs = s.outputs := by
  unfold refuseMode; try dsimp only
  repeat' (first | rfl | split | simp)

/-! #### refuseCondition -/

@[simp] theorem refuseCondition_pending (code : Byte) (s : State) : (refuseCondition code s).pending = s.pending := by
  unfold refuseCondition; try dsimp only
  repeat' (first | rfl | split | simp)
@[simp] theorem refuseCondition_choices (code : Byte) (s : State) : (refuseCondition code s).choices = s.choices := by
  unfold refuseCondition; try dsimp only
  repeat' (first | rfl | split | simp)
@[simp] theorem refuseCondition_power (code : Byte) (s : State) : (refuseCondition code s).power = s.power := by
  unfold refuseCondition; try dsimp only
  repeat' (first | rfl | split | simp)
@[simp] theorem refuseCondition_lines (code : Byte) (s : State) : (refuseCondition code s).lines = s.lines := by
  unfold refuseCondition; try dsimp only
  repeat' (first | rfl | split | simp)
@[simp] theorem refuseCondition_nv (code : Byte) (s : State) : (refuseCondition code s).nv = s.nv := by
  unfold refuseCondition; try dsimp only
  repeat' (first | rfl | split | simp)
@[simp] theorem refuseCondition_table (code : Byte) (s : State) : (refuseCondition code s).table = s.table := by
  unfold refuseCondition; try dsimp only
  repeat' (first | rfl | split | simp)
@[simp] theorem refuseCondition_config (code : Byte) (s : State) : (refuseCondition code s).config = s.config := by
  unfold refuseCondition; try dsimp only
  repeat' (first | rfl | split | simp)
@[simp] theorem refuseCondition_pose (code : Byte) (s : State) : (refuseCondition code s).pose = s.pose := by
  unfold refuseCondition; try dsimp only
  repeat' (first | rfl | split | simp)
@[simp] theorem refuseCondition_zones (code : Byte) (s : State) : (refuseCondition code s).zones = s.zones := by
  unfold refuseCondition; try dsimp only
  repeat' (first | rfl | split | simp)
@[simp] theorem refuseCondition_clearance (code : Byte) (s : State) : (refuseCondition code s).clearance = s.clearance := by
  unfold refuseCondition; try dsimp only
  repeat' (first | rfl | split | simp)
@[simp] theorem refuseCondition_segments (code : Byte) (s : State) : (refuseCondition code s).segments = s.segments := by
  unfold refuseCondition; try dsimp only
  repeat' (first | rfl | split | simp)
@[simp] theorem refuseCondition_drive (code : Byte) (s : State) : (refuseCondition code s).drive = s.drive := by
  unfold refuseCondition; try dsimp only
  repeat' (first | rfl | split | simp)
@[simp] theorem refuseCondition_floor (code : Byte) (s : State) : (refuseCondition code s).floor = s.floor := by
  unfold refuseCondition; try dsimp only
  repeat' (first | rfl | split | simp)
@[simp] theorem refuseCondition_ageing (code : Byte) (s : State) : (refuseCondition code s).ageing = s.ageing := by
  unfold refuseCondition; try dsimp only
  repeat' (first | rfl | split | simp)
@[simp] theorem refuseCondition_dock (code : Byte) (s : State) : (refuseCondition code s).dock = s.dock := by
  unfold refuseCondition; try dsimp only
  repeat' (first | rfl | split | simp)
@[simp] theorem refuseCondition_modes (code : Byte) (s : State) : (refuseCondition code s).modes = s.modes := by
  unfold refuseCondition; try dsimp only
  repeat' (first | rfl | split | simp)
@[simp] theorem refuseCondition_latches (code : Byte) (s : State) : (refuseCondition code s).latches = s.latches := by
  unfold refuseCondition; try dsimp only
  repeat' (first | rfl | split | simp)
@[simp] theorem refuseCondition_outputs (code : Byte) (s : State) : (refuseCondition code s).outputs = s.outputs := by
  unfold refuseCondition; try dsimp only
  repeat' (first | rfl | split | simp)

/-! #### answerMode -/

@[simp] theorem answerMode_pending (code : Byte) (s : State) : (answerMode code s).pending = s.pending := by
  unfold answerMode; try dsimp only
  repeat' (first | rfl | split | simp)
@[simp] theorem answerMode_choices (code : Byte) (s : State) : (answerMode code s).choices = s.choices := by
  unfold answerMode; try dsimp only
  repeat' (first | rfl | split | simp)
@[simp] theorem answerMode_power (code : Byte) (s : State) : (answerMode code s).power = s.power := by
  unfold answerMode; try dsimp only
  repeat' (first | rfl | split | simp)
@[simp] theorem answerMode_lines (code : Byte) (s : State) : (answerMode code s).lines = s.lines := by
  unfold answerMode; try dsimp only
  repeat' (first | rfl | split | simp)
@[simp] theorem answerMode_nv (code : Byte) (s : State) : (answerMode code s).nv = s.nv := by
  unfold answerMode; try dsimp only
  repeat' (first | rfl | split | simp)
@[simp] theorem answerMode_table (code : Byte) (s : State) : (answerMode code s).table = s.table := by
  unfold answerMode; try dsimp only
  repeat' (first | rfl | split | simp)
@[simp] theorem answerMode_config (code : Byte) (s : State) : (answerMode code s).config = s.config := by
  unfold answerMode; try dsimp only
  repeat' (first | rfl | split | simp)
@[simp] theorem answerMode_pose (code : Byte) (s : State) : (answerMode code s).pose = s.pose := by
  unfold answerMode; try dsimp only
  repeat' (first | rfl | split | simp)
@[simp] theorem answerMode_zones (code : Byte) (s : State) : (answerMode code s).zones = s.zones := by
  unfold answerMode; try dsimp only
  repeat' (first | rfl | split | simp)
@[simp] theorem answerMode_clearance (code : Byte) (s : State) : (answerMode code s).clearance = s.clearance := by
  unfold answerMode; try dsimp only
  repeat' (first | rfl | split | simp)
@[simp] theorem answerMode_segments (code : Byte) (s : State) : (answerMode code s).segments = s.segments := by
  unfold answerMode; try dsimp only
  repeat' (first | rfl | split | simp)
@[simp] theorem answerMode_drive (code : Byte) (s : State) : (answerMode code s).drive = s.drive := by
  unfold answerMode; try dsimp only
  repeat' (first | rfl | split | simp)
@[simp] theorem answerMode_floor (code : Byte) (s : State) : (answerMode code s).floor = s.floor := by
  unfold answerMode; try dsimp only
  repeat' (first | rfl | split | simp)
@[simp] theorem answerMode_ageing (code : Byte) (s : State) : (answerMode code s).ageing = s.ageing := by
  unfold answerMode; try dsimp only
  repeat' (first | rfl | split | simp)
@[simp] theorem answerMode_dock (code : Byte) (s : State) : (answerMode code s).dock = s.dock := by
  unfold answerMode; try dsimp only
  repeat' (first | rfl | split | simp)
@[simp] theorem answerMode_modes (code : Byte) (s : State) : (answerMode code s).modes = s.modes := by
  unfold answerMode; try dsimp only
  repeat' (first | rfl | split | simp)
@[simp] theorem answerMode_latches (code : Byte) (s : State) : (answerMode code s).latches = s.latches := by
  unfold answerMode; try dsimp only
  repeat' (first | rfl | split | simp)
@[simp] theorem answerMode_outputs (code : Byte) (s : State) : (answerMode code s).outputs = s.outputs := by
  unfold answerMode; try dsimp only
  repeat' (first | rfl | split | simp)

/-! #### enterWaking -/

@[simp] theorem enterWaking_pending (s : State) : (enterWaking s).pending = s.pending := by simp [enterWaking]
@[simp] theorem enterWaking_choices (s : State) : (enterWaking s).choices = s.choices := by simp [enterWaking]
@[simp] theorem enterWaking_power (s : State) : (enterWaking s).power = s.power := by simp [enterWaking]
@[simp] theorem enterWaking_lines (s : State) : (enterWaking s).lines = s.lines := by simp [enterWaking]
@[simp] theorem enterWaking_nv (s : State) : (enterWaking s).nv = s.nv := by simp [enterWaking]
@[simp] theorem enterWaking_table (s : State) : (enterWaking s).table = s.table := by simp [enterWaking]
@[simp] theorem enterWaking_config (s : State) : (enterWaking s).config = s.config := by simp [enterWaking]
@[simp] theorem enterWaking_pose (s : State) : (enterWaking s).pose = s.pose := by simp [enterWaking]
@[simp] theorem enterWaking_zones (s : State) : (enterWaking s).zones = s.zones := by simp [enterWaking]
@[simp] theorem enterWaking_clearance (s : State) : (enterWaking s).clearance = s.clearance := by simp [enterWaking]
@[simp] theorem enterWaking_segments (s : State) : (enterWaking s).segments = s.segments := by simp [enterWaking]
@[simp] theorem enterWaking_ageing (s : State) : (enterWaking s).ageing = s.ageing := by simp [enterWaking]
@[simp] theorem enterWaking_dock (s : State) : (enterWaking s).dock = s.dock := by simp [enterWaking]
@[simp] theorem enterWaking_latches (s : State) : (enterWaking s).latches = s.latches := by simp [enterWaking]
@[simp] theorem enterWaking_link (s : State) : (enterWaking s).link = s.link := by simp [enterWaking]
@[simp] theorem enterWaking_outputs (s : State) : (enterWaking s).outputs = s.outputs := by simp [enterWaking]

/-! #### restartState -/

@[simp] theorem restartState_pending (s : State) : (restartState s).pending = s.pending := by simp [restartState]
@[simp] theorem restartState_choices (s : State) : (restartState s).choices = s.choices := by simp [restartState]
@[simp] theorem restartState_power (s : State) : (restartState s).power = s.power := by simp [restartState]
@[simp] theorem restartState_lines (s : State) : (restartState s).lines = s.lines := by simp [restartState]
@[simp] theorem restartState_nv (s : State) : (restartState s).nv = s.nv := by simp [restartState]
@[simp] theorem restartState_table (s : State) : (restartState s).table = s.table := by simp [restartState]
@[simp] theorem restartState_config (s : State) : (restartState s).config = s.config := by simp [restartState]
@[simp] theorem restartState_pose (s : State) : (restartState s).pose = s.pose := by simp [restartState]
@[simp] theorem restartState_clearance (s : State) : (restartState s).clearance = s.clearance := by simp [restartState]
@[simp] theorem restartState_ageing (s : State) : (restartState s).ageing = s.ageing := by simp [restartState]
@[simp] theorem restartState_outputs (s : State) : (restartState s).outputs = s.outputs := by simp [restartState]

/-! #### acceptSegment -/

@[simp] theorem acceptSegment_pending (g : Segment) (s : State) : (acceptSegment g s).pending = s.pending := by simp [acceptSegment]
@[simp] theorem acceptSegment_choices (g : Segment) (s : State) : (acceptSegment g s).choices = s.choices := by simp [acceptSegment]
@[simp] theorem acceptSegment_power (g : Segment) (s : State) : (acceptSegment g s).power = s.power := by simp [acceptSegment]
@[simp] theorem acceptSegment_lines (g : Segment) (s : State) : (acceptSegment g s).lines = s.lines := by simp [acceptSegment]
@[simp] theorem acceptSegment_nv (g : Segment) (s : State) : (acceptSegment g s).nv = s.nv := by simp [acceptSegment]
@[simp] theorem acceptSegment_table (g : Segment) (s : State) : (acceptSegment g s).table = s.table := by simp [acceptSegment]
@[simp] theorem acceptSegment_config (g : Segment) (s : State) : (acceptSegment g s).config = s.config := by simp [acceptSegment]
@[simp] theorem acceptSegment_pose (g : Segment) (s : State) : (acceptSegment g s).pose = s.pose := by simp [acceptSegment]
@[simp] theorem acceptSegment_ageing (g : Segment) (s : State) : (acceptSegment g s).ageing = s.ageing := by simp [acceptSegment]
@[simp] theorem acceptSegment_outputs (g : Segment) (s : State) : (acceptSegment g s).outputs = s.outputs := by simp [acceptSegment]

/-! #### cancelRunning -/

@[simp] theorem cancelRunning_pending (tag : Byte) (s : State) : (cancelRunning tag s).pending = s.pending := by simp [cancelRunning]
@[simp] theorem cancelRunning_choices (tag : Byte) (s : State) : (cancelRunning tag s).choices = s.choices := by simp [cancelRunning]
@[simp] theorem cancelRunning_power (tag : Byte) (s : State) : (cancelRunning tag s).power = s.power := by simp [cancelRunning]
@[simp] theorem cancelRunning_lines (tag : Byte) (s : State) : (cancelRunning tag s).lines = s.lines := by simp [cancelRunning]
@[simp] theorem cancelRunning_nv (tag : Byte) (s : State) : (cancelRunning tag s).nv = s.nv := by simp [cancelRunning]
@[simp] theorem cancelRunning_table (tag : Byte) (s : State) : (cancelRunning tag s).table = s.table := by simp [cancelRunning]
@[simp] theorem cancelRunning_config (tag : Byte) (s : State) : (cancelRunning tag s).config = s.config := by simp [cancelRunning]
@[simp] theorem cancelRunning_pose (tag : Byte) (s : State) : (cancelRunning tag s).pose = s.pose := by simp [cancelRunning]
@[simp] theorem cancelRunning_ageing (tag : Byte) (s : State) : (cancelRunning tag s).ageing = s.ageing := by simp [cancelRunning]
@[simp] theorem cancelRunning_outputs (tag : Byte) (s : State) : (cancelRunning tag s).outputs = s.outputs := by simp [cancelRunning]

/-! #### statusEffect -/

@[simp] theorem statusEffect_pending (s : State) : (statusEffect s).pending = s.pending := by
  unfold statusEffect; try dsimp only
  repeat' (first | rfl | split | simp)
@[simp] theorem statusEffect_choices (s : State) : (statusEffect s).choices = s.choices := by
  unfold statusEffect; try dsimp only
  repeat' (first | rfl | split | simp)
@[simp] theorem statusEffect_power (s : State) : (statusEffect s).power = s.power := by
  unfold statusEffect; try dsimp only
  repeat' (first | rfl | split | simp)
@[simp] theorem statusEffect_lines (s : State) : (statusEffect s).lines = s.lines := by
  unfold statusEffect; try dsimp only
  repeat' (first | rfl | split | simp)
@[simp] theorem statusEffect_nv (s : State) : (statusEffect s).nv = s.nv := by
  unfold statusEffect; try dsimp only
  repeat' (first | rfl | split | simp)
@[simp] theorem statusEffect_table (s : State) : (statusEffect s).table = s.table := by
  unfold statusEffect; try dsimp only
  repeat' (first | rfl | split | simp)
@[simp] theorem statusEffect_config (s : State) : (statusEffect s).config = s.config := by
  unfold statusEffect; try dsimp only
  repeat' (first | rfl | split | simp)
@[simp] theorem statusEffect_pose (s : State) : (statusEffect s).pose = s.pose := by
  unfold statusEffect; try dsimp only
  repeat' (first | rfl | split | simp)
@[simp] theorem statusEffect_zones (s : State) : (statusEffect s).zones = s.zones := by
  unfold statusEffect; try dsimp only
  repeat' (first | rfl | split | simp)
@[simp] theorem statusEffect_clearance (s : State) : (statusEffect s).clearance = s.clearance := by
  unfold statusEffect; try dsimp only
  repeat' (first | rfl | split | simp)
@[simp] theorem statusEffect_segments (s : State) : (statusEffect s).segments = s.segments := by
  unfold statusEffect; try dsimp only
  repeat' (first | rfl | split | simp)
@[simp] theorem statusEffect_drive (s : State) : (statusEffect s).drive = s.drive := by
  unfold statusEffect; try dsimp only
  repeat' (first | rfl | split | simp)
@[simp] theorem statusEffect_floor (s : State) : (statusEffect s).floor = s.floor := by
  unfold statusEffect; try dsimp only
  repeat' (first | rfl | split | simp)
@[simp] theorem statusEffect_ageing (s : State) : (statusEffect s).ageing = s.ageing := by
  unfold statusEffect; try dsimp only
  repeat' (first | rfl | split | simp)
@[simp] theorem statusEffect_dock (s : State) : (statusEffect s).dock = s.dock := by
  unfold statusEffect; try dsimp only
  repeat' (first | rfl | split | simp)
@[simp] theorem statusEffect_modes (s : State) : (statusEffect s).modes = s.modes := by
  unfold statusEffect; try dsimp only
  repeat' (first | rfl | split | simp)
@[simp] theorem statusEffect_outputs (s : State) : (statusEffect s).outputs = s.outputs := by
  unfold statusEffect; try dsimp only
  repeat' (first | rfl | split | simp)

/-! #### noticeReadEffect -/

@[simp] theorem noticeReadEffect_pending (s : State) : (noticeReadEffect s).pending = s.pending := by
  unfold noticeReadEffect; try dsimp only
  repeat' (first | rfl | split | simp)
@[simp] theorem noticeReadEffect_choices (s : State) : (noticeReadEffect s).choices = s.choices := by
  unfold noticeReadEffect; try dsimp only
  repeat' (first | rfl | split | simp)
@[simp] theorem noticeReadEffect_power (s : State) : (noticeReadEffect s).power = s.power := by
  unfold noticeReadEffect; try dsimp only
  repeat' (first | rfl | split | simp)
@[simp] theorem noticeReadEffect_lines (s : State) : (noticeReadEffect s).lines = s.lines := by
  unfold noticeReadEffect; try dsimp only
  repeat' (first | rfl | split | simp)
@[simp] theorem noticeReadEffect_nv (s : State) : (noticeReadEffect s).nv = s.nv := by
  unfold noticeReadEffect; try dsimp only
  repeat' (first | rfl | split | simp)
@[simp] theorem noticeReadEffect_table (s : State) : (noticeReadEffect s).table = s.table := by
  unfold noticeReadEffect; try dsimp only
  repeat' (first | rfl | split | simp)
@[simp] theorem noticeReadEffect_config (s : State) : (noticeReadEffect s).config = s.config := by
  unfold noticeReadEffect; try dsimp only
  repeat' (first | rfl | split | simp)
@[simp] theorem noticeReadEffect_pose (s : State) : (noticeReadEffect s).pose = s.pose := by
  unfold noticeReadEffect; try dsimp only
  repeat' (first | rfl | split | simp)
@[simp] theorem noticeReadEffect_zones (s : State) : (noticeReadEffect s).zones = s.zones := by
  unfold noticeReadEffect; try dsimp only
  repeat' (first | rfl | split | simp)
@[simp] theorem noticeReadEffect_clearance (s : State) : (noticeReadEffect s).clearance = s.clearance := by
  unfold noticeReadEffect; try dsimp only
  repeat' (first | rfl | split | simp)
@[simp] theorem noticeReadEffect_segments (s : State) : (noticeReadEffect s).segments = s.segments := by
  unfold noticeReadEffect; try dsimp only
  repeat' (first | rfl | split | simp)
@[simp] theorem noticeReadEffect_drive (s : State) : (noticeReadEffect s).drive = s.drive := by
  unfold noticeReadEffect; try dsimp only
  repeat' (first | rfl | split | simp)
@[simp] theorem noticeReadEffect_floor (s : State) : (noticeReadEffect s).floor = s.floor := by
  unfold noticeReadEffect; try dsimp only
  repeat' (first | rfl | split | simp)
@[simp] theorem noticeReadEffect_ageing (s : State) : (noticeReadEffect s).ageing = s.ageing := by
  unfold noticeReadEffect; try dsimp only
  repeat' (first | rfl | split | simp)
@[simp] theorem noticeReadEffect_dock (s : State) : (noticeReadEffect s).dock = s.dock := by
  unfold noticeReadEffect; try dsimp only
  repeat' (first | rfl | split | simp)
@[simp] theorem noticeReadEffect_modes (s : State) : (noticeReadEffect s).modes = s.modes := by
  unfold noticeReadEffect; try dsimp only
  repeat' (first | rfl | split | simp)
@[simp] theorem noticeReadEffect_latches (s : State) : (noticeReadEffect s).latches = s.latches := by
  unfold noticeReadEffect; try dsimp only
  repeat' (first | rfl | split | simp)
@[simp] theorem noticeReadEffect_outputs (s : State) : (noticeReadEffect s).outputs = s.outputs := by
  unfold noticeReadEffect; try dsimp only
  repeat' (first | rfl | split | simp)

/-! #### linkSilenceEffect -/

@[simp] theorem linkSilenceEffect_pending (s : State) : (linkSilenceEffect s).pending = s.pending := by
  unfold linkSilenceEffect; try dsimp only
  repeat' (first | rfl | split | simp)
@[simp] theorem linkSilenceEffect_choices (s : State) : (linkSilenceEffect s).choices = s.choices := by
  unfold linkSilenceEffect; try dsimp only
  repeat' (first | rfl | split | simp)
@[simp] theorem linkSilenceEffect_power (s : State) : (linkSilenceEffect s).power = s.power := by
  unfold linkSilenceEffect; try dsimp only
  repeat' (first | rfl | split | simp)
@[simp] theorem linkSilenceEffect_lines (s : State) : (linkSilenceEffect s).lines = s.lines := by
  unfold linkSilenceEffect; try dsimp only
  repeat' (first | rfl | split | simp)
@[simp] theorem linkSilenceEffect_nv (s : State) : (linkSilenceEffect s).nv = s.nv := by
  unfold linkSilenceEffect; try dsimp only
  repeat' (first | rfl | split | simp)
@[simp] theorem linkSilenceEffect_table (s : State) : (linkSilenceEffect s).table = s.table := by
  unfold linkSilenceEffect; try dsimp only
  repeat' (first | rfl | split | simp)
@[simp] theorem linkSilenceEffect_config (s : State) : (linkSilenceEffect s).config = s.config := by
  unfold linkSilenceEffect; try dsimp only
  repeat' (first | rfl | split | simp)
@[simp] theorem linkSilenceEffect_pose (s : State) : (linkSilenceEffect s).pose = s.pose := by
  unfold linkSilenceEffect; try dsimp only
  repeat' (first | rfl | split | simp)
@[simp] theorem linkSilenceEffect_ageing (s : State) : (linkSilenceEffect s).ageing = s.ageing := by
  unfold linkSilenceEffect; try dsimp only
  repeat' (first | rfl | split | simp)
@[simp] theorem linkSilenceEffect_outputs (s : State) : (linkSilenceEffect s).outputs = s.outputs := by
  unfold linkSilenceEffect; try dsimp only
  repeat' (first | rfl | split | simp)

/-! #### noticeTimerEffect -/

@[simp] theorem noticeTimerEffect_pending (s : State) : (noticeTimerEffect s).pending = s.pending := by
  unfold noticeTimerEffect; try dsimp only
  repeat' (first | rfl | split | simp)
@[simp] theorem noticeTimerEffect_choices (s : State) : (noticeTimerEffect s).choices = s.choices := by
  unfold noticeTimerEffect; try dsimp only
  repeat' (first | rfl | split | simp)
@[simp] theorem noticeTimerEffect_power (s : State) : (noticeTimerEffect s).power = s.power := by
  unfold noticeTimerEffect; try dsimp only
  repeat' (first | rfl | split | simp)
@[simp] theorem noticeTimerEffect_lines (s : State) : (noticeTimerEffect s).lines = s.lines := by
  unfold noticeTimerEffect; try dsimp only
  repeat' (first | rfl | split | simp)
@[simp] theorem noticeTimerEffect_nv (s : State) : (noticeTimerEffect s).nv = s.nv := by
  unfold noticeTimerEffect; try dsimp only
  repeat' (first | rfl | split | simp)
@[simp] theorem noticeTimerEffect_table (s : State) : (noticeTimerEffect s).table = s.table := by
  unfold noticeTimerEffect; try dsimp only
  repeat' (first | rfl | split | simp)
@[simp] theorem noticeTimerEffect_config (s : State) : (noticeTimerEffect s).config = s.config := by
  unfold noticeTimerEffect; try dsimp only
  repeat' (first | rfl | split | simp)
@[simp] theorem noticeTimerEffect_pose (s : State) : (noticeTimerEffect s).pose = s.pose := by
  unfold noticeTimerEffect; try dsimp only
  repeat' (first | rfl | split | simp)
@[simp] theorem noticeTimerEffect_zones (s : State) : (noticeTimerEffect s).zones = s.zones := by
  unfold noticeTimerEffect; try dsimp only
  repeat' (first | rfl | split | simp)
@[simp] theorem noticeTimerEffect_clearance (s : State) : (noticeTimerEffect s).clearance = s.clearance := by
  unfold noticeTimerEffect; try dsimp only
  repeat' (first | rfl | split | simp)
@[simp] theorem noticeTimerEffect_segments (s : State) : (noticeTimerEffect s).segments = s.segments := by
  unfold noticeTimerEffect; try dsimp only
  repeat' (first | rfl | split | simp)
@[simp] theorem noticeTimerEffect_drive (s : State) : (noticeTimerEffect s).drive = s.drive := by
  unfold noticeTimerEffect; try dsimp only
  repeat' (first | rfl | split | simp)
@[simp] theorem noticeTimerEffect_floor (s : State) : (noticeTimerEffect s).floor = s.floor := by
  unfold noticeTimerEffect; try dsimp only
  repeat' (first | rfl | split | simp)
@[simp] theorem noticeTimerEffect_ageing (s : State) : (noticeTimerEffect s).ageing = s.ageing := by
  unfold noticeTimerEffect; try dsimp only
  repeat' (first | rfl | split | simp)
@[simp] theorem noticeTimerEffect_dock (s : State) : (noticeTimerEffect s).dock = s.dock := by
  unfold noticeTimerEffect; try dsimp only
  repeat' (first | rfl | split | simp)
@[simp] theorem noticeTimerEffect_modes (s : State) : (noticeTimerEffect s).modes = s.modes := by
  unfold noticeTimerEffect; try dsimp only
  repeat' (first | rfl | split | simp)
@[simp] theorem noticeTimerEffect_latches (s : State) : (noticeTimerEffect s).latches = s.latches := by
  unfold noticeTimerEffect; try dsimp only
  repeat' (first | rfl | split | simp)
@[simp] theorem noticeTimerEffect_outputs (s : State) : (noticeTimerEffect s).outputs = s.outputs := by
  unfold noticeTimerEffect; try dsimp only
  repeat' (first | rfl | split | simp)

/-! #### configSetEffect -/

@[simp] theorem configSetEffect_pending (it : Byte) (value : Half) (s : State) : (configSetEffect it value s).pending = s.pending := by
  unfold configSetEffect; try dsimp only
  repeat' (first | rfl | split | simp)
@[simp] theorem configSetEffect_choices (it : Byte) (value : Half) (s : State) : (configSetEffect it value s).choices = s.choices := by
  unfold configSetEffect; try dsimp only
  repeat' (first | rfl | split | simp)
@[simp] theorem configSetEffect_power (it : Byte) (value : Half) (s : State) : (configSetEffect it value s).power = s.power := by
  unfold configSetEffect; try dsimp only
  repeat' (first | rfl | split | simp)
@[simp] theorem configSetEffect_lines (it : Byte) (value : Half) (s : State) : (configSetEffect it value s).lines = s.lines := by
  unfold configSetEffect; try dsimp only
  repeat' (first | rfl | split | simp)
@[simp] theorem configSetEffect_nv (it : Byte) (value : Half) (s : State) : (configSetEffect it value s).nv = s.nv := by
  unfold configSetEffect; try dsimp only
  repeat' (first | rfl | split | simp)
@[simp] theorem configSetEffect_table (it : Byte) (value : Half) (s : State) : (configSetEffect it value s).table = s.table := by
  unfold configSetEffect; try dsimp only
  repeat' (first | rfl | split | simp)
@[simp] theorem configSetEffect_zones (it : Byte) (value : Half) (s : State) : (configSetEffect it value s).zones = s.zones := by
  unfold configSetEffect; try dsimp only
  repeat' (first | rfl | split | simp)
@[simp] theorem configSetEffect_clearance (it : Byte) (value : Half) (s : State) : (configSetEffect it value s).clearance = s.clearance := by
  unfold configSetEffect; try dsimp only
  repeat' (first | rfl | split | simp)
@[simp] theorem configSetEffect_segments (it : Byte) (value : Half) (s : State) : (configSetEffect it value s).segments = s.segments := by
  unfold configSetEffect; try dsimp only
  repeat' (first | rfl | split | simp)
@[simp] theorem configSetEffect_drive (it : Byte) (value : Half) (s : State) : (configSetEffect it value s).drive = s.drive := by
  unfold configSetEffect; try dsimp only
  repeat' (first | rfl | split | simp)
@[simp] theorem configSetEffect_floor (it : Byte) (value : Half) (s : State) : (configSetEffect it value s).floor = s.floor := by
  unfold configSetEffect; try dsimp only
  repeat' (first | rfl | split | simp)
@[simp] theorem configSetEffect_dock (it : Byte) (value : Half) (s : State) : (configSetEffect it value s).dock = s.dock := by
  unfold configSetEffect; try dsimp only
  repeat' (first | rfl | split | simp)
@[simp] theorem configSetEffect_modes (it : Byte) (value : Half) (s : State) : (configSetEffect it value s).modes = s.modes := by
  unfold configSetEffect; try dsimp only
  repeat' (first | rfl | split | simp)
@[simp] theorem configSetEffect_latches (it : Byte) (value : Half) (s : State) : (configSetEffect it value s).latches = s.latches := by
  unfold configSetEffect; try dsimp only
  repeat' (first | rfl | split | simp)
@[simp] theorem configSetEffect_outputs (it : Byte) (value : Half) (s : State) : (configSetEffect it value s).outputs = s.outputs := by
  unfold configSetEffect; try dsimp only
  repeat' (first | rfl | split | simp)

/-! #### configGetEffect -/

@[simp] theorem configGetEffect_pending (it : Byte) (s : State) : (configGetEffect it s).pending = s.pending := by
  unfold configGetEffect; try dsimp only
  repeat' (first | rfl | split | simp)
@[simp] theorem configGetEffect_choices (it : Byte) (s : State) : (configGetEffect it s).choices = s.choices := by
  unfold configGetEffect; try dsimp only
  repeat' (first | rfl | split | simp)
@[simp] theorem configGetEffect_power (it : Byte) (s : State) : (configGetEffect it s).power = s.power := by
  unfold configGetEffect; try dsimp only
  repeat' (first | rfl | split | simp)
@[simp] theorem configGetEffect_lines (it : Byte) (s : State) : (configGetEffect it s).lines = s.lines := by
  unfold configGetEffect; try dsimp only
  repeat' (first | rfl | split | simp)
@[simp] theorem configGetEffect_nv (it : Byte) (s : State) : (configGetEffect it s).nv = s.nv := by
  unfold configGetEffect; try dsimp only
  repeat' (first | rfl | split | simp)
@[simp] theorem configGetEffect_table (it : Byte) (s : State) : (configGetEffect it s).table = s.table := by
  unfold configGetEffect; try dsimp only
  repeat' (first | rfl | split | simp)
@[simp] theorem configGetEffect_config (it : Byte) (s : State) : (configGetEffect it s).config = s.config := by
  unfold configGetEffect; try dsimp only
  repeat' (first | rfl | split | simp)
@[simp] theorem configGetEffect_pose (it : Byte) (s : State) : (configGetEffect it s).pose = s.pose := by
  unfold configGetEffect; try dsimp only
  repeat' (first | rfl | split | simp)
@[simp] theorem configGetEffect_zones (it : Byte) (s : State) : (configGetEffect it s).zones = s.zones := by
  unfold configGetEffect; try dsimp only
  repeat' (first | rfl | split | simp)
@[simp] theorem configGetEffect_clearance (it : Byte) (s : State) : (configGetEffect it s).clearance = s.clearance := by
  unfold configGetEffect; try dsimp only
  repeat' (first | rfl | split | simp)
@[simp] theorem configGetEffect_segments (it : Byte) (s : State) : (configGetEffect it s).segments = s.segments := by
  unfold configGetEffect; try dsimp only
  repeat' (first | rfl | split | simp)
@[simp] theorem configGetEffect_drive (it : Byte) (s : State) : (configGetEffect it s).drive = s.drive := by
  unfold configGetEffect; try dsimp only
  repeat' (first | rfl | split | simp)
@[simp] theorem configGetEffect_floor (it : Byte) (s : State) : (configGetEffect it s).floor = s.floor := by
  unfold configGetEffect; try dsimp only
  repeat' (first | rfl | split | simp)
@[simp] theorem configGetEffect_ageing (it : Byte) (s : State) : (configGetEffect it s).ageing = s.ageing := by
  unfold configGetEffect; try dsimp only
  repeat' (first | rfl | split | simp)
@[simp] theorem configGetEffect_dock (it : Byte) (s : State) : (configGetEffect it s).dock = s.dock := by
  unfold configGetEffect; try dsimp only
  repeat' (first | rfl | split | simp)
@[simp] theorem configGetEffect_modes (it : Byte) (s : State) : (configGetEffect it s).modes = s.modes := by
  unfold configGetEffect; try dsimp only
  repeat' (first | rfl | split | simp)
@[simp] theorem configGetEffect_latches (it : Byte) (s : State) : (configGetEffect it s).latches = s.latches := by
  unfold configGetEffect; try dsimp only
  repeat' (first | rfl | split | simp)
@[simp] theorem configGetEffect_outputs (it : Byte) (s : State) : (configGetEffect it s).outputs = s.outputs := by
  unfold configGetEffect; try dsimp only
  repeat' (first | rfl | split | simp)

/-! #### modeActiveEffect -/

@[simp] theorem modeActiveEffect_pending (s : State) : (modeActiveEffect s).pending = s.pending := by
  unfold modeActiveEffect; try dsimp only
  repeat' (first | rfl | split | simp)
@[simp] theorem modeActiveEffect_choices (s : State) : (modeActiveEffect s).choices = s.choices := by
  unfold modeActiveEffect; try dsimp only
  repeat' (first | rfl | split | simp)
@[simp] theorem modeActiveEffect_power (s : State) : (modeActiveEffect s).power = s.power := by
  unfold modeActiveEffect; try dsimp only
  repeat' (first | rfl | split | simp)
@[simp] theorem modeActiveEffect_lines (s : State) : (modeActiveEffect s).lines = s.lines := by
  unfold modeActiveEffect; try dsimp only
  repeat' (first | rfl | split | simp)
@[simp] theorem modeActiveEffect_nv (s : State) : (modeActiveEffect s).nv = s.nv := by
  unfold modeActiveEffect; try dsimp only
  repeat' (first | rfl | split | simp)
@[simp] theorem modeActiveEffect_table (s : State) : (modeActiveEffect s).table = s.table := by
  unfold modeActiveEffect; try dsimp only
  repeat' (first | rfl | split | simp)
@[simp] theorem modeActiveEffect_config (s : State) : (modeActiveEffect s).config = s.config := by
  unfold modeActiveEffect; try dsimp only
  repeat' (first | rfl | split | simp)
@[simp] theorem modeActiveEffect_pose (s : State) : (modeActiveEffect s).pose = s.pose := by
  unfold modeActiveEffect; try dsimp only
  repeat' (first | rfl | split | simp)
@[simp] theorem modeActiveEffect_ageing (s : State) : (modeActiveEffect s).ageing = s.ageing := by
  unfold modeActiveEffect; try dsimp only
  repeat' (first | rfl | split | simp)
@[simp] theorem modeActiveEffect_outputs (s : State) : (modeActiveEffect s).outputs = s.outputs := by
  unfold modeActiveEffect; try dsimp only
  repeat' (first | rfl | split | simp)

/-! #### modeConfigEffect -/

@[simp] theorem modeConfigEffect_pending (s : State) : (modeConfigEffect s).pending = s.pending := by
  unfold modeConfigEffect; try dsimp only
  repeat' (first | rfl | split | simp)
@[simp] theorem modeConfigEffect_choices (s : State) : (modeConfigEffect s).choices = s.choices := by
  unfold modeConfigEffect; try dsimp only
  repeat' (first | rfl | split | simp)
@[simp] theorem modeConfigEffect_power (s : State) : (modeConfigEffect s).power = s.power := by
  unfold modeConfigEffect; try dsimp only
  repeat' (first | rfl | split | simp)
@[simp] theorem modeConfigEffect_lines (s : State) : (modeConfigEffect s).lines = s.lines := by
  unfold modeConfigEffect; try dsimp only
  repeat' (first | rfl | split | simp)
@[simp] theorem modeConfigEffect_nv (s : State) : (modeConfigEffect s).nv = s.nv := by
  unfold modeConfigEffect; try dsimp only
  repeat' (first | rfl | split | simp)
@[simp] theorem modeConfigEffect_table (s : State) : (modeConfigEffect s).table = s.table := by
  unfold modeConfigEffect; try dsimp only
  repeat' (first | rfl | split | simp)
@[simp] theorem modeConfigEffect_config (s : State) : (modeConfigEffect s).config = s.config := by
  unfold modeConfigEffect; try dsimp only
  repeat' (first | rfl | split | simp)
@[simp] theorem modeConfigEffect_pose (s : State) : (modeConfigEffect s).pose = s.pose := by
  unfold modeConfigEffect; try dsimp only
  repeat' (first | rfl | split | simp)
@[simp] theorem modeConfigEffect_zones (s : State) : (modeConfigEffect s).zones = s.zones := by
  unfold modeConfigEffect; try dsimp only
  repeat' (first | rfl | split | simp)
@[simp] theorem modeConfigEffect_clearance (s : State) : (modeConfigEffect s).clearance = s.clearance := by
  unfold modeConfigEffect; try dsimp only
  repeat' (first | rfl | split | simp)
@[simp] theorem modeConfigEffect_ageing (s : State) : (modeConfigEffect s).ageing = s.ageing := by
  unfold modeConfigEffect; try dsimp only
  repeat' (first | rfl | split | simp)
@[simp] theorem modeConfigEffect_latches (s : State) : (modeConfigEffect s).latches = s.latches := by
  unfold modeConfigEffect; try dsimp only
  repeat' (first | rfl | split | simp)
@[simp] theorem modeConfigEffect_outputs (s : State) : (modeConfigEffect s).outputs = s.outputs := by
  unfold modeConfigEffect; try dsimp only
  repeat' (first | rfl | split | simp)

/-! #### parkEffect -/

@[simp] theorem parkEffect_pending (s : State) : (parkEffect s).pending = s.pending := by
  unfold parkEffect; try dsimp only
  repeat' (first | rfl | split | simp)
@[simp] theorem parkEffect_choices (s : State) : (parkEffect s).choices = s.choices := by
  unfold parkEffect; try dsimp only
  repeat' (first | rfl | split | simp)
@[simp] theorem parkEffect_power (s : State) : (parkEffect s).power = s.power := by
  unfold parkEffect; try dsimp only
  repeat' (first | rfl | split | simp)
@[simp] theorem parkEffect_lines (s : State) : (parkEffect s).lines = s.lines := by
  unfold parkEffect; try dsimp only
  repeat' (first | rfl | split | simp)
@[simp] theorem parkEffect_nv (s : State) : (parkEffect s).nv = s.nv := by
  unfold parkEffect; try dsimp only
  repeat' (first | rfl | split | simp)
@[simp] theorem parkEffect_table (s : State) : (parkEffect s).table = s.table := by
  unfold parkEffect; try dsimp only
  repeat' (first | rfl | split | simp)
@[simp] theorem parkEffect_config (s : State) : (parkEffect s).config = s.config := by
  unfold parkEffect; try dsimp only
  repeat' (first | rfl | split | simp)
@[simp] theorem parkEffect_pose (s : State) : (parkEffect s).pose = s.pose := by
  unfold parkEffect; try dsimp only
  repeat' (first | rfl | split | simp)
@[simp] theorem parkEffect_ageing (s : State) : (parkEffect s).ageing = s.ageing := by
  unfold parkEffect; try dsimp only
  repeat' (first | rfl | split | simp)
@[simp] theorem parkEffect_outputs (s : State) : (parkEffect s).outputs = s.outputs := by
  unfold parkEffect; try dsimp only
  repeat' (first | rfl | split | simp)

/-! #### wakeEffect -/

@[simp] theorem wakeEffect_pending (s : State) : (wakeEffect s).pending = s.pending := by
  unfold wakeEffect; try dsimp only
  repeat' (first | rfl | split | simp)
@[simp] theorem wakeEffect_choices (s : State) : (wakeEffect s).choices = s.choices := by
  unfold wakeEffect; try dsimp only
  repeat' (first | rfl | split | simp)
@[simp] theorem wakeEffect_power (s : State) : (wakeEffect s).power = s.power := by
  unfold wakeEffect; try dsimp only
  repeat' (first | rfl | split | simp)
@[simp] theorem wakeEffect_lines (s : State) : (wakeEffect s).lines = s.lines := by
  unfold wakeEffect; try dsimp only
  repeat' (first | rfl | split | simp)
@[simp] theorem wakeEffect_nv (s : State) : (wakeEffect s).nv = s.nv := by
  unfold wakeEffect; try dsimp only
  repeat' (first | rfl | split | simp)
@[simp] theorem wakeEffect_table (s : State) : (wakeEffect s).table = s.table := by
  unfold wakeEffect; try dsimp only
  repeat' (first | rfl | split | simp)
@[simp] theorem wakeEffect_config (s : State) : (wakeEffect s).config = s.config := by
  unfold wakeEffect; try dsimp only
  repeat' (first | rfl | split | simp)
@[simp] theorem wakeEffect_pose (s : State) : (wakeEffect s).pose = s.pose := by
  unfold wakeEffect; try dsimp only
  repeat' (first | rfl | split | simp)
@[simp] theorem wakeEffect_zones (s : State) : (wakeEffect s).zones = s.zones := by
  unfold wakeEffect; try dsimp only
  repeat' (first | rfl | split | simp)
@[simp] theorem wakeEffect_clearance (s : State) : (wakeEffect s).clearance = s.clearance := by
  unfold wakeEffect; try dsimp only
  repeat' (first | rfl | split | simp)
@[simp] theorem wakeEffect_segments (s : State) : (wakeEffect s).segments = s.segments := by
  unfold wakeEffect; try dsimp only
  repeat' (first | rfl | split | simp)
@[simp] theorem wakeEffect_ageing (s : State) : (wakeEffect s).ageing = s.ageing := by
  unfold wakeEffect; try dsimp only
  repeat' (first | rfl | split | simp)
@[simp] theorem wakeEffect_dock (s : State) : (wakeEffect s).dock = s.dock := by
  unfold wakeEffect; try dsimp only
  repeat' (first | rfl | split | simp)
@[simp] theorem wakeEffect_latches (s : State) : (wakeEffect s).latches = s.latches := by
  unfold wakeEffect; try dsimp only
  repeat' (first | rfl | split | simp)
@[simp] theorem wakeEffect_outputs (s : State) : (wakeEffect s).outputs = s.outputs := by
  unfold wakeEffect; try dsimp only
  repeat' (first | rfl | split | simp)

/-! #### resumeEffect -/

@[simp] theorem resumeEffect_pending (s : State) : (resumeEffect s).pending = s.pending := by
  unfold resumeEffect; try dsimp only
  repeat' (first | rfl | split | simp)
@[simp] theorem resumeEffect_choices (s : State) : (resumeEffect s).choices = s.choices := by
  unfold resumeEffect; try dsimp only
  repeat' (first | rfl | split | simp)
@[simp] theorem resumeEffect_power (s : State) : (resumeEffect s).power = s.power := by
  unfold resumeEffect; try dsimp only
  repeat' (first | rfl | split | simp)
@[simp] theorem resumeEffect_lines (s : State) : (resumeEffect s).lines = s.lines := by
  unfold resumeEffect; try dsimp only
  repeat' (first | rfl | split | simp)
@[simp] theorem resumeEffect_nv (s : State) : (resumeEffect s).nv = s.nv := by
  unfold resumeEffect; try dsimp only
  repeat' (first | rfl | split | simp)
@[simp] theorem resumeEffect_table (s : State) : (resumeEffect s).table = s.table := by
  unfold resumeEffect; try dsimp only
  repeat' (first | rfl | split | simp)
@[simp] theorem resumeEffect_config (s : State) : (resumeEffect s).config = s.config := by
  unfold resumeEffect; try dsimp only
  repeat' (first | rfl | split | simp)
@[simp] theorem resumeEffect_pose (s : State) : (resumeEffect s).pose = s.pose := by
  unfold resumeEffect; try dsimp only
  repeat' (first | rfl | split | simp)
@[simp] theorem resumeEffect_ageing (s : State) : (resumeEffect s).ageing = s.ageing := by
  unfold resumeEffect; try dsimp only
  repeat' (first | rfl | split | simp)
@[simp] theorem resumeEffect_outputs (s : State) : (resumeEffect s).outputs = s.outputs := by
  unfold resumeEffect; try dsimp only
  repeat' (first | rfl | split | simp)

/-! #### wakeTimerEffect -/

@[simp] theorem wakeTimerEffect_pending (s : State) : (wakeTimerEffect s).pending = s.pending := by
  unfold wakeTimerEffect; try dsimp only
  repeat' (first | rfl | split | simp)
@[simp] theorem wakeTimerEffect_choices (s : State) : (wakeTimerEffect s).choices = s.choices := by
  unfold wakeTimerEffect; try dsimp only
  repeat' (first | rfl | split | simp)
@[simp] theorem wakeTimerEffect_power (s : State) : (wakeTimerEffect s).power = s.power := by
  unfold wakeTimerEffect; try dsimp only
  repeat' (first | rfl | split | simp)
@[simp] theorem wakeTimerEffect_lines (s : State) : (wakeTimerEffect s).lines = s.lines := by
  unfold wakeTimerEffect; try dsimp only
  repeat' (first | rfl | split | simp)
@[simp] theorem wakeTimerEffect_nv (s : State) : (wakeTimerEffect s).nv = s.nv := by
  unfold wakeTimerEffect; try dsimp only
  repeat' (first | rfl | split | simp)
@[simp] theorem wakeTimerEffect_table (s : State) : (wakeTimerEffect s).table = s.table := by
  unfold wakeTimerEffect; try dsimp only
  repeat' (first | rfl | split | simp)
@[simp] theorem wakeTimerEffect_config (s : State) : (wakeTimerEffect s).config = s.config := by
  unfold wakeTimerEffect; try dsimp only
  repeat' (first | rfl | split | simp)
@[simp] theorem wakeTimerEffect_pose (s : State) : (wakeTimerEffect s).pose = s.pose := by
  unfold wakeTimerEffect; try dsimp only
  repeat' (first | rfl | split | simp)
@[simp] theorem wakeTimerEffect_ageing (s : State) : (wakeTimerEffect s).ageing = s.ageing := by
  unfold wakeTimerEffect; try dsimp only
  repeat' (first | rfl | split | simp)
@[simp] theorem wakeTimerEffect_link (s : State) : (wakeTimerEffect s).link = s.link := by
  unfold wakeTimerEffect; try dsimp only
  repeat' (first | rfl | split | simp)
@[simp] theorem wakeTimerEffect_outputs (s : State) : (wakeTimerEffect s).outputs = s.outputs := by
  unfold wakeTimerEffect; try dsimp only
  repeat' (first | rfl | split | simp)

/-! #### restartEffect -/

@[simp] theorem restartEffect_pending (s : State) : (restartEffect s).pending = s.pending := by
  unfold restartEffect; try dsimp only
  repeat' (first | rfl | split | simp)
@[simp] theorem restartEffect_choices (s : State) : (restartEffect s).choices = s.choices := by
  unfold restartEffect; try dsimp only
  repeat' (first | rfl | split | simp)
@[simp] theorem restartEffect_power (s : State) : (restartEffect s).power = s.power := by
  unfold restartEffect; try dsimp only
  repeat' (first | rfl | split | simp)
@[simp] theorem restartEffect_lines (s : State) : (restartEffect s).lines = s.lines := by
  unfold restartEffect; try dsimp only
  repeat' (first | rfl | split | simp)
@[simp] theorem restartEffect_nv (s : State) : (restartEffect s).nv = s.nv := by
  unfold restartEffect; try dsimp only
  repeat' (first | rfl | split | simp)
@[simp] theorem restartEffect_table (s : State) : (restartEffect s).table = s.table := by
  unfold restartEffect; try dsimp only
  repeat' (first | rfl | split | simp)
@[simp] theorem restartEffect_config (s : State) : (restartEffect s).config = s.config := by
  unfold restartEffect; try dsimp only
  repeat' (first | rfl | split | simp)
@[simp] theorem restartEffect_pose (s : State) : (restartEffect s).pose = s.pose := by
  unfold restartEffect; try dsimp only
  repeat' (first | rfl | split | simp)
@[simp] theorem restartEffect_clearance (s : State) : (restartEffect s).clearance = s.clearance := by
  unfold restartEffect; try dsimp only
  repeat' (first | rfl | split | simp)
@[simp] theorem restartEffect_ageing (s : State) : (restartEffect s).ageing = s.ageing := by
  unfold restartEffect; try dsimp only
  repeat' (first | rfl | split | simp)
@[simp] theorem restartEffect_outputs (s : State) : (restartEffect s).outputs = s.outputs := by
  unfold restartEffect; try dsimp only
  repeat' (first | rfl | split | simp)

/-! #### storeEffect -/

@[simp] theorem storeEffect_pending (s : State) : (storeEffect s).pending = s.pending := by
  unfold storeEffect; try dsimp only
  repeat' (first | rfl | split | simp)
@[simp] theorem storeEffect_choices (s : State) : (storeEffect s).choices = s.choices := by
  unfold storeEffect; try dsimp only
  repeat' (first | rfl | split | simp)
@[simp] theorem storeEffect_power (s : State) : (storeEffect s).power = s.power := by
  unfold storeEffect; try dsimp only
  repeat' (first | rfl | split | simp)
@[simp] theorem storeEffect_lines (s : State) : (storeEffect s).lines = s.lines := by
  unfold storeEffect; try dsimp only
  repeat' (first | rfl | split | simp)
@[simp] theorem storeEffect_nv (s : State) : (storeEffect s).nv = s.nv := by
  unfold storeEffect; try dsimp only
  repeat' (first | rfl | split | simp)
@[simp] theorem storeEffect_table (s : State) : (storeEffect s).table = s.table := by
  unfold storeEffect; try dsimp only
  repeat' (first | rfl | split | simp)
@[simp] theorem storeEffect_config (s : State) : (storeEffect s).config = s.config := by
  unfold storeEffect; try dsimp only
  repeat' (first | rfl | split | simp)
@[simp] theorem storeEffect_pose (s : State) : (storeEffect s).pose = s.pose := by
  unfold storeEffect; try dsimp only
  repeat' (first | rfl | split | simp)
@[simp] theorem storeEffect_zones (s : State) : (storeEffect s).zones = s.zones := by
  unfold storeEffect; try dsimp only
  repeat' (first | rfl | split | simp)
@[simp] theorem storeEffect_clearance (s : State) : (storeEffect s).clearance = s.clearance := by
  unfold storeEffect; try dsimp only
  repeat' (first | rfl | split | simp)
@[simp] theorem storeEffect_segments (s : State) : (storeEffect s).segments = s.segments := by
  unfold storeEffect; try dsimp only
  repeat' (first | rfl | split | simp)
@[simp] theorem storeEffect_drive (s : State) : (storeEffect s).drive = s.drive := by
  unfold storeEffect; try dsimp only
  repeat' (first | rfl | split | simp)
@[simp] theorem storeEffect_floor (s : State) : (storeEffect s).floor = s.floor := by
  unfold storeEffect; try dsimp only
  repeat' (first | rfl | split | simp)
@[simp] theorem storeEffect_ageing (s : State) : (storeEffect s).ageing = s.ageing := by
  unfold storeEffect; try dsimp only
  repeat' (first | rfl | split | simp)
@[simp] theorem storeEffect_dock (s : State) : (storeEffect s).dock = s.dock := by
  unfold storeEffect; try dsimp only
  repeat' (first | rfl | split | simp)
@[simp] theorem storeEffect_latches (s : State) : (storeEffect s).latches = s.latches := by
  unfold storeEffect; try dsimp only
  repeat' (first | rfl | split | simp)
@[simp] theorem storeEffect_outputs (s : State) : (storeEffect s).outputs = s.outputs := by
  unfold storeEffect; try dsimp only
  repeat' (first | rfl | split | simp)

/-! #### storeEndEffect -/

@[simp] theorem storeEndEffect_pending (readBack : Option (List Byte)) (s : State) : (storeEndEffect readBack s).pending = s.pending := by
  unfold storeEndEffect; try dsimp only
  repeat' (first | rfl | split | simp)
@[simp] theorem storeEndEffect_choices (readBack : Option (List Byte)) (s : State) : (storeEndEffect readBack s).choices = s.choices := by
  unfold storeEndEffect; try dsimp only
  repeat' (first | rfl | split | simp)
@[simp] theorem storeEndEffect_power (readBack : Option (List Byte)) (s : State) : (storeEndEffect readBack s).power = s.power := by
  unfold storeEndEffect; try dsimp only
  repeat' (first | rfl | split | simp)
@[simp] theorem storeEndEffect_lines (readBack : Option (List Byte)) (s : State) : (storeEndEffect readBack s).lines = s.lines := by
  unfold storeEndEffect; try dsimp only
  repeat' (first | rfl | split | simp)
@[simp] theorem storeEndEffect_table (readBack : Option (List Byte)) (s : State) : (storeEndEffect readBack s).table = s.table := by
  unfold storeEndEffect; try dsimp only
  repeat' (first | rfl | split | simp)
@[simp] theorem storeEndEffect_config (readBack : Option (List Byte)) (s : State) : (storeEndEffect readBack s).config = s.config := by
  unfold storeEndEffect; try dsimp only
  repeat' (first | rfl | split | simp)
@[simp] theorem storeEndEffect_pose (readBack : Option (List Byte)) (s : State) : (storeEndEffect readBack s).pose = s.pose := by
  unfold storeEndEffect; try dsimp only
  repeat' (first | rfl | split | simp)
@[simp] theorem storeEndEffect_zones (readBack : Option (List Byte)) (s : State) : (storeEndEffect readBack s).zones = s.zones := by
  unfold storeEndEffect; try dsimp only
  repeat' (first | rfl | split | simp)
@[simp] theorem storeEndEffect_clearance (readBack : Option (List Byte)) (s : State) : (storeEndEffect readBack s).clearance = s.clearance := by
  unfold storeEndEffect; try dsimp only
  repeat' (first | rfl | split | simp)
@[simp] theorem storeEndEffect_segments (readBack : Option (List Byte)) (s : State) : (storeEndEffect readBack s).segments = s.segments := by
  unfold storeEndEffect; try dsimp only
  repeat' (first | rfl | split | simp)
@[simp] theorem storeEndEffect_drive (readBack : Option (List Byte)) (s : State) : (storeEndEffect readBack s).drive = s.drive := by
  unfold storeEndEffect; try dsimp only
  repeat' (first | rfl | split | simp)
@[simp] theorem storeEndEffect_floor (readBack : Option (List Byte)) (s : State) : (storeEndEffect readBack s).floor = s.floor := by
  unfold storeEndEffect; try dsimp only
  repeat' (first | rfl | split | simp)
@[simp] theorem storeEndEffect_ageing (readBack : Option (List Byte)) (s : State) : (storeEndEffect readBack s).ageing = s.ageing := by
  unfold storeEndEffect; try dsimp only
  repeat' (first | rfl | split | simp)
@[simp] theorem storeEndEffect_dock (readBack : Option (List Byte)) (s : State) : (storeEndEffect readBack s).dock = s.dock := by
  unfold storeEndEffect; try dsimp only
  repeat' (first | rfl | split | simp)
@[simp] theorem storeEndEffect_link (readBack : Option (List Byte)) (s : State) : (storeEndEffect readBack s).link = s.link := by
  unfold storeEndEffect; try dsimp only
  repeat' (first | rfl | split | simp)
@[simp] theorem storeEndEffect_outputs (readBack : Option (List Byte)) (s : State) : (storeEndEffect readBack s).outputs = s.outputs := by
  unfold storeEndEffect; try dsimp only
  repeat' (first | rfl | split | simp)

/-! #### putAt -/

@[simp] theorem putAt_pending (k : Nat) (h : Hazard) (pinned : Bool) (s : State) : (putAt k h pinned s).pending = s.pending := by
  unfold putAt; try dsimp only
  repeat' (first | rfl | split | simp)
@[simp] theorem putAt_choices (k : Nat) (h : Hazard) (pinned : Bool) (s : State) : (putAt k h pinned s).choices = s.choices := by
  unfold putAt; try dsimp only
  repeat' (first | rfl | split | simp)
@[simp] theorem putAt_power (k : Nat) (h : Hazard) (pinned : Bool) (s : State) : (putAt k h pinned s).power = s.power := by
  unfold putAt; try dsimp only
  repeat' (first | rfl | split | simp)
@[simp] theorem putAt_lines (k : Nat) (h : Hazard) (pinned : Bool) (s : State) : (putAt k h pinned s).lines = s.lines := by
  unfold putAt; try dsimp only
  repeat' (first | rfl | split | simp)
@[simp] theorem putAt_nv (k : Nat) (h : Hazard) (pinned : Bool) (s : State) : (putAt k h pinned s).nv = s.nv := by
  unfold putAt; try dsimp only
  repeat' (first | rfl | split | simp)
@[simp] theorem putAt_config (k : Nat) (h : Hazard) (pinned : Bool) (s : State) : (putAt k h pinned s).config = s.config := by
  unfold putAt; try dsimp only
  repeat' (first | rfl | split | simp)
@[simp] theorem putAt_pose (k : Nat) (h : Hazard) (pinned : Bool) (s : State) : (putAt k h pinned s).pose = s.pose := by
  unfold putAt; try dsimp only
  repeat' (first | rfl | split | simp)
@[simp] theorem putAt_ageing (k : Nat) (h : Hazard) (pinned : Bool) (s : State) : (putAt k h pinned s).ageing = s.ageing := by
  unfold putAt; try dsimp only
  repeat' (first | rfl | split | simp)
@[simp] theorem putAt_outputs (k : Nat) (h : Hazard) (pinned : Bool) (s : State) : (putAt k h pinned s).outputs = s.outputs := by
  unfold putAt; try dsimp only
  repeat' (first | rfl | split | simp)

/-! #### recordPutEffect -/

@[simp] theorem recordPutEffect_pending (slot generation kind flags order : Byte) (g8 g10 g12 g14 limit : Half) (s : State) : (recordPutEffect slot generation kind flags order g8 g10 g12 g14 limit s).pending = s.pending := by
  unfold recordPutEffect; try dsimp only
  repeat' (first | rfl | split | simp)
@[simp] theorem recordPutEffect_choices (slot generation kind flags order : Byte) (g8 g10 g12 g14 limit : Half) (s : State) : (recordPutEffect slot generation kind flags order g8 g10 g12 g14 limit s).choices = s.choices := by
  unfold recordPutEffect; try dsimp only
  repeat' (first | rfl | split | simp)
@[simp] theorem recordPutEffect_power (slot generation kind flags order : Byte) (g8 g10 g12 g14 limit : Half) (s : State) : (recordPutEffect slot generation kind flags order g8 g10 g12 g14 limit s).power = s.power := by
  unfold recordPutEffect; try dsimp only
  repeat' (first | rfl | split | simp)
@[simp] theorem recordPutEffect_lines (slot generation kind flags order : Byte) (g8 g10 g12 g14 limit : Half) (s : State) : (recordPutEffect slot generation kind flags order g8 g10 g12 g14 limit s).lines = s.lines := by
  unfold recordPutEffect; try dsimp only
  repeat' (first | rfl | split | simp)
@[simp] theorem recordPutEffect_nv (slot generation kind flags order : Byte) (g8 g10 g12 g14 limit : Half) (s : State) : (recordPutEffect slot generation kind flags order g8 g10 g12 g14 limit s).nv = s.nv := by
  unfold recordPutEffect; try dsimp only
  repeat' (first | rfl | split | simp)
@[simp] theorem recordPutEffect_config (slot generation kind flags order : Byte) (g8 g10 g12 g14 limit : Half) (s : State) : (recordPutEffect slot generation kind flags order g8 g10 g12 g14 limit s).config = s.config := by
  unfold recordPutEffect; try dsimp only
  repeat' (first | rfl | split | simp)
@[simp] theorem recordPutEffect_pose (slot generation kind flags order : Byte) (g8 g10 g12 g14 limit : Half) (s : State) : (recordPutEffect slot generation kind flags order g8 g10 g12 g14 limit s).pose = s.pose := by
  unfold recordPutEffect; try dsimp only
  repeat' (first | rfl | split | simp)
@[simp] theorem recordPutEffect_ageing (slot generation kind flags order : Byte) (g8 g10 g12 g14 limit : Half) (s : State) : (recordPutEffect slot generation kind flags order g8 g10 g12 g14 limit s).ageing = s.ageing := by
  unfold recordPutEffect; try dsimp only
  repeat' (first | rfl | split | simp)
@[simp] theorem recordPutEffect_outputs (slot generation kind flags order : Byte) (g8 g10 g12 g14 limit : Half) (s : State) : (recordPutEffect slot generation kind flags order g8 g10 g12 g14 limit s).outputs = s.outputs := by
  unfold recordPutEffect; try dsimp only
  repeat' (first | rfl | split | simp)

/-! #### recordGetEffect -/

@[simp] theorem recordGetEffect_pending (slot : Byte) (s : State) : (recordGetEffect slot s).pending = s.pending := by
  unfold recordGetEffect; try dsimp only
  repeat' (first | rfl | split | simp)
@[simp] theorem recordGetEffect_choices (slot : Byte) (s : State) : (recordGetEffect slot s).choices = s.choices := by
  unfold recordGetEffect; try dsimp only
  repeat' (first | rfl | split | simp)
@[simp] theorem recordGetEffect_power (slot : Byte) (s : State) : (recordGetEffect slot s).power = s.power := by
  unfold recordGetEffect; try dsimp only
  repeat' (first | rfl | split | simp)
@[simp] theorem recordGetEffect_lines (slot : Byte) (s : State) : (recordGetEffect slot s).lines = s.lines := by
  unfold recordGetEffect; try dsimp only
  repeat' (first | rfl | split | simp)
@[simp] theorem recordGetEffect_nv (slot : Byte) (s : State) : (recordGetEffect slot s).nv = s.nv := by
  unfold recordGetEffect; try dsimp only
  repeat' (first | rfl | split | simp)
@[simp] theorem recordGetEffect_table (slot : Byte) (s : State) : (recordGetEffect slot s).table = s.table := by
  unfold recordGetEffect; try dsimp only
  repeat' (first | rfl | split | simp)
@[simp] theorem recordGetEffect_config (slot : Byte) (s : State) : (recordGetEffect slot s).config = s.config := by
  unfold recordGetEffect; try dsimp only
  repeat' (first | rfl | split | simp)
@[simp] theorem recordGetEffect_pose (slot : Byte) (s : State) : (recordGetEffect slot s).pose = s.pose := by
  unfold recordGetEffect; try dsimp only
  repeat' (first | rfl | split | simp)
@[simp] theorem recordGetEffect_zones (slot : Byte) (s : State) : (recordGetEffect slot s).zones = s.zones := by
  unfold recordGetEffect; try dsimp only
  repeat' (first | rfl | split | simp)
@[simp] theorem recordGetEffect_clearance (slot : Byte) (s : State) : (recordGetEffect slot s).clearance = s.clearance := by
  unfold recordGetEffect; try dsimp only
  repeat' (first | rfl | split | simp)
@[simp] theorem recordGetEffect_segments (slot : Byte) (s : State) : (recordGetEffect slot s).segments = s.segments := by
  unfold recordGetEffect; try dsimp only
  repeat' (first | rfl | split | simp)
@[simp] theorem recordGetEffect_drive (slot : Byte) (s : State) : (recordGetEffect slot s).drive = s.drive := by
  unfold recordGetEffect; try dsimp only
  repeat' (first | rfl | split | simp)
@[simp] theorem recordGetEffect_floor (slot : Byte) (s : State) : (recordGetEffect slot s).floor = s.floor := by
  unfold recordGetEffect; try dsimp only
  repeat' (first | rfl | split | simp)
@[simp] theorem recordGetEffect_ageing (slot : Byte) (s : State) : (recordGetEffect slot s).ageing = s.ageing := by
  unfold recordGetEffect; try dsimp only
  repeat' (first | rfl | split | simp)
@[simp] theorem recordGetEffect_dock (slot : Byte) (s : State) : (recordGetEffect slot s).dock = s.dock := by
  unfold recordGetEffect; try dsimp only
  repeat' (first | rfl | split | simp)
@[simp] theorem recordGetEffect_modes (slot : Byte) (s : State) : (recordGetEffect slot s).modes = s.modes := by
  unfold recordGetEffect; try dsimp only
  repeat' (first | rfl | split | simp)
@[simp] theorem recordGetEffect_latches (slot : Byte) (s : State) : (recordGetEffect slot s).latches = s.latches := by
  unfold recordGetEffect; try dsimp only
  repeat' (first | rfl | split | simp)
@[simp] theorem recordGetEffect_outputs (slot : Byte) (s : State) : (recordGetEffect slot s).outputs = s.outputs := by
  unfold recordGetEffect; try dsimp only
  repeat' (first | rfl | split | simp)

/-! #### recordNextEffect -/

@[simp] theorem recordNextEffect_pending (start : Byte) (s : State) : (recordNextEffect start s).pending = s.pending := by
  unfold recordNextEffect; try dsimp only
  repeat' (first | rfl | split | simp)
@[simp] theorem recordNextEffect_choices (start : Byte) (s : State) : (recordNextEffect start s).choices = s.choices := by
  unfold recordNextEffect; try dsimp only
  repeat' (first | rfl | split | simp)
@[simp] theorem recordNextEffect_power (start : Byte) (s : State) : (recordNextEffect start s).power = s.power := by
  unfold recordNextEffect; try dsimp only
  repeat' (first | rfl | split | simp)
@[simp] theorem recordNextEffect_lines (start : Byte) (s : State) : (recordNextEffect start s).lines = s.lines := by
  unfold recordNextEffect; try dsimp only
  repeat' (first | rfl | split | simp)
@[simp] theorem recordNextEffect_nv (start : Byte) (s : State) : (recordNextEffect start s).nv = s.nv := by
  unfold recordNextEffect; try dsimp only
  repeat' (first | rfl | split | simp)
@[simp] theorem recordNextEffect_table (start : Byte) (s : State) : (recordNextEffect start s).table = s.table := by
  unfold recordNextEffect; try dsimp only
  repeat' (first | rfl | split | simp)
@[simp] theorem recordNextEffect_config (start : Byte) (s : State) : (recordNextEffect start s).config = s.config := by
  unfold recordNextEffect; try dsimp only
  repeat' (first | rfl | split | simp)
@[simp] theorem recordNextEffect_pose (start : Byte) (s : State) : (recordNextEffect start s).pose = s.pose := by
  unfold recordNextEffect; try dsimp only
  repeat' (first | rfl | split | simp)
@[simp] theorem recordNextEffect_zones (start : Byte) (s : State) : (recordNextEffect start s).zones = s.zones := by
  unfold recordNextEffect; try dsimp only
  repeat' (first | rfl | split | simp)
@[simp] theorem recordNextEffect_clearance (start : Byte) (s : State) : (recordNextEffect start s).clearance = s.clearance := by
  unfold recordNextEffect; try dsimp only
  repeat' (first | rfl | split | simp)
@[simp] theorem recordNextEffect_segments (start : Byte) (s : State) : (recordNextEffect start s).segments = s.segments := by
  unfold recordNextEffect; try dsimp only
  repeat' (first | rfl | split | simp)
@[simp] theorem recordNextEffect_drive (start : Byte) (s : State) : (recordNextEffect start s).drive = s.drive := by
  unfold recordNextEffect; try dsimp only
  repeat' (first | rfl | split | simp)
@[simp] theorem recordNextEffect_floor (start : Byte) (s : State) : (recordNextEffect start s).floor = s.floor := by
  unfold recordNextEffect; try dsimp only
  repeat' (first | rfl | split | simp)
@[simp] theorem recordNextEffect_ageing (start : Byte) (s : State) : (recordNextEffect start s).ageing = s.ageing := by
  unfold recordNextEffect; try dsimp only
  repeat' (first | rfl | split | simp)
@[simp] theorem recordNextEffect_dock (start : Byte) (s : State) : (recordNextEffect start s).dock = s.dock := by
  unfold recordNextEffect; try dsimp only
  repeat' (first | rfl | split | simp)
@[simp] theorem recordNextEffect_modes (start : Byte) (s : State) : (recordNextEffect start s).modes = s.modes := by
  unfold recordNextEffect; try dsimp only
  repeat' (first | rfl | split | simp)
@[simp] theorem recordNextEffect_latches (start : Byte) (s : State) : (recordNextEffect start s).latches = s.latches := by
  unfold recordNextEffect; try dsimp only
  repeat' (first | rfl | split | simp)
@[simp] theorem recordNextEffect_outputs (start : Byte) (s : State) : (recordNextEffect start s).outputs = s.outputs := by
  unfold recordNextEffect; try dsimp only
  repeat' (first | rfl | split | simp)

/-! #### recordRetireEffect -/

@[simp] theorem recordRetireEffect_pending (slot generation : Byte) (s : State) : (recordRetireEffect slot generation s).pending = s.pending := by
  unfold recordRetireEffect; try dsimp only
  repeat' (first | rfl | split | simp)
@[simp] theorem recordRetireEffect_choices (slot generation : Byte) (s : State) : (recordRetireEffect slot generation s).choices = s.choices := by
  unfold recordRetireEffect; try dsimp only
  repeat' (first | rfl | split | simp)
@[simp] theorem recordRetireEffect_power (slot generation : Byte) (s : State) : (recordRetireEffect slot generation s).power = s.power := by
  unfold recordRetireEffect; try dsimp only
  repeat' (first | rfl | split | simp)
@[simp] theorem recordRetireEffect_lines (slot generation : Byte) (s : State) : (recordRetireEffect slot generation s).lines = s.lines := by
  unfold recordRetireEffect; try dsimp only
  repeat' (first | rfl | split | simp)
@[simp] theorem recordRetireEffect_nv (slot generation : Byte) (s : State) : (recordRetireEffect slot generation s).nv = s.nv := by
  unfold recordRetireEffect; try dsimp only
  repeat' (first | rfl | split | simp)
@[simp] theorem recordRetireEffect_config (slot generation : Byte) (s : State) : (recordRetireEffect slot generation s).config = s.config := by
  unfold recordRetireEffect; try dsimp only
  repeat' (first | rfl | split | simp)
@[simp] theorem recordRetireEffect_pose (slot generation : Byte) (s : State) : (recordRetireEffect slot generation s).pose = s.pose := by
  unfold recordRetireEffect; try dsimp only
  repeat' (first | rfl | split | simp)
@[simp] theorem recordRetireEffect_ageing (slot generation : Byte) (s : State) : (recordRetireEffect slot generation s).ageing = s.ageing := by
  unfold recordRetireEffect; try dsimp only
  repeat' (first | rfl | split | simp)
@[simp] theorem recordRetireEffect_outputs (slot generation : Byte) (s : State) : (recordRetireEffect slot generation s).outputs = s.outputs := by
  unfold recordRetireEffect; try dsimp only
  repeat' (first | rfl | split | simp)

/-! #### pointQueryEffect -/

@[simp] theorem pointQueryEffect_pending (x y : Half) (s : State) : (pointQueryEffect x y s).pending = s.pending := by
  unfold pointQueryEffect; try dsimp only
  repeat' (first | rfl | split | simp)
@[simp] theorem pointQueryEffect_choices (x y : Half) (s : State) : (pointQueryEffect x y s).choices = s.choices := by
  unfold pointQueryEffect; try dsimp only
  repeat' (first | rfl | split | simp)
@[simp] theorem pointQueryEffect_power (x y : Half) (s : State) : (pointQueryEffect x y s).power = s.power := by
  unfold pointQueryEffect; try dsimp only
  repeat' (first | rfl | split | simp)
@[simp] theorem pointQueryEffect_lines (x y : Half) (s : State) : (pointQueryEffect x y s).lines = s.lines := by
  unfold pointQueryEffect; try dsimp only
  repeat' (first | rfl | split | simp)
@[simp] theorem pointQueryEffect_nv (x y : Half) (s : State) : (pointQueryEffect x y s).nv = s.nv := by
  unfold pointQueryEffect; try dsimp only
  repeat' (first | rfl | split | simp)
@[simp] theorem pointQueryEffect_table (x y : Half) (s : State) : (pointQueryEffect x y s).table = s.table := by
  unfold pointQueryEffect; try dsimp only
  repeat' (first | rfl | split | simp)
@[simp] theorem pointQueryEffect_config (x y : Half) (s : State) : (pointQueryEffect x y s).config = s.config := by
  unfold pointQueryEffect; try dsimp only
  repeat' (first | rfl | split | simp)
@[simp] theorem pointQueryEffect_pose (x y : Half) (s : State) : (pointQueryEffect x y s).pose = s.pose := by
  unfold pointQueryEffect; try dsimp only
  repeat' (first | rfl | split | simp)
@[simp] theorem pointQueryEffect_zones (x y : Half) (s : State) : (pointQueryEffect x y s).zones = s.zones := by
  unfold pointQueryEffect; try dsimp only
  repeat' (first | rfl | split | simp)
@[simp] theorem pointQueryEffect_clearance (x y : Half) (s : State) : (pointQueryEffect x y s).clearance = s.clearance := by
  unfold pointQueryEffect; try dsimp only
  repeat' (first | rfl | split | simp)
@[simp] theorem pointQueryEffect_segments (x y : Half) (s : State) : (pointQueryEffect x y s).segments = s.segments := by
  unfold pointQueryEffect; try dsimp only
  repeat' (first | rfl | split | simp)
@[simp] theorem pointQueryEffect_drive (x y : Half) (s : State) : (pointQueryEffect x y s).drive = s.drive := by
  unfold pointQueryEffect; try dsimp only
  repeat' (first | rfl | split | simp)
@[simp] theorem pointQueryEffect_floor (x y : Half) (s : State) : (pointQueryEffect x y s).floor = s.floor := by
  unfold pointQueryEffect; try dsimp only
  repeat' (first | rfl | split | simp)
@[simp] theorem pointQueryEffect_ageing (x y : Half) (s : State) : (pointQueryEffect x y s).ageing = s.ageing := by
  unfold pointQueryEffect; try dsimp only
  repeat' (first | rfl | split | simp)
@[simp] theorem pointQueryEffect_dock (x y : Half) (s : State) : (pointQueryEffect x y s).dock = s.dock := by
  unfold pointQueryEffect; try dsimp only
  repeat' (first | rfl | split | simp)
@[simp] theorem pointQueryEffect_modes (x y : Half) (s : State) : (pointQueryEffect x y s).modes = s.modes := by
  unfold pointQueryEffect; try dsimp only
  repeat' (first | rfl | split | simp)
@[simp] theorem pointQueryEffect_latches (x y : Half) (s : State) : (pointQueryEffect x y s).latches = s.latches := by
  unfold pointQueryEffect; try dsimp only
  repeat' (first | rfl | split | simp)
@[simp] theorem pointQueryEffect_outputs (x y : Half) (s : State) : (pointQueryEffect x y s).outputs = s.outputs := by
  unfold pointQueryEffect; try dsimp only
  repeat' (first | rfl | split | simp)

/-! #### pathQueryEffect -/

@[simp] theorem pathQueryEffect_pending (heading : Half) (direction : Byte) (s : State) : (pathQueryEffect heading direction s).pending = s.pending := by
  unfold pathQueryEffect; try dsimp only
  repeat' (first | rfl | split | simp)
@[simp] theorem pathQueryEffect_choices (heading : Half) (direction : Byte) (s : State) : (pathQueryEffect heading direction s).choices = s.choices := by
  unfold pathQueryEffect; try dsimp only
  repeat' (first | rfl | split | simp)
@[simp] theorem pathQueryEffect_power (heading : Half) (direction : Byte) (s : State) : (pathQueryEffect heading direction s).power = s.power := by
  unfold pathQueryEffect; try dsimp only
  repeat' (first | rfl | split | simp)
@[simp] theorem pathQueryEffect_lines (heading : Half) (direction : Byte) (s : State) : (pathQueryEffect heading direction s).lines = s.lines := by
  unfold pathQueryEffect; try dsimp only
  repeat' (first | rfl | split | simp)
@[simp] theorem pathQueryEffect_nv (heading : Half) (direction : Byte) (s : State) : (pathQueryEffect heading direction s).nv = s.nv := by
  unfold pathQueryEffect; try dsimp only
  repeat' (first | rfl | split | simp)
@[simp] theorem pathQueryEffect_table (heading : Half) (direction : Byte) (s : State) : (pathQueryEffect heading direction s).table = s.table := by
  unfold pathQueryEffect; try dsimp only
  repeat' (first | rfl | split | simp)
@[simp] theorem pathQueryEffect_config (heading : Half) (direction : Byte) (s : State) : (pathQueryEffect heading direction s).config = s.config := by
  unfold pathQueryEffect; try dsimp only
  repeat' (first | rfl | split | simp)
@[simp] theorem pathQueryEffect_pose (heading : Half) (direction : Byte) (s : State) : (pathQueryEffect heading direction s).pose = s.pose := by
  unfold pathQueryEffect; try dsimp only
  repeat' (first | rfl | split | simp)
@[simp] theorem pathQueryEffect_zones (heading : Half) (direction : Byte) (s : State) : (pathQueryEffect heading direction s).zones = s.zones := by
  unfold pathQueryEffect; try dsimp only
  repeat' (first | rfl | split | simp)
@[simp] theorem pathQueryEffect_clearance (heading : Half) (direction : Byte) (s : State) : (pathQueryEffect heading direction s).clearance = s.clearance := by
  unfold pathQueryEffect; try dsimp only
  repeat' (first | rfl | split | simp)
@[simp] theorem pathQueryEffect_segments (heading : Half) (direction : Byte) (s : State) : (pathQueryEffect heading direction s).segments = s.segments := by
  unfold pathQueryEffect; try dsimp only
  repeat' (first | rfl | split | simp)
@[simp] theorem pathQueryEffect_drive (heading : Half) (direction : Byte) (s : State) : (pathQueryEffect heading direction s).drive = s.drive := by
  unfold pathQueryEffect; try dsimp only
  repeat' (first | rfl | split | simp)
@[simp] theorem pathQueryEffect_floor (heading : Half) (direction : Byte) (s : State) : (pathQueryEffect heading direction s).floor = s.floor := by
  unfold pathQueryEffect; try dsimp only
  repeat' (first | rfl | split | simp)
@[simp] theorem pathQueryEffect_ageing (heading : Half) (direction : Byte) (s : State) : (pathQueryEffect heading direction s).ageing = s.ageing := by
  unfold pathQueryEffect; try dsimp only
  repeat' (first | rfl | split | simp)
@[simp] theorem pathQueryEffect_dock (heading : Half) (direction : Byte) (s : State) : (pathQueryEffect heading direction s).dock = s.dock := by
  unfold pathQueryEffect; try dsimp only
  repeat' (first | rfl | split | simp)
@[simp] theorem pathQueryEffect_modes (heading : Half) (direction : Byte) (s : State) : (pathQueryEffect heading direction s).modes = s.modes := by
  unfold pathQueryEffect; try dsimp only
  repeat' (first | rfl | split | simp)
@[simp] theorem pathQueryEffect_latches (heading : Half) (direction : Byte) (s : State) : (pathQueryEffect heading direction s).latches = s.latches := by
  unfold pathQueryEffect; try dsimp only
  repeat' (first | rfl | split | simp)
@[simp] theorem pathQueryEffect_outputs (heading : Half) (direction : Byte) (s : State) : (pathQueryEffect heading direction s).outputs = s.outputs := by
  unfold pathQueryEffect; try dsimp only
  repeat' (first | rfl | split | simp)

/-! #### poseSetEffect -/

@[simp] theorem poseSetEffect_pending (x y heading u : Half) (s : State) : (poseSetEffect x y heading u s).pending = s.pending := by simp [poseSetEffect]
@[simp] theorem poseSetEffect_choices (x y heading u : Half) (s : State) : (poseSetEffect x y heading u s).choices = s.choices := by simp [poseSetEffect]
@[simp] theorem poseSetEffect_power (x y heading u : Half) (s : State) : (poseSetEffect x y heading u s).power = s.power := by simp [poseSetEffect]
@[simp] theorem poseSetEffect_lines (x y heading u : Half) (s : State) : (poseSetEffect x y heading u s).lines = s.lines := by simp [poseSetEffect]
@[simp] theorem poseSetEffect_nv (x y heading u : Half) (s : State) : (poseSetEffect x y heading u s).nv = s.nv := by simp [poseSetEffect]
@[simp] theorem poseSetEffect_table (x y heading u : Half) (s : State) : (poseSetEffect x y heading u s).table = s.table := by simp [poseSetEffect]
@[simp] theorem poseSetEffect_config (x y heading u : Half) (s : State) : (poseSetEffect x y heading u s).config = s.config := by simp [poseSetEffect]
@[simp] theorem poseSetEffect_ageing (x y heading u : Half) (s : State) : (poseSetEffect x y heading u s).ageing = s.ageing := by simp [poseSetEffect]
@[simp] theorem poseSetEffect_outputs (x y heading u : Half) (s : State) : (poseSetEffect x y heading u s).outputs = s.outputs := by simp [poseSetEffect]

/-! #### poseGetEffect -/

@[simp] theorem poseGetEffect_pending (s : State) : (poseGetEffect s).pending = s.pending := by
  unfold poseGetEffect; try dsimp only
  repeat' (first | rfl | split | simp)
@[simp] theorem poseGetEffect_choices (s : State) : (poseGetEffect s).choices = s.choices := by
  unfold poseGetEffect; try dsimp only
  repeat' (first | rfl | split | simp)
@[simp] theorem poseGetEffect_power (s : State) : (poseGetEffect s).power = s.power := by
  unfold poseGetEffect; try dsimp only
  repeat' (first | rfl | split | simp)
@[simp] theorem poseGetEffect_lines (s : State) : (poseGetEffect s).lines = s.lines := by
  unfold poseGetEffect; try dsimp only
  repeat' (first | rfl | split | simp)
@[simp] theorem poseGetEffect_nv (s : State) : (poseGetEffect s).nv = s.nv := by
  unfold poseGetEffect; try dsimp only
  repeat' (first | rfl | split | simp)
@[simp] theorem poseGetEffect_table (s : State) : (poseGetEffect s).table = s.table := by
  unfold poseGetEffect; try dsimp only
  repeat' (first | rfl | split | simp)
@[simp] theorem poseGetEffect_config (s : State) : (poseGetEffect s).config = s.config := by
  unfold poseGetEffect; try dsimp only
  repeat' (first | rfl | split | simp)
@[simp] theorem poseGetEffect_pose (s : State) : (poseGetEffect s).pose = s.pose := by
  unfold poseGetEffect; try dsimp only
  repeat' (first | rfl | split | simp)
@[simp] theorem poseGetEffect_zones (s : State) : (poseGetEffect s).zones = s.zones := by
  unfold poseGetEffect; try dsimp only
  repeat' (first | rfl | split | simp)
@[simp] theorem poseGetEffect_clearance (s : State) : (poseGetEffect s).clearance = s.clearance := by
  unfold poseGetEffect; try dsimp only
  repeat' (first | rfl | split | simp)
@[simp] theorem poseGetEffect_segments (s : State) : (poseGetEffect s).segments = s.segments := by
  unfold poseGetEffect; try dsimp only
  repeat' (first | rfl | split | simp)
@[simp] theorem poseGetEffect_drive (s : State) : (poseGetEffect s).drive = s.drive := by
  unfold poseGetEffect; try dsimp only
  repeat' (first | rfl | split | simp)
@[simp] theorem poseGetEffect_floor (s : State) : (poseGetEffect s).floor = s.floor := by
  unfold poseGetEffect; try dsimp only
  repeat' (first | rfl | split | simp)
@[simp] theorem poseGetEffect_ageing (s : State) : (poseGetEffect s).ageing = s.ageing := by
  unfold poseGetEffect; try dsimp only
  repeat' (first | rfl | split | simp)
@[simp] theorem poseGetEffect_dock (s : State) : (poseGetEffect s).dock = s.dock := by
  unfold poseGetEffect; try dsimp only
  repeat' (first | rfl | split | simp)
@[simp] theorem poseGetEffect_modes (s : State) : (poseGetEffect s).modes = s.modes := by
  unfold poseGetEffect; try dsimp only
  repeat' (first | rfl | split | simp)
@[simp] theorem poseGetEffect_latches (s : State) : (poseGetEffect s).latches = s.latches := by
  unfold poseGetEffect; try dsimp only
  repeat' (first | rfl | split | simp)
@[simp] theorem poseGetEffect_outputs (s : State) : (poseGetEffect s).outputs = s.outputs := by
  unfold poseGetEffect; try dsimp only
  repeat' (first | rfl | split | simp)

/-! #### segmentAddEffect -/

@[simp] theorem segmentAddEffect_pending (tag kind direction hold : Byte) (amount speed : Half) (s : State) : (segmentAddEffect tag kind direction hold amount speed s).pending = s.pending := by
  unfold segmentAddEffect; try dsimp only
  repeat' (first | rfl | split | simp)
@[simp] theorem segmentAddEffect_choices (tag kind direction hold : Byte) (amount speed : Half) (s : State) : (segmentAddEffect tag kind direction hold amount speed s).choices = s.choices := by
  unfold segmentAddEffect; try dsimp only
  repeat' (first | rfl | split | simp)
@[simp] theorem segmentAddEffect_power (tag kind direction hold : Byte) (amount speed : Half) (s : State) : (segmentAddEffect tag kind direction hold amount speed s).power = s.power := by
  unfold segmentAddEffect; try dsimp only
  repeat' (first | rfl | split | simp)
@[simp] theorem segmentAddEffect_lines (tag kind direction hold : Byte) (amount speed : Half) (s : State) : (segmentAddEffect tag kind direction hold amount speed s).lines = s.lines := by
  unfold segmentAddEffect; try dsimp only
  repeat' (first | rfl | split | simp)
@[simp] theorem segmentAddEffect_nv (tag kind direction hold : Byte) (amount speed : Half) (s : State) : (segmentAddEffect tag kind direction hold amount speed s).nv = s.nv := by
  unfold segmentAddEffect; try dsimp only
  repeat' (first | rfl | split | simp)
@[simp] theorem segmentAddEffect_table (tag kind direction hold : Byte) (amount speed : Half) (s : State) : (segmentAddEffect tag kind direction hold amount speed s).table = s.table := by
  unfold segmentAddEffect; try dsimp only
  repeat' (first | rfl | split | simp)
@[simp] theorem segmentAddEffect_config (tag kind direction hold : Byte) (amount speed : Half) (s : State) : (segmentAddEffect tag kind direction hold amount speed s).config = s.config := by
  unfold segmentAddEffect; try dsimp only
  repeat' (first | rfl | split | simp)
@[simp] theorem segmentAddEffect_pose (tag kind direction hold : Byte) (amount speed : Half) (s : State) : (segmentAddEffect tag kind direction hold amount speed s).pose = s.pose := by
  unfold segmentAddEffect; try dsimp only
  repeat' (first | rfl | split | simp)
@[simp] theorem segmentAddEffect_ageing (tag kind direction hold : Byte) (amount speed : Half) (s : State) : (segmentAddEffect tag kind direction hold amount speed s).ageing = s.ageing := by
  unfold segmentAddEffect; try dsimp only
  repeat' (first | rfl | split | simp)
@[simp] theorem segmentAddEffect_outputs (tag kind direction hold : Byte) (amount speed : Half) (s : State) : (segmentAddEffect tag kind direction hold amount speed s).outputs = s.outputs := by
  unfold segmentAddEffect; try dsimp only
  repeat' (first | rfl | split | simp)

/-! #### segmentCancelEffect -/

@[simp] theorem segmentCancelEffect_pending (tag : Byte) (s : State) : (segmentCancelEffect tag s).pending = s.pending := by
  unfold segmentCancelEffect; try dsimp only
  repeat' (first | rfl | split | simp)
@[simp] theorem segmentCancelEffect_choices (tag : Byte) (s : State) : (segmentCancelEffect tag s).choices = s.choices := by
  unfold segmentCancelEffect; try dsimp only
  repeat' (first | rfl | split | simp)
@[simp] theorem segmentCancelEffect_power (tag : Byte) (s : State) : (segmentCancelEffect tag s).power = s.power := by
  unfold segmentCancelEffect; try dsimp only
  repeat' (first | rfl | split | simp)
@[simp] theorem segmentCancelEffect_lines (tag : Byte) (s : State) : (segmentCancelEffect tag s).lines = s.lines := by
  unfold segmentCancelEffect; try dsimp only
  repeat' (first | rfl | split | simp)
@[simp] theorem segmentCancelEffect_nv (tag : Byte) (s : State) : (segmentCancelEffect tag s).nv = s.nv := by
  unfold segmentCancelEffect; try dsimp only
  repeat' (first | rfl | split | simp)
@[simp] theorem segmentCancelEffect_table (tag : Byte) (s : State) : (segmentCancelEffect tag s).table = s.table := by
  unfold segmentCancelEffect; try dsimp only
  repeat' (first | rfl | split | simp)
@[simp] theorem segmentCancelEffect_config (tag : Byte) (s : State) : (segmentCancelEffect tag s).config = s.config := by
  unfold segmentCancelEffect; try dsimp only
  repeat' (first | rfl | split | simp)
@[simp] theorem segmentCancelEffect_pose (tag : Byte) (s : State) : (segmentCancelEffect tag s).pose = s.pose := by
  unfold segmentCancelEffect; try dsimp only
  repeat' (first | rfl | split | simp)
@[simp] theorem segmentCancelEffect_ageing (tag : Byte) (s : State) : (segmentCancelEffect tag s).ageing = s.ageing := by
  unfold segmentCancelEffect; try dsimp only
  repeat' (first | rfl | split | simp)
@[simp] theorem segmentCancelEffect_outputs (tag : Byte) (s : State) : (segmentCancelEffect tag s).outputs = s.outputs := by
  unfold segmentCancelEffect; try dsimp only
  repeat' (first | rfl | split | simp)

/-! #### segmentFlushEffect -/

@[simp] theorem segmentFlushEffect_pending (s : State) : (segmentFlushEffect s).pending = s.pending := by simp [segmentFlushEffect]
@[simp] theorem segmentFlushEffect_choices (s : State) : (segmentFlushEffect s).choices = s.choices := by simp [segmentFlushEffect]
@[simp] theorem segmentFlushEffect_power (s : State) : (segmentFlushEffect s).power = s.power := by simp [segmentFlushEffect]
@[simp] theorem segmentFlushEffect_lines (s : State) : (segmentFlushEffect s).lines = s.lines := by simp [segmentFlushEffect]
@[simp] theorem segmentFlushEffect_nv (s : State) : (segmentFlushEffect s).nv = s.nv := by simp [segmentFlushEffect]
@[simp] theorem segmentFlushEffect_table (s : State) : (segmentFlushEffect s).table = s.table := by simp [segmentFlushEffect]
@[simp] theorem segmentFlushEffect_config (s : State) : (segmentFlushEffect s).config = s.config := by simp [segmentFlushEffect]
@[simp] theorem segmentFlushEffect_pose (s : State) : (segmentFlushEffect s).pose = s.pose := by simp [segmentFlushEffect]
@[simp] theorem segmentFlushEffect_ageing (s : State) : (segmentFlushEffect s).ageing = s.ageing := by simp [segmentFlushEffect]
@[simp] theorem segmentFlushEffect_outputs (s : State) : (segmentFlushEffect s).outputs = s.outputs := by simp [segmentFlushEffect]

/-! #### completionReadEffect -/

@[simp] theorem completionReadEffect_pending (s : State) : (completionReadEffect s).pending = s.pending := by
  unfold completionReadEffect; try dsimp only
  repeat' (first | rfl | split | simp)
@[simp] theorem completionReadEffect_choices (s : State) : (completionReadEffect s).choices = s.choices := by
  unfold completionReadEffect; try dsimp only
  repeat' (first | rfl | split | simp)
@[simp] theorem completionReadEffect_power (s : State) : (completionReadEffect s).power = s.power := by
  unfold completionReadEffect; try dsimp only
  repeat' (first | rfl | split | simp)
@[simp] theorem completionReadEffect_lines (s : State) : (completionReadEffect s).lines = s.lines := by
  unfold completionReadEffect; try dsimp only
  repeat' (first | rfl | split | simp)
@[simp] theorem completionReadEffect_nv (s : State) : (completionReadEffect s).nv = s.nv := by
  unfold completionReadEffect; try dsimp only
  repeat' (first | rfl | split | simp)
@[simp] theorem completionReadEffect_table (s : State) : (completionReadEffect s).table = s.table := by
  unfold completionReadEffect; try dsimp only
  repeat' (first | rfl | split | simp)
@[simp] theorem completionReadEffect_config (s : State) : (completionReadEffect s).config = s.config := by
  unfold completionReadEffect; try dsimp only
  repeat' (first | rfl | split | simp)
@[simp] theorem completionReadEffect_pose (s : State) : (completionReadEffect s).pose = s.pose := by
  unfold completionReadEffect; try dsimp only
  repeat' (first | rfl | split | simp)
@[simp] theorem completionReadEffect_zones (s : State) : (completionReadEffect s).zones = s.zones := by
  unfold completionReadEffect; try dsimp only
  repeat' (first | rfl | split | simp)
@[simp] theorem completionReadEffect_clearance (s : State) : (completionReadEffect s).clearance = s.clearance := by
  unfold completionReadEffect; try dsimp only
  repeat' (first | rfl | split | simp)
@[simp] theorem completionReadEffect_drive (s : State) : (completionReadEffect s).drive = s.drive := by
  unfold completionReadEffect; try dsimp only
  repeat' (first | rfl | split | simp)
@[simp] theorem completionReadEffect_floor (s : State) : (completionReadEffect s).floor = s.floor := by
  unfold completionReadEffect; try dsimp only
  repeat' (first | rfl | split | simp)
@[simp] theorem completionReadEffect_ageing (s : State) : (completionReadEffect s).ageing = s.ageing := by
  unfold completionReadEffect; try dsimp only
  repeat' (first | rfl | split | simp)
@[simp] theorem completionReadEffect_dock (s : State) : (completionReadEffect s).dock = s.dock := by
  unfold completionReadEffect; try dsimp only
  repeat' (first | rfl | split | simp)
@[simp] theorem completionReadEffect_modes (s : State) : (completionReadEffect s).modes = s.modes := by
  unfold completionReadEffect; try dsimp only
  repeat' (first | rfl | split | simp)
@[simp] theorem completionReadEffect_latches (s : State) : (completionReadEffect s).latches = s.latches := by
  unfold completionReadEffect; try dsimp only
  repeat' (first | rfl | split | simp)
@[simp] theorem completionReadEffect_outputs (s : State) : (completionReadEffect s).outputs = s.outputs := by
  unfold completionReadEffect; try dsimp only
  repeat' (first | rfl | split | simp)

/-! #### pauseTimerEffect -/

@[simp] theorem pauseTimerEffect_pending (s : State) : (pauseTimerEffect s).pending = s.pending := by
  unfold pauseTimerEffect; try dsimp only
  repeat' (first | rfl | split | simp)
@[simp] theorem pauseTimerEffect_choices (s : State) : (pauseTimerEffect s).choices = s.choices := by
  unfold pauseTimerEffect; try dsimp only
  repeat' (first | rfl | split | simp)
@[simp] theorem pauseTimerEffect_power (s : State) : (pauseTimerEffect s).power = s.power := by
  unfold pauseTimerEffect; try dsimp only
  repeat' (first | rfl | split | simp)
@[simp] theorem pauseTimerEffect_lines (s : State) : (pauseTimerEffect s).lines = s.lines := by
  unfold pauseTimerEffect; try dsimp only
  repeat' (first | rfl | split | simp)
@[simp] theorem pauseTimerEffect_nv (s : State) : (pauseTimerEffect s).nv = s.nv := by
  unfold pauseTimerEffect; try dsimp only
  repeat' (first | rfl | split | simp)
@[simp] theorem pauseTimerEffect_table (s : State) : (pauseTimerEffect s).table = s.table := by
  unfold pauseTimerEffect; try dsimp only
  repeat' (first | rfl | split | simp)
@[simp] theorem pauseTimerEffect_config (s : State) : (pauseTimerEffect s).config = s.config := by
  unfold pauseTimerEffect; try dsimp only
  repeat' (first | rfl | split | simp)
@[simp] theorem pauseTimerEffect_pose (s : State) : (pauseTimerEffect s).pose = s.pose := by
  unfold pauseTimerEffect; try dsimp only
  repeat' (first | rfl | split | simp)
@[simp] theorem pauseTimerEffect_ageing (s : State) : (pauseTimerEffect s).ageing = s.ageing := by
  unfold pauseTimerEffect; try dsimp only
  repeat' (first | rfl | split | simp)
@[simp] theorem pauseTimerEffect_link (s : State) : (pauseTimerEffect s).link = s.link := by
  unfold pauseTimerEffect; try dsimp only
  repeat' (first | rfl | split | simp)
@[simp] theorem pauseTimerEffect_outputs (s : State) : (pauseTimerEffect s).outputs = s.outputs := by
  unfold pauseTimerEffect; try dsimp only
  repeat' (first | rfl | split | simp)

/-! #### segmentStartEffect -/

@[simp] theorem segmentStartEffect_pending (s : State) : (segmentStartEffect s).pending = s.pending := by
  unfold segmentStartEffect; try dsimp only
  repeat' (first | rfl | split | simp)
@[simp] theorem segmentStartEffect_choices (s : State) : (segmentStartEffect s).choices = s.choices := by
  unfold segmentStartEffect; try dsimp only
  repeat' (first | rfl | split | simp)
@[simp] theorem segmentStartEffect_power (s : State) : (segmentStartEffect s).power = s.power := by
  unfold segmentStartEffect; try dsimp only
  repeat' (first | rfl | split | simp)
@[simp] theorem segmentStartEffect_lines (s : State) : (segmentStartEffect s).lines = s.lines := by
  unfold segmentStartEffect; try dsimp only
  repeat' (first | rfl | split | simp)
@[simp] theorem segmentStartEffect_nv (s : State) : (segmentStartEffect s).nv = s.nv := by
  unfold segmentStartEffect; try dsimp only
  repeat' (first | rfl | split | simp)
@[simp] theorem segmentStartEffect_table (s : State) : (segmentStartEffect s).table = s.table := by
  unfold segmentStartEffect; try dsimp only
  repeat' (first | rfl | split | simp)
@[simp] theorem segmentStartEffect_config (s : State) : (segmentStartEffect s).config = s.config := by
  unfold segmentStartEffect; try dsimp only
  repeat' (first | rfl | split | simp)
@[simp] theorem segmentStartEffect_pose (s : State) : (segmentStartEffect s).pose = s.pose := by
  unfold segmentStartEffect; try dsimp only
  repeat' (first | rfl | split | simp)
@[simp] theorem segmentStartEffect_ageing (s : State) : (segmentStartEffect s).ageing = s.ageing := by
  unfold segmentStartEffect; try dsimp only
  repeat' (first | rfl | split | simp)
@[simp] theorem segmentStartEffect_link (s : State) : (segmentStartEffect s).link = s.link := by
  unfold segmentStartEffect; try dsimp only
  repeat' (first | rfl | split | simp)
@[simp] theorem segmentStartEffect_outputs (s : State) : (segmentStartEffect s).outputs = s.outputs := by
  unfold segmentStartEffect; try dsimp only
  repeat' (first | rfl | split | simp)

/-! #### completionWriteEffect -/

@[simp] theorem completionWriteEffect_pending (s : State) : (completionWriteEffect s).pending = s.pending := by
  unfold completionWriteEffect; try dsimp only
  repeat' (first | rfl | split | simp)
@[simp] theorem completionWriteEffect_choices (s : State) : (completionWriteEffect s).choices = s.choices := by
  unfold completionWriteEffect; try dsimp only
  repeat' (first | rfl | split | simp)
@[simp] theorem completionWriteEffect_power (s : State) : (completionWriteEffect s).power = s.power := by
  unfold completionWriteEffect; try dsimp only
  repeat' (first | rfl | split | simp)
@[simp] theorem completionWriteEffect_lines (s : State) : (completionWriteEffect s).lines = s.lines := by
  unfold completionWriteEffect; try dsimp only
  repeat' (first | rfl | split | simp)
@[simp] theorem completionWriteEffect_nv (s : State) : (completionWriteEffect s).nv = s.nv := by
  unfold completionWriteEffect; try dsimp only
  repeat' (first | rfl | split | simp)
@[simp] theorem completionWriteEffect_table (s : State) : (completionWriteEffect s).table = s.table := by
  unfold completionWriteEffect; try dsimp only
  repeat' (first | rfl | split | simp)
@[simp] theorem completionWriteEffect_config (s : State) : (completionWriteEffect s).config = s.config := by
  unfold completionWriteEffect; try dsimp only
  repeat' (first | rfl | split | simp)
@[simp] theorem completionWriteEffect_pose (s : State) : (completionWriteEffect s).pose = s.pose := by
  unfold completionWriteEffect; try dsimp only
  repeat' (first | rfl | split | simp)
@[simp] theorem completionWriteEffect_ageing (s : State) : (completionWriteEffect s).ageing = s.ageing := by
  unfold completionWriteEffect; try dsimp only
  repeat' (first | rfl | split | simp)
@[simp] theorem completionWriteEffect_link (s : State) : (completionWriteEffect s).link = s.link := by
  unfold completionWriteEffect; try dsimp only
  repeat' (first | rfl | split | simp)
@[simp] theorem completionWriteEffect_outputs (s : State) : (completionWriteEffect s).outputs = s.outputs := by
  unfold completionWriteEffect; try dsimp only
  repeat' (first | rfl | split | simp)

/-! #### periodUpdate -/

@[simp] theorem periodUpdate_pending (s : State) : (periodUpdate s).pending = s.pending := by simp [periodUpdate]
@[simp] theorem periodUpdate_choices (s : State) : (periodUpdate s).choices = s.choices := by simp [periodUpdate]
@[simp] theorem periodUpdate_power (s : State) : (periodUpdate s).power = s.power := by simp [periodUpdate]
@[simp] theorem periodUpdate_lines (s : State) : (periodUpdate s).lines = s.lines := by simp [periodUpdate]
@[simp] theorem periodUpdate_nv (s : State) : (periodUpdate s).nv = s.nv := by simp [periodUpdate]
@[simp] theorem periodUpdate_table (s : State) : (periodUpdate s).table = s.table := by simp [periodUpdate]
@[simp] theorem periodUpdate_config (s : State) : (periodUpdate s).config = s.config := by simp [periodUpdate]
@[simp] theorem periodUpdate_clearance (s : State) : (periodUpdate s).clearance = s.clearance := by simp [periodUpdate]
@[simp] theorem periodUpdate_segments (s : State) : (periodUpdate s).segments = s.segments := by simp [periodUpdate]
@[simp] theorem periodUpdate_floor (s : State) : (periodUpdate s).floor = s.floor := by simp [periodUpdate]
@[simp] theorem periodUpdate_ageing (s : State) : (periodUpdate s).ageing = s.ageing := by simp [periodUpdate]
@[simp] theorem periodUpdate_dock (s : State) : (periodUpdate s).dock = s.dock := by simp [periodUpdate]
@[simp] theorem periodUpdate_modes (s : State) : (periodUpdate s).modes = s.modes := by simp [periodUpdate]
@[simp] theorem periodUpdate_outputs (s : State) : (periodUpdate s).outputs = s.outputs := by simp [periodUpdate]

/-! #### controlPeriodEffect -/

@[simp] theorem periodFold_pending (l : List PeriodPart) (tag : Option Nat) (h : Handed) (s : State) :
    (l.foldl (fun t part => periodPart tag h part t) s).pending = s.pending := by
  induction l generalizing s with
  | nil => rfl
  | cons p l ih => simp [ih]
@[simp] theorem periodFold_choices (l : List PeriodPart) (tag : Option Nat) (h : Handed) (s : State) :
    (l.foldl (fun t part => periodPart tag h part t) s).choices = s.choices := by
  induction l generalizing s with
  | nil => rfl
  | cons p l ih => simp [ih]
@[simp] theorem periodFold_power (l : List PeriodPart) (tag : Option Nat) (h : Handed) (s : State) :
    (l.foldl (fun t part => periodPart tag h part t) s).power = s.power := by
  induction l generalizing s with
  | nil => rfl
  | cons p l ih => simp [ih]
@[simp] theorem periodFold_lines (l : List PeriodPart) (tag : Option Nat) (h : Handed) (s : State) :
    (l.foldl (fun t part => periodPart tag h part t) s).lines = s.lines := by
  induction l generalizing s with
  | nil => rfl
  | cons p l ih => simp [ih]
@[simp] theorem periodFold_nv (l : List PeriodPart) (tag : Option Nat) (h : Handed) (s : State) :
    (l.foldl (fun t part => periodPart tag h part t) s).nv = s.nv := by
  induction l generalizing s with
  | nil => rfl
  | cons p l ih => simp [ih]
@[simp] theorem periodFold_table (l : List PeriodPart) (tag : Option Nat) (h : Handed) (s : State) :
    (l.foldl (fun t part => periodPart tag h part t) s).table = s.table := by
  induction l generalizing s with
  | nil => rfl
  | cons p l ih => simp [ih]
@[simp] theorem periodFold_config (l : List PeriodPart) (tag : Option Nat) (h : Handed) (s : State) :
    (l.foldl (fun t part => periodPart tag h part t) s).config = s.config := by
  induction l generalizing s with
  | nil => rfl
  | cons p l ih => simp [ih]
@[simp] theorem periodFold_ageing (l : List PeriodPart) (tag : Option Nat) (h : Handed) (s : State) :
    (l.foldl (fun t part => periodPart tag h part t) s).ageing = s.ageing := by
  induction l generalizing s with
  | nil => rfl
  | cons p l ih => simp [ih]
@[simp] theorem periodFold_outputs (l : List PeriodPart) (tag : Option Nat) (h : Handed) (s : State) :
    (l.foldl (fun t part => periodPart tag h part t) s).outputs = s.outputs := by
  induction l generalizing s with
  | nil => rfl
  | cons p l ih => simp [ih]
@[simp] theorem periodFold_pose (l : List PeriodPart) (tag : Option Nat) (h : Handed) (s : State) :
    (l.foldl (fun t part => periodPart tag h part t) s).pose = s.pose := by
  induction l generalizing s with
  | nil => rfl
  | cons p l ih => simp [ih]
@[simp] theorem periodFold_link (l : List PeriodPart) (tag : Option Nat) (h : Handed) (s : State) :
    (l.foldl (fun t part => periodPart tag h part t) s).link = s.link := by
  induction l generalizing s with
  | nil => rfl
  | cons p l ih => simp [ih]
@[simp] theorem controlPeriodEffect_pending (order : List PeriodPart) (s : State) : (controlPeriodEffect order s).pending = s.pending := by simp [controlPeriodEffect]
@[simp] theorem controlPeriodEffect_choices (order : List PeriodPart) (s : State) : (controlPeriodEffect order s).choices = s.choices := by simp [controlPeriodEffect]
@[simp] theorem controlPeriodEffect_power (order : List PeriodPart) (s : State) : (controlPeriodEffect order s).power = s.power := by simp [controlPeriodEffect]
@[simp] theorem controlPeriodEffect_lines (order : List PeriodPart) (s : State) : (controlPeriodEffect order s).lines = s.lines := by simp [controlPeriodEffect]
@[simp] theorem controlPeriodEffect_nv (order : List PeriodPart) (s : State) : (controlPeriodEffect order s).nv = s.nv := by simp [controlPeriodEffect]
@[simp] theorem controlPeriodEffect_table (order : List PeriodPart) (s : State) : (controlPeriodEffect order s).table = s.table := by simp [controlPeriodEffect]
@[simp] theorem controlPeriodEffect_config (order : List PeriodPart) (s : State) : (controlPeriodEffect order s).config = s.config := by simp [controlPeriodEffect]
@[simp] theorem controlPeriodEffect_ageing (order : List PeriodPart) (s : State) : (controlPeriodEffect order s).ageing = s.ageing := by simp [controlPeriodEffect]
@[simp] theorem controlPeriodEffect_outputs (order : List PeriodPart) (s : State) : (controlPeriodEffect order s).outputs = s.outputs := by simp [controlPeriodEffect]

/-! #### encoderEffect -/

@[simp] theorem encoderEffect_pending (wheel : Side) (v : Levels) (s : State) : (encoderEffect wheel v s).pending = s.pending := by
  unfold encoderEffect; try dsimp only
  repeat' (first | rfl | split | simp)
@[simp] theorem encoderEffect_choices (wheel : Side) (v : Levels) (s : State) : (encoderEffect wheel v s).choices = s.choices := by
  unfold encoderEffect; try dsimp only
  repeat' (first | rfl | split | simp)
@[simp] theorem encoderEffect_power (wheel : Side) (v : Levels) (s : State) : (encoderEffect wheel v s).power = s.power := by
  unfold encoderEffect; try dsimp only
  repeat' (first | rfl | split | simp)
@[simp] theorem encoderEffect_lines (wheel : Side) (v : Levels) (s : State) : (encoderEffect wheel v s).lines = s.lines := by
  unfold encoderEffect; try dsimp only
  repeat' (first | rfl | split | simp)
@[simp] theorem encoderEffect_nv (wheel : Side) (v : Levels) (s : State) : (encoderEffect wheel v s).nv = s.nv := by
  unfold encoderEffect; try dsimp only
  repeat' (first | rfl | split | simp)
@[simp] theorem encoderEffect_table (wheel : Side) (v : Levels) (s : State) : (encoderEffect wheel v s).table = s.table := by
  unfold encoderEffect; try dsimp only
  repeat' (first | rfl | split | simp)
@[simp] theorem encoderEffect_config (wheel : Side) (v : Levels) (s : State) : (encoderEffect wheel v s).config = s.config := by
  unfold encoderEffect; try dsimp only
  repeat' (first | rfl | split | simp)
@[simp] theorem encoderEffect_zones (wheel : Side) (v : Levels) (s : State) : (encoderEffect wheel v s).zones = s.zones := by
  unfold encoderEffect; try dsimp only
  repeat' (first | rfl | split | simp)
@[simp] theorem encoderEffect_clearance (wheel : Side) (v : Levels) (s : State) : (encoderEffect wheel v s).clearance = s.clearance := by
  unfold encoderEffect; try dsimp only
  repeat' (first | rfl | split | simp)
@[simp] theorem encoderEffect_segments (wheel : Side) (v : Levels) (s : State) : (encoderEffect wheel v s).segments = s.segments := by
  unfold encoderEffect; try dsimp only
  repeat' (first | rfl | split | simp)
@[simp] theorem encoderEffect_floor (wheel : Side) (v : Levels) (s : State) : (encoderEffect wheel v s).floor = s.floor := by
  unfold encoderEffect; try dsimp only
  repeat' (first | rfl | split | simp)
@[simp] theorem encoderEffect_ageing (wheel : Side) (v : Levels) (s : State) : (encoderEffect wheel v s).ageing = s.ageing := by
  unfold encoderEffect; try dsimp only
  repeat' (first | rfl | split | simp)
@[simp] theorem encoderEffect_dock (wheel : Side) (v : Levels) (s : State) : (encoderEffect wheel v s).dock = s.dock := by
  unfold encoderEffect; try dsimp only
  repeat' (first | rfl | split | simp)
@[simp] theorem encoderEffect_modes (wheel : Side) (v : Levels) (s : State) : (encoderEffect wheel v s).modes = s.modes := by
  unfold encoderEffect; try dsimp only
  repeat' (first | rfl | split | simp)
@[simp] theorem encoderEffect_latches (wheel : Side) (v : Levels) (s : State) : (encoderEffect wheel v s).latches = s.latches := by
  unfold encoderEffect; try dsimp only
  repeat' (first | rfl | split | simp)
@[simp] theorem encoderEffect_link (wheel : Side) (v : Levels) (s : State) : (encoderEffect wheel v s).link = s.link := by
  unfold encoderEffect; try dsimp only
  repeat' (first | rfl | split | simp)
@[simp] theorem encoderEffect_outputs (wheel : Side) (v : Levels) (s : State) : (encoderEffect wheel v s).outputs = s.outputs := by
  unfold encoderEffect; try dsimp only
  repeat' (first | rfl | split | simp)

/-! #### stallTimerEffect -/

@[simp] theorem stallTimerEffect_pending (wheel : Side) (s : State) : (stallTimerEffect wheel s).pending = s.pending := by
  unfold stallTimerEffect; try dsimp only
  repeat' (first | rfl | split | simp)
@[simp] theorem stallTimerEffect_choices (wheel : Side) (s : State) : (stallTimerEffect wheel s).choices = s.choices := by
  unfold stallTimerEffect; try dsimp only
  repeat' (first | rfl | split | simp)
@[simp] theorem stallTimerEffect_power (wheel : Side) (s : State) : (stallTimerEffect wheel s).power = s.power := by
  unfold stallTimerEffect; try dsimp only
  repeat' (first | rfl | split | simp)
@[simp] theorem stallTimerEffect_lines (wheel : Side) (s : State) : (stallTimerEffect wheel s).lines = s.lines := by
  unfold stallTimerEffect; try dsimp only
  repeat' (first | rfl | split | simp)
@[simp] theorem stallTimerEffect_nv (wheel : Side) (s : State) : (stallTimerEffect wheel s).nv = s.nv := by
  unfold stallTimerEffect; try dsimp only
  repeat' (first | rfl | split | simp)
@[simp] theorem stallTimerEffect_table (wheel : Side) (s : State) : (stallTimerEffect wheel s).table = s.table := by
  unfold stallTimerEffect; try dsimp only
  repeat' (first | rfl | split | simp)
@[simp] theorem stallTimerEffect_config (wheel : Side) (s : State) : (stallTimerEffect wheel s).config = s.config := by
  unfold stallTimerEffect; try dsimp only
  repeat' (first | rfl | split | simp)
@[simp] theorem stallTimerEffect_pose (wheel : Side) (s : State) : (stallTimerEffect wheel s).pose = s.pose := by
  unfold stallTimerEffect; try dsimp only
  repeat' (first | rfl | split | simp)
@[simp] theorem stallTimerEffect_ageing (wheel : Side) (s : State) : (stallTimerEffect wheel s).ageing = s.ageing := by
  unfold stallTimerEffect; try dsimp only
  repeat' (first | rfl | split | simp)
@[simp] theorem stallTimerEffect_link (wheel : Side) (s : State) : (stallTimerEffect wheel s).link = s.link := by
  unfold stallTimerEffect; try dsimp only
  repeat' (first | rfl | split | simp)
@[simp] theorem stallTimerEffect_outputs (wheel : Side) (s : State) : (stallTimerEffect wheel s).outputs = s.outputs := by
  unfold stallTimerEffect; try dsimp only
  repeat' (first | rfl | split | simp)

/-! #### unjamEndEffect -/

@[simp] theorem unjamEndEffect_pending (s : State) : (unjamEndEffect s).pending = s.pending := by
  unfold unjamEndEffect; try dsimp only
  repeat' (first | rfl | split | simp)
@[simp] theorem unjamEndEffect_choices (s : State) : (unjamEndEffect s).choices = s.choices := by
  unfold unjamEndEffect; try dsimp only
  repeat' (first | rfl | split | simp)
@[simp] theorem unjamEndEffect_power (s : State) : (unjamEndEffect s).power = s.power := by
  unfold unjamEndEffect; try dsimp only
  repeat' (first | rfl | split | simp)
@[simp] theorem unjamEndEffect_lines (s : State) : (unjamEndEffect s).lines = s.lines := by
  unfold unjamEndEffect; try dsimp only
  repeat' (first | rfl | split | simp)
@[simp] theorem unjamEndEffect_nv (s : State) : (unjamEndEffect s).nv = s.nv := by
  unfold unjamEndEffect; try dsimp only
  repeat' (first | rfl | split | simp)
@[simp] theorem unjamEndEffect_table (s : State) : (unjamEndEffect s).table = s.table := by
  unfold unjamEndEffect; try dsimp only
  repeat' (first | rfl | split | simp)
@[simp] theorem unjamEndEffect_config (s : State) : (unjamEndEffect s).config = s.config := by
  unfold unjamEndEffect; try dsimp only
  repeat' (first | rfl | split | simp)
@[simp] theorem unjamEndEffect_pose (s : State) : (unjamEndEffect s).pose = s.pose := by
  unfold unjamEndEffect; try dsimp only
  repeat' (first | rfl | split | simp)
@[simp] theorem unjamEndEffect_zones (s : State) : (unjamEndEffect s).zones = s.zones := by
  unfold unjamEndEffect; try dsimp only
  repeat' (first | rfl | split | simp)
@[simp] theorem unjamEndEffect_clearance (s : State) : (unjamEndEffect s).clearance = s.clearance := by
  unfold unjamEndEffect; try dsimp only
  repeat' (first | rfl | split | simp)
@[simp] theorem unjamEndEffect_floor (s : State) : (unjamEndEffect s).floor = s.floor := by
  unfold unjamEndEffect; try dsimp only
  repeat' (first | rfl | split | simp)
@[simp] theorem unjamEndEffect_ageing (s : State) : (unjamEndEffect s).ageing = s.ageing := by
  unfold unjamEndEffect; try dsimp only
  repeat' (first | rfl | split | simp)
@[simp] theorem unjamEndEffect_dock (s : State) : (unjamEndEffect s).dock = s.dock := by
  unfold unjamEndEffect; try dsimp only
  repeat' (first | rfl | split | simp)
@[simp] theorem unjamEndEffect_modes (s : State) : (unjamEndEffect s).modes = s.modes := by
  unfold unjamEndEffect; try dsimp only
  repeat' (first | rfl | split | simp)
@[simp] theorem unjamEndEffect_latches (s : State) : (unjamEndEffect s).latches = s.latches := by
  unfold unjamEndEffect; try dsimp only
  repeat' (first | rfl | split | simp)
@[simp] theorem unjamEndEffect_link (s : State) : (unjamEndEffect s).link = s.link := by
  unfold unjamEndEffect; try dsimp only
  repeat' (first | rfl | split | simp)
@[simp] theorem unjamEndEffect_outputs (s : State) : (unjamEndEffect s).outputs = s.outputs := by
  unfold unjamEndEffect; try dsimp only
  repeat' (first | rfl | split | simp)

/-! #### guardEffect -/

@[simp] theorem guardEffect_pending (wheel : Side) (s : State) : (guardEffect wheel s).pending = s.pending := by
  unfold guardEffect; try dsimp only
  repeat' (first | rfl | split | simp)
@[simp] theorem guardEffect_choices (wheel : Side) (s : State) : (guardEffect wheel s).choices = s.choices := by
  unfold guardEffect; try dsimp only
  repeat' (first | rfl | split | simp)
@[simp] theorem guardEffect_power (wheel : Side) (s : State) : (guardEffect wheel s).power = s.power := by
  unfold guardEffect; try dsimp only
  repeat' (first | rfl | split | simp)
@[simp] theorem guardEffect_lines (wheel : Side) (s : State) : (guardEffect wheel s).lines = s.lines := by
  unfold guardEffect; try dsimp only
  repeat' (first | rfl | split | simp)
@[simp] theorem guardEffect_nv (wheel : Side) (s : State) : (guardEffect wheel s).nv = s.nv := by
  unfold guardEffect; try dsimp only
  repeat' (first | rfl | split | simp)
@[simp] theorem guardEffect_table (wheel : Side) (s : State) : (guardEffect wheel s).table = s.table := by
  unfold guardEffect; try dsimp only
  repeat' (first | rfl | split | simp)
@[simp] theorem guardEffect_config (wheel : Side) (s : State) : (guardEffect wheel s).config = s.config := by
  unfold guardEffect; try dsimp only
  repeat' (first | rfl | split | simp)
@[simp] theorem guardEffect_pose (wheel : Side) (s : State) : (guardEffect wheel s).pose = s.pose := by
  unfold guardEffect; try dsimp only
  repeat' (first | rfl | split | simp)
@[simp] theorem guardEffect_ageing (wheel : Side) (s : State) : (guardEffect wheel s).ageing = s.ageing := by
  unfold guardEffect; try dsimp only
  repeat' (first | rfl | split | simp)
@[simp] theorem guardEffect_link (wheel : Side) (s : State) : (guardEffect wheel s).link = s.link := by
  unfold guardEffect; try dsimp only
  repeat' (first | rfl | split | simp)
@[simp] theorem guardEffect_outputs (wheel : Side) (s : State) : (guardEffect wheel s).outputs = s.outputs := by
  unfold guardEffect; try dsimp only
  repeat' (first | rfl | split | simp)

/-! #### cliffTrigger -/

@[simp] theorem cliffTrigger_pending (sensor : CliffSensor) (p : Int × Int) (s : State) : (cliffTrigger sensor p s).pending = s.pending := by simp [cliffTrigger]
@[simp] theorem cliffTrigger_choices (sensor : CliffSensor) (p : Int × Int) (s : State) : (cliffTrigger sensor p s).choices = s.choices := by simp [cliffTrigger]
@[simp] theorem cliffTrigger_power (sensor : CliffSensor) (p : Int × Int) (s : State) : (cliffTrigger sensor p s).power = s.power := by simp [cliffTrigger]
@[simp] theorem cliffTrigger_lines (sensor : CliffSensor) (p : Int × Int) (s : State) : (cliffTrigger sensor p s).lines = s.lines := by simp [cliffTrigger]
@[simp] theorem cliffTrigger_nv (sensor : CliffSensor) (p : Int × Int) (s : State) : (cliffTrigger sensor p s).nv = s.nv := by simp [cliffTrigger]
@[simp] theorem cliffTrigger_table (sensor : CliffSensor) (p : Int × Int) (s : State) : (cliffTrigger sensor p s).table = s.table := by simp [cliffTrigger]
@[simp] theorem cliffTrigger_config (sensor : CliffSensor) (p : Int × Int) (s : State) : (cliffTrigger sensor p s).config = s.config := by simp [cliffTrigger]
@[simp] theorem cliffTrigger_pose (sensor : CliffSensor) (p : Int × Int) (s : State) : (cliffTrigger sensor p s).pose = s.pose := by simp [cliffTrigger]
@[simp] theorem cliffTrigger_link (sensor : CliffSensor) (p : Int × Int) (s : State) : (cliffTrigger sensor p s).link = s.link := by simp [cliffTrigger]
@[simp] theorem cliffTrigger_outputs (sensor : CliffSensor) (p : Int × Int) (s : State) : (cliffTrigger sensor p s).outputs = s.outputs := by simp [cliffTrigger]

/-! #### cliffEffect -/

@[simp] theorem cliffEffect_pending (sensor : CliffSensor) (reflectance : Byte) (s : State) : (cliffEffect sensor reflectance s).pending = s.pending := by
  unfold cliffEffect; try dsimp only
  repeat' (first | rfl | split | simp)
@[simp] theorem cliffEffect_choices (sensor : CliffSensor) (reflectance : Byte) (s : State) : (cliffEffect sensor reflectance s).choices = s.choices := by
  unfold cliffEffect; try dsimp only
  repeat' (first | rfl | split | simp)
@[simp] theorem cliffEffect_power (sensor : CliffSensor) (reflectance : Byte) (s : State) : (cliffEffect sensor reflectance s).power = s.power := by
  unfold cliffEffect; try dsimp only
  repeat' (first | rfl | split | simp)
@[simp] theorem cliffEffect_lines (sensor : CliffSensor) (reflectance : Byte) (s : State) : (cliffEffect sensor reflectance s).lines = s.lines := by
  unfold cliffEffect; try dsimp only
  repeat' (first | rfl | split | simp)
@[simp] theorem cliffEffect_nv (sensor : CliffSensor) (reflectance : Byte) (s : State) : (cliffEffect sensor reflectance s).nv = s.nv := by
  unfold cliffEffect; try dsimp only
  repeat' (first | rfl | split | simp)
@[simp] theorem cliffEffect_table (sensor : CliffSensor) (reflectance : Byte) (s : State) : (cliffEffect sensor reflectance s).table = s.table := by
  unfold cliffEffect; try dsimp only
  repeat' (first | rfl | split | simp)
@[simp] theorem cliffEffect_config (sensor : CliffSensor) (reflectance : Byte) (s : State) : (cliffEffect sensor reflectance s).config = s.config := by
  unfold cliffEffect; try dsimp only
  repeat' (first | rfl | split | simp)
@[simp] theorem cliffEffect_pose (sensor : CliffSensor) (reflectance : Byte) (s : State) : (cliffEffect sensor reflectance s).pose = s.pose := by
  unfold cliffEffect; try dsimp only
  repeat' (first | rfl | split | simp)
@[simp] theorem cliffEffect_link (sensor : CliffSensor) (reflectance : Byte) (s : State) : (cliffEffect sensor reflectance s).link = s.link := by
  unfold cliffEffect; try dsimp only
  repeat' (first | rfl | split | simp)
@[simp] theorem cliffEffect_outputs (sensor : CliffSensor) (reflectance : Byte) (s : State) : (cliffEffect sensor reflectance s).outputs = s.outputs := by
  unfold cliffEffect; try dsimp only
  repeat' (first | rfl | split | simp)

/-! #### bumperLineEffect -/

@[simp] theorem bumperLineEffect_pending (side : Side) (level : Bool) (s : State) : (bumperLineEffect side level s).pending = s.pending := by
  unfold bumperLineEffect; try dsimp only
  repeat' (first | rfl | split | simp)
@[simp] theorem bumperLineEffect_choices (side : Side) (level : Bool) (s : State) : (bumperLineEffect side level s).choices = s.choices := by
  unfold bumperLineEffect; try dsimp only
  repeat' (first | rfl | split | simp)
@[simp] theorem bumperLineEffect_power (side : Side) (level : Bool) (s : State) : (bumperLineEffect side level s).power = s.power := by
  unfold bumperLineEffect; try dsimp only
  repeat' (first | rfl | split | simp)
@[simp] theorem bumperLineEffect_lines (side : Side) (level : Bool) (s : State) : (bumperLineEffect side level s).lines = s.lines := by
  unfold bumperLineEffect; try dsimp only
  repeat' (first | rfl | split | simp)
@[simp] theorem bumperLineEffect_nv (side : Side) (level : Bool) (s : State) : (bumperLineEffect side level s).nv = s.nv := by
  unfold bumperLineEffect; try dsimp only
  repeat' (first | rfl | split | simp)
@[simp] theorem bumperLineEffect_table (side : Side) (level : Bool) (s : State) : (bumperLineEffect side level s).table = s.table := by
  unfold bumperLineEffect; try dsimp only
  repeat' (first | rfl | split | simp)
@[simp] theorem bumperLineEffect_config (side : Side) (level : Bool) (s : State) : (bumperLineEffect side level s).config = s.config := by
  unfold bumperLineEffect; try dsimp only
  repeat' (first | rfl | split | simp)
@[simp] theorem bumperLineEffect_pose (side : Side) (level : Bool) (s : State) : (bumperLineEffect side level s).pose = s.pose := by
  unfold bumperLineEffect; try dsimp only
  repeat' (first | rfl | split | simp)
@[simp] theorem bumperLineEffect_zones (side : Side) (level : Bool) (s : State) : (bumperLineEffect side level s).zones = s.zones := by
  unfold bumperLineEffect; try dsimp only
  repeat' (first | rfl | split | simp)
@[simp] theorem bumperLineEffect_clearance (side : Side) (level : Bool) (s : State) : (bumperLineEffect side level s).clearance = s.clearance := by
  unfold bumperLineEffect; try dsimp only
  repeat' (first | rfl | split | simp)
@[simp] theorem bumperLineEffect_segments (side : Side) (level : Bool) (s : State) : (bumperLineEffect side level s).segments = s.segments := by
  unfold bumperLineEffect; try dsimp only
  repeat' (first | rfl | split | simp)
@[simp] theorem bumperLineEffect_drive (side : Side) (level : Bool) (s : State) : (bumperLineEffect side level s).drive = s.drive := by
  unfold bumperLineEffect; try dsimp only
  repeat' (first | rfl | split | simp)
@[simp] theorem bumperLineEffect_ageing (side : Side) (level : Bool) (s : State) : (bumperLineEffect side level s).ageing = s.ageing := by
  unfold bumperLineEffect; try dsimp only
  repeat' (first | rfl | split | simp)
@[simp] theorem bumperLineEffect_dock (side : Side) (level : Bool) (s : State) : (bumperLineEffect side level s).dock = s.dock := by
  unfold bumperLineEffect; try dsimp only
  repeat' (first | rfl | split | simp)
@[simp] theorem bumperLineEffect_modes (side : Side) (level : Bool) (s : State) : (bumperLineEffect side level s).modes = s.modes := by
  unfold bumperLineEffect; try dsimp only
  repeat' (first | rfl | split | simp)
@[simp] theorem bumperLineEffect_latches (side : Side) (level : Bool) (s : State) : (bumperLineEffect side level s).latches = s.latches := by
  unfold bumperLineEffect; try dsimp only
  repeat' (first | rfl | split | simp)
@[simp] theorem bumperLineEffect_link (side : Side) (level : Bool) (s : State) : (bumperLineEffect side level s).link = s.link := by
  unfold bumperLineEffect; try dsimp only
  repeat' (first | rfl | split | simp)
@[simp] theorem bumperLineEffect_outputs (side : Side) (level : Bool) (s : State) : (bumperLineEffect side level s).outputs = s.outputs := by
  unfold bumperLineEffect; try dsimp only
  repeat' (first | rfl | split | simp)

/-! #### bumpTrigger -/

@[simp] theorem bumpTrigger_pending (c : Contact) (s : State) : (bumpTrigger c s).pending = s.pending := by simp [bumpTrigger]
@[simp] theorem bumpTrigger_choices (c : Contact) (s : State) : (bumpTrigger c s).choices = s.choices := by simp [bumpTrigger]
@[simp] theorem bumpTrigger_power (c : Contact) (s : State) : (bumpTrigger c s).power = s.power := by simp [bumpTrigger]
@[simp] theorem bumpTrigger_lines (c : Contact) (s : State) : (bumpTrigger c s).lines = s.lines := by simp [bumpTrigger]
@[simp] theorem bumpTrigger_nv (c : Contact) (s : State) : (bumpTrigger c s).nv = s.nv := by simp [bumpTrigger]
@[simp] theorem bumpTrigger_table (c : Contact) (s : State) : (bumpTrigger c s).table = s.table := by simp [bumpTrigger]
@[simp] theorem bumpTrigger_config (c : Contact) (s : State) : (bumpTrigger c s).config = s.config := by simp [bumpTrigger]
@[simp] theorem bumpTrigger_pose (c : Contact) (s : State) : (bumpTrigger c s).pose = s.pose := by simp [bumpTrigger]
@[simp] theorem bumpTrigger_link (c : Contact) (s : State) : (bumpTrigger c s).link = s.link := by simp [bumpTrigger]
@[simp] theorem bumpTrigger_outputs (c : Contact) (s : State) : (bumpTrigger c s).outputs = s.outputs := by simp [bumpTrigger]

/-! #### pressCompleted -/

@[simp] theorem pressCompleted_pending (side : Side) (s : State) : (pressCompleted side s).pending = s.pending := by
  unfold pressCompleted; try dsimp only
  repeat' (first | rfl | split | simp)
@[simp] theorem pressCompleted_choices (side : Side) (s : State) : (pressCompleted side s).choices = s.choices := by
  unfold pressCompleted; try dsimp only
  repeat' (first | rfl | split | simp)
@[simp] theorem pressCompleted_power (side : Side) (s : State) : (pressCompleted side s).power = s.power := by
  unfold pressCompleted; try dsimp only
  repeat' (first | rfl | split | simp)
@[simp] theorem pressCompleted_lines (side : Side) (s : State) : (pressCompleted side s).lines = s.lines := by
  unfold pressCompleted; try dsimp only
  repeat' (first | rfl | split | simp)
@[simp] theorem pressCompleted_nv (side : Side) (s : State) : (pressCompleted side s).nv = s.nv := by
  unfold pressCompleted; try dsimp only
  repeat' (first | rfl | split | simp)
@[simp] theorem pressCompleted_table (side : Side) (s : State) : (pressCompleted side s).table = s.table := by
  unfold pressCompleted; try dsimp only
  repeat' (first | rfl | split | simp)
@[simp] theorem pressCompleted_config (side : Side) (s : State) : (pressCompleted side s).config = s.config := by
  unfold pressCompleted; try dsimp only
  repeat' (first | rfl | split | simp)
@[simp] theorem pressCompleted_pose (side : Side) (s : State) : (pressCompleted side s).pose = s.pose := by
  unfold pressCompleted; try dsimp only
  repeat' (first | rfl | split | simp)
@[simp] theorem pressCompleted_link (side : Side) (s : State) : (pressCompleted side s).link = s.link := by
  unfold pressCompleted; try dsimp only
  repeat' (first | rfl | split | simp)
@[simp] theorem pressCompleted_outputs (side : Side) (s : State) : (pressCompleted side s).outputs = s.outputs := by
  unfold pressCompleted; try dsimp only
  repeat' (first | rfl | split | simp)

/-! #### bumperDebounceEffect -/

@[simp] theorem bumperDebounceEffect_pending (side : Side) (s : State) : (bumperDebounceEffect side s).pending = s.pending := by
  unfold bumperDebounceEffect; try dsimp only
  repeat' (first | rfl | split | simp)
@[simp] theorem bumperDebounceEffect_choices (side : Side) (s : State) : (bumperDebounceEffect side s).choices = s.choices := by
  unfold bumperDebounceEffect; try dsimp only
  repeat' (first | rfl | split | simp)
@[simp] theorem bumperDebounceEffect_power (side : Side) (s : State) : (bumperDebounceEffect side s).power = s.power := by
  unfold bumperDebounceEffect; try dsimp only
  repeat' (first | rfl | split | simp)
@[simp] theorem bumperDebounceEffect_lines (side : Side) (s : State) : (bumperDebounceEffect side s).lines = s.lines := by
  unfold bumperDebounceEffect; try dsimp only
  repeat' (first | rfl | split | simp)
@[simp] theorem bumperDebounceEffect_nv (side : Side) (s : State) : (bumperDebounceEffect side s).nv = s.nv := by
  unfold bumperDebounceEffect; try dsimp only
  repeat' (first | rfl | split | simp)
@[simp] theorem bumperDebounceEffect_table (side : Side) (s : State) : (bumperDebounceEffect side s).table = s.table := by
  unfold bumperDebounceEffect; try dsimp only
  repeat' (first | rfl | split | simp)
@[simp] theorem bumperDebounceEffect_config (side : Side) (s : State) : (bumperDebounceEffect side s).config = s.config := by
  unfold bumperDebounceEffect; try dsimp only
  repeat' (first | rfl | split | simp)
@[simp] theorem bumperDebounceEffect_pose (side : Side) (s : State) : (bumperDebounceEffect side s).pose = s.pose := by
  unfold bumperDebounceEffect; try dsimp only
  repeat' (first | rfl | split | simp)
@[simp] theorem bumperDebounceEffect_link (side : Side) (s : State) : (bumperDebounceEffect side s).link = s.link := by
  unfold bumperDebounceEffect; try dsimp only
  repeat' (first | rfl | split | simp)
@[simp] theorem bumperDebounceEffect_outputs (side : Side) (s : State) : (bumperDebounceEffect side s).outputs = s.outputs := by
  unfold bumperDebounceEffect; try dsimp only
  repeat' (first | rfl | split | simp)

/-! #### liftLineEffect -/

@[simp] theorem liftLineEffect_pending (side : Side) (level : Bool) (s : State) : (liftLineEffect side level s).pending = s.pending := by
  unfold liftLineEffect; try dsimp only
  repeat' (first | rfl | split | simp)
@[simp] theorem liftLineEffect_choices (side : Side) (level : Bool) (s : State) : (liftLineEffect side level s).choices = s.choices := by
  unfold liftLineEffect; try dsimp only
  repeat' (first | rfl | split | simp)
@[simp] theorem liftLineEffect_power (side : Side) (level : Bool) (s : State) : (liftLineEffect side level s).power = s.power := by
  unfold liftLineEffect; try dsimp only
  repeat' (first | rfl | split | simp)
@[simp] theorem liftLineEffect_lines (side : Side) (level : Bool) (s : State) : (liftLineEffect side level s).lines = s.lines := by
  unfold liftLineEffect; try dsimp only
  repeat' (first | rfl | split | simp)
@[simp] theorem liftLineEffect_nv (side : Side) (level : Bool) (s : State) : (liftLineEffect side level s).nv = s.nv := by
  unfold liftLineEffect; try dsimp only
  repeat' (first | rfl | split | simp)
@[simp] theorem liftLineEffect_table (side : Side) (level : Bool) (s : State) : (liftLineEffect side level s).table = s.table := by
  unfold liftLineEffect; try dsimp only
  repeat' (first | rfl | split | simp)
@[simp] theorem liftLineEffect_config (side : Side) (level : Bool) (s : State) : (liftLineEffect side level s).config = s.config := by
  unfold liftLineEffect; try dsimp only
  repeat' (first | rfl | split | simp)
@[simp] theorem liftLineEffect_pose (side : Side) (level : Bool) (s : State) : (liftLineEffect side level s).pose = s.pose := by
  unfold liftLineEffect; try dsimp only
  repeat' (first | rfl | split | simp)
@[simp] theorem liftLineEffect_zones (side : Side) (level : Bool) (s : State) : (liftLineEffect side level s).zones = s.zones := by
  unfold liftLineEffect; try dsimp only
  repeat' (first | rfl | split | simp)
@[simp] theorem liftLineEffect_clearance (side : Side) (level : Bool) (s : State) : (liftLineEffect side level s).clearance = s.clearance := by
  unfold liftLineEffect; try dsimp only
  repeat' (first | rfl | split | simp)
@[simp] theorem liftLineEffect_segments (side : Side) (level : Bool) (s : State) : (liftLineEffect side level s).segments = s.segments := by
  unfold liftLineEffect; try dsimp only
  repeat' (first | rfl | split | simp)
@[simp] theorem liftLineEffect_drive (side : Side) (level : Bool) (s : State) : (liftLineEffect side level s).drive = s.drive := by
  unfold liftLineEffect; try dsimp only
  repeat' (first | rfl | split | simp)
@[simp] theorem liftLineEffect_ageing (side : Side) (level : Bool) (s : State) : (liftLineEffect side level s).ageing = s.ageing := by
  unfold liftLineEffect; try dsimp only
  repeat' (first | rfl | split | simp)
@[simp] theorem liftLineEffect_dock (side : Side) (level : Bool) (s : State) : (liftLineEffect side level s).dock = s.dock := by
  unfold liftLineEffect; try dsimp only
  repeat' (first | rfl | split | simp)
@[simp] theorem liftLineEffect_modes (side : Side) (level : Bool) (s : State) : (liftLineEffect side level s).modes = s.modes := by
  unfold liftLineEffect; try dsimp only
  repeat' (first | rfl | split | simp)
@[simp] theorem liftLineEffect_latches (side : Side) (level : Bool) (s : State) : (liftLineEffect side level s).latches = s.latches := by
  unfold liftLineEffect; try dsimp only
  repeat' (first | rfl | split | simp)
@[simp] theorem liftLineEffect_link (side : Side) (level : Bool) (s : State) : (liftLineEffect side level s).link = s.link := by
  unfold liftLineEffect; try dsimp only
  repeat' (first | rfl | split | simp)
@[simp] theorem liftLineEffect_outputs (side : Side) (level : Bool) (s : State) : (liftLineEffect side level s).outputs = s.outputs := by
  unfold liftLineEffect; try dsimp only
  repeat' (first | rfl | split | simp)

/-! #### liftDebounceEffect -/

@[simp] theorem liftDebounceEffect_pending (side : Side) (s : State) : (liftDebounceEffect side s).pending = s.pending := by
  unfold liftDebounceEffect; try dsimp only
  repeat' (first | rfl | split | simp)
@[simp] theorem liftDebounceEffect_choices (side : Side) (s : State) : (liftDebounceEffect side s).choices = s.choices := by
  unfold liftDebounceEffect; try dsimp only
  repeat' (first | rfl | split | simp)
@[simp] theorem liftDebounceEffect_power (side : Side) (s : State) : (liftDebounceEffect side s).power = s.power := by
  unfold liftDebounceEffect; try dsimp only
  repeat' (first | rfl | split | simp)
@[simp] theorem liftDebounceEffect_lines (side : Side) (s : State) : (liftDebounceEffect side s).lines = s.lines := by
  unfold liftDebounceEffect; try dsimp only
  repeat' (first | rfl | split | simp)
@[simp] theorem liftDebounceEffect_nv (side : Side) (s : State) : (liftDebounceEffect side s).nv = s.nv := by
  unfold liftDebounceEffect; try dsimp only
  repeat' (first | rfl | split | simp)
@[simp] theorem liftDebounceEffect_table (side : Side) (s : State) : (liftDebounceEffect side s).table = s.table := by
  unfold liftDebounceEffect; try dsimp only
  repeat' (first | rfl | split | simp)
@[simp] theorem liftDebounceEffect_config (side : Side) (s : State) : (liftDebounceEffect side s).config = s.config := by
  unfold liftDebounceEffect; try dsimp only
  repeat' (first | rfl | split | simp)
@[simp] theorem liftDebounceEffect_pose (side : Side) (s : State) : (liftDebounceEffect side s).pose = s.pose := by
  unfold liftDebounceEffect; try dsimp only
  repeat' (first | rfl | split | simp)
@[simp] theorem liftDebounceEffect_zones (side : Side) (s : State) : (liftDebounceEffect side s).zones = s.zones := by
  unfold liftDebounceEffect; try dsimp only
  repeat' (first | rfl | split | simp)
@[simp] theorem liftDebounceEffect_clearance (side : Side) (s : State) : (liftDebounceEffect side s).clearance = s.clearance := by
  unfold liftDebounceEffect; try dsimp only
  repeat' (first | rfl | split | simp)
@[simp] theorem liftDebounceEffect_ageing (side : Side) (s : State) : (liftDebounceEffect side s).ageing = s.ageing := by
  unfold liftDebounceEffect; try dsimp only
  repeat' (first | rfl | split | simp)
@[simp] theorem liftDebounceEffect_link (side : Side) (s : State) : (liftDebounceEffect side s).link = s.link := by
  unfold liftDebounceEffect; try dsimp only
  repeat' (first | rfl | split | simp)
@[simp] theorem liftDebounceEffect_outputs (side : Side) (s : State) : (liftDebounceEffect side s).outputs = s.outputs := by
  unfold liftDebounceEffect; try dsimp only
  repeat' (first | rfl | split | simp)

/-! #### observationEffect -/

@[simp] theorem observationEffect_pending (s : State) : (observationEffect s).pending = s.pending := by unfold observationEffect; split <;> simp
@[simp] theorem observationEffect_choices (s : State) : (observationEffect s).choices = s.choices := by unfold observationEffect; split <;> simp
@[simp] theorem observationEffect_power (s : State) : (observationEffect s).power = s.power := by unfold observationEffect; split <;> simp
@[simp] theorem observationEffect_lines (s : State) : (observationEffect s).lines = s.lines := by unfold observationEffect; split <;> simp
@[simp] theorem observationEffect_nv (s : State) : (observationEffect s).nv = s.nv := by unfold observationEffect; split <;> simp
@[simp] theorem observationEffect_config (s : State) : (observationEffect s).config = s.config := by unfold observationEffect; split <;> simp
@[simp] theorem observationEffect_pose (s : State) : (observationEffect s).pose = s.pose := by unfold observationEffect; split <;> simp
@[simp] theorem observationEffect_outputs (s : State) : (observationEffect s).outputs = s.outputs := by unfold observationEffect; split <;> simp

/-! #### ageingPass -/

@[simp] theorem ageingPass_pending (s : State) : (ageingPass s).pending = s.pending := by unfold ageingPass; split; rw [foldl_offer_frame]; simp; rfl
@[simp] theorem ageingPass_choices (s : State) : (ageingPass s).choices = s.choices := by unfold ageingPass; split; rw [foldl_offer_frame]; simp; rfl
@[simp] theorem ageingPass_power (s : State) : (ageingPass s).power = s.power := by unfold ageingPass; split; rw [foldl_offer_frame]; simp; rfl
@[simp] theorem ageingPass_lines (s : State) : (ageingPass s).lines = s.lines := by unfold ageingPass; split; rw [foldl_offer_frame]; simp; rfl
@[simp] theorem ageingPass_nv (s : State) : (ageingPass s).nv = s.nv := by unfold ageingPass; split; rw [foldl_offer_frame]; simp; rfl
@[simp] theorem ageingPass_config (s : State) : (ageingPass s).config = s.config := by unfold ageingPass; split; rw [foldl_offer_frame]; simp; rfl
@[simp] theorem ageingPass_pose (s : State) : (ageingPass s).pose = s.pose := by unfold ageingPass; split; rw [foldl_offer_frame]; simp; rfl
@[simp] theorem ageingPass_ageing (s : State) : (ageingPass s).ageing = s.ageing := by unfold ageingPass; split; rw [foldl_offer_frame]; simp; rfl
@[simp] theorem ageingPass_outputs (s : State) : (ageingPass s).outputs = s.outputs := by unfold ageingPass; split; rw [foldl_offer_frame]; simp; rfl

/-! #### ageingEffect -/

@[simp] theorem ageingEffect_pending (s : State) : (ageingEffect s).pending = s.pending := by
  unfold ageingEffect; try dsimp only
  repeat' (first | rfl | split | simp)
@[simp] theorem ageingEffect_choices (s : State) : (ageingEffect s).choices = s.choices := by
  unfold ageingEffect; try dsimp only
  repeat' (first | rfl | split | simp)
@[simp] theorem ageingEffect_power (s : State) : (ageingEffect s).power = s.power := by
  unfold ageingEffect; try dsimp only
  repeat' (first | rfl | split | simp)
@[simp] theorem ageingEffect_lines (s : State) : (ageingEffect s).lines = s.lines := by
  unfold ageingEffect; try dsimp only
  repeat' (first | rfl | split | simp)
@[simp] theorem ageingEffect_nv (s : State) : (ageingEffect s).nv = s.nv := by
  unfold ageingEffect; try dsimp only
  repeat' (first | rfl | split | simp)
@[simp] theorem ageingEffect_config (s : State) : (ageingEffect s).config = s.config := by
  unfold ageingEffect; try dsimp only
  repeat' (first | rfl | split | simp)
@[simp] theorem ageingEffect_pose (s : State) : (ageingEffect s).pose = s.pose := by
  unfold ageingEffect; try dsimp only
  repeat' (first | rfl | split | simp)
@[simp] theorem ageingEffect_outputs (s : State) : (ageingEffect s).outputs = s.outputs := by
  unfold ageingEffect; try dsimp only
  repeat' (first | rfl | split | simp)

/-! #### contactMakeEffect -/

@[simp] theorem contactMakeEffect_pending (s : State) : (contactMakeEffect s).pending = s.pending := by
  unfold contactMakeEffect; try dsimp only
  repeat' (first | rfl | split | simp)
@[simp] theorem contactMakeEffect_choices (s : State) : (contactMakeEffect s).choices = s.choices := by
  unfold contactMakeEffect; try dsimp only
  repeat' (first | rfl | split | simp)
@[simp] theorem contactMakeEffect_power (s : State) : (contactMakeEffect s).power = s.power := by
  unfold contactMakeEffect; try dsimp only
  repeat' (first | rfl | split | simp)
@[simp] theorem contactMakeEffect_lines (s : State) : (contactMakeEffect s).lines = s.lines := by
  unfold contactMakeEffect; try dsimp only
  repeat' (first | rfl | split | simp)
@[simp] theorem contactMakeEffect_nv (s : State) : (contactMakeEffect s).nv = s.nv := by
  unfold contactMakeEffect; try dsimp only
  repeat' (first | rfl | split | simp)
@[simp] theorem contactMakeEffect_table (s : State) : (contactMakeEffect s).table = s.table := by
  unfold contactMakeEffect; try dsimp only
  repeat' (first | rfl | split | simp)
@[simp] theorem contactMakeEffect_config (s : State) : (contactMakeEffect s).config = s.config := by
  unfold contactMakeEffect; try dsimp only
  repeat' (first | rfl | split | simp)
@[simp] theorem contactMakeEffect_pose (s : State) : (contactMakeEffect s).pose = s.pose := by
  unfold contactMakeEffect; try dsimp only
  repeat' (first | rfl | split | simp)
@[simp] theorem contactMakeEffect_zones (s : State) : (contactMakeEffect s).zones = s.zones := by
  unfold contactMakeEffect; try dsimp only
  repeat' (first | rfl | split | simp)
@[simp] theorem contactMakeEffect_clearance (s : State) : (contactMakeEffect s).clearance = s.clearance := by
  unfold contactMakeEffect; try dsimp only
  repeat' (first | rfl | split | simp)
@[simp] theorem contactMakeEffect_segments (s : State) : (contactMakeEffect s).segments = s.segments := by
  unfold contactMakeEffect; try dsimp only
  repeat' (first | rfl | split | simp)
@[simp] theorem contactMakeEffect_drive (s : State) : (contactMakeEffect s).drive = s.drive := by
  unfold contactMakeEffect; try dsimp only
  repeat' (first | rfl | split | simp)
@[simp] theorem contactMakeEffect_floor (s : State) : (contactMakeEffect s).floor = s.floor := by
  unfold contactMakeEffect; try dsimp only
  repeat' (first | rfl | split | simp)
@[simp] theorem contactMakeEffect_ageing (s : State) : (contactMakeEffect s).ageing = s.ageing := by
  unfold contactMakeEffect; try dsimp only
  repeat' (first | rfl | split | simp)
@[simp] theorem contactMakeEffect_modes (s : State) : (contactMakeEffect s).modes = s.modes := by
  unfold contactMakeEffect; try dsimp only
  repeat' (first | rfl | split | simp)
@[simp] theorem contactMakeEffect_latches (s : State) : (contactMakeEffect s).latches = s.latches := by
  unfold contactMakeEffect; try dsimp only
  repeat' (first | rfl | split | simp)
@[simp] theorem contactMakeEffect_link (s : State) : (contactMakeEffect s).link = s.link := by
  unfold contactMakeEffect; try dsimp only
  repeat' (first | rfl | split | simp)
@[simp] theorem contactMakeEffect_outputs (s : State) : (contactMakeEffect s).outputs = s.outputs := by
  unfold contactMakeEffect; try dsimp only
  repeat' (first | rfl | split | simp)

/-! #### contactBreakEffect -/

@[simp] theorem contactBreakEffect_pending (s : State) : (contactBreakEffect s).pending = s.pending := by
  unfold contactBreakEffect; try dsimp only
  repeat' (first | rfl | split | simp)
@[simp] theorem contactBreakEffect_choices (s : State) : (contactBreakEffect s).choices = s.choices := by
  unfold contactBreakEffect; try dsimp only
  repeat' (first | rfl | split | simp)
@[simp] theorem contactBreakEffect_power (s : State) : (contactBreakEffect s).power = s.power := by
  unfold contactBreakEffect; try dsimp only
  repeat' (first | rfl | split | simp)
@[simp] theorem contactBreakEffect_lines (s : State) : (contactBreakEffect s).lines = s.lines := by
  unfold contactBreakEffect; try dsimp only
  repeat' (first | rfl | split | simp)
@[simp] theorem contactBreakEffect_nv (s : State) : (contactBreakEffect s).nv = s.nv := by
  unfold contactBreakEffect; try dsimp only
  repeat' (first | rfl | split | simp)
@[simp] theorem contactBreakEffect_table (s : State) : (contactBreakEffect s).table = s.table := by
  unfold contactBreakEffect; try dsimp only
  repeat' (first | rfl | split | simp)
@[simp] theorem contactBreakEffect_config (s : State) : (contactBreakEffect s).config = s.config := by
  unfold contactBreakEffect; try dsimp only
  repeat' (first | rfl | split | simp)
@[simp] theorem contactBreakEffect_pose (s : State) : (contactBreakEffect s).pose = s.pose := by
  unfold contactBreakEffect; try dsimp only
  repeat' (first | rfl | split | simp)
@[simp] theorem contactBreakEffect_zones (s : State) : (contactBreakEffect s).zones = s.zones := by
  unfold contactBreakEffect; try dsimp only
  repeat' (first | rfl | split | simp)
@[simp] theorem contactBreakEffect_clearance (s : State) : (contactBreakEffect s).clearance = s.clearance := by
  unfold contactBreakEffect; try dsimp only
  repeat' (first | rfl | split | simp)
@[simp] theorem contactBreakEffect_segments (s : State) : (contactBreakEffect s).segments = s.segments := by
  unfold contactBreakEffect; try dsimp only
  repeat' (first | rfl | split | simp)
@[simp] theorem contactBreakEffect_drive (s : State) : (contactBreakEffect s).drive = s.drive := by
  unfold contactBreakEffect; try dsimp only
  repeat' (first | rfl | split | simp)
@[simp] theorem contactBreakEffect_floor (s : State) : (contactBreakEffect s).floor = s.floor := by
  unfold contactBreakEffect; try dsimp only
  repeat' (first | rfl | split | simp)
@[simp] theorem contactBreakEffect_ageing (s : State) : (contactBreakEffect s).ageing = s.ageing := by
  unfold contactBreakEffect; try dsimp only
  repeat' (first | rfl | split | simp)
@[simp] theorem contactBreakEffect_modes (s : State) : (contactBreakEffect s).modes = s.modes := by
  unfold contactBreakEffect; try dsimp only
  repeat' (first | rfl | split | simp)
@[simp] theorem contactBreakEffect_outputs (s : State) : (contactBreakEffect s).outputs = s.outputs := by
  unfold contactBreakEffect; try dsimp only
  repeat' (first | rfl | split | simp)

/-! #### handDocked -/

@[simp] theorem handDocked_pending (s : State) : (handDocked s).pending = s.pending := by unfold handDocked; split; split <;> simp; rfl
@[simp] theorem handDocked_choices (s : State) : (handDocked s).choices = s.choices := by unfold handDocked; split; split <;> simp; rfl
@[simp] theorem handDocked_power (s : State) : (handDocked s).power = s.power := by unfold handDocked; split; split <;> simp; rfl
@[simp] theorem handDocked_lines (s : State) : (handDocked s).lines = s.lines := by unfold handDocked; split; split <;> simp; rfl
@[simp] theorem handDocked_nv (s : State) : (handDocked s).nv = s.nv := by unfold handDocked; split; split <;> simp; rfl
@[simp] theorem handDocked_table (s : State) : (handDocked s).table = s.table := by unfold handDocked; split; split <;> simp; rfl
@[simp] theorem handDocked_config (s : State) : (handDocked s).config = s.config := by unfold handDocked; split; split <;> simp; rfl
@[simp] theorem handDocked_pose (s : State) : (handDocked s).pose = s.pose := by unfold handDocked; split; split <;> simp; rfl
@[simp] theorem handDocked_zones (s : State) : (handDocked s).zones = s.zones := by unfold handDocked; split; split <;> simp; rfl
@[simp] theorem handDocked_clearance (s : State) : (handDocked s).clearance = s.clearance := by unfold handDocked; split; split <;> simp; rfl
@[simp] theorem handDocked_ageing (s : State) : (handDocked s).ageing = s.ageing := by unfold handDocked; split; split <;> simp; rfl
@[simp] theorem handDocked_dock (s : State) : (handDocked s).dock = s.dock := by unfold handDocked; split; split <;> simp; rfl
@[simp] theorem handDocked_modes (s : State) : (handDocked s).modes = s.modes := by unfold handDocked; split; split <;> simp; rfl
@[simp] theorem handDocked_latches (s : State) : (handDocked s).latches = s.latches := by unfold handDocked; split; split <;> simp; rfl
@[simp] theorem handDocked_link (s : State) : (handDocked s).link = s.link := by unfold handDocked; split; split <;> simp; rfl
@[simp] theorem handDocked_outputs (s : State) : (handDocked s).outputs = s.outputs := by unfold handDocked; split; split <;> simp; rfl

/-! #### completeMake -/

@[simp] theorem completeMake_pending (s : State) : (completeMake s).pending = s.pending := by simp [completeMake]
@[simp] theorem completeMake_choices (s : State) : (completeMake s).choices = s.choices := by simp [completeMake]
@[simp] theorem completeMake_power (s : State) : (completeMake s).power = s.power := by simp [completeMake]
@[simp] theorem completeMake_lines (s : State) : (completeMake s).lines = s.lines := by simp [completeMake]
@[simp] theorem completeMake_nv (s : State) : (completeMake s).nv = s.nv := by simp [completeMake]
@[simp] theorem completeMake_table (s : State) : (completeMake s).table = s.table := by simp [completeMake]
@[simp] theorem completeMake_config (s : State) : (completeMake s).config = s.config := by simp [completeMake]
@[simp] theorem completeMake_pose (s : State) : (completeMake s).pose = s.pose := by simp [completeMake]
@[simp] theorem completeMake_zones (s : State) : (completeMake s).zones = s.zones := by simp [completeMake]
@[simp] theorem completeMake_clearance (s : State) : (completeMake s).clearance = s.clearance := by simp [completeMake]
@[simp] theorem completeMake_ageing (s : State) : (completeMake s).ageing = s.ageing := by simp [completeMake]
@[simp] theorem completeMake_modes (s : State) : (completeMake s).modes = s.modes := by simp [completeMake]
@[simp] theorem completeMake_outputs (s : State) : (completeMake s).outputs = s.outputs := by simp [completeMake]

/-! #### dockSettleEffect -/

@[simp] theorem dockSettleEffect_pending (s : State) : (dockSettleEffect s).pending = s.pending := by
  unfold dockSettleEffect; try dsimp only
  repeat' (first | rfl | split | simp)
@[simp] theorem dockSettleEffect_choices (s : State) : (dockSettleEffect s).choices = s.choices := by
  unfold dockSettleEffect; try dsimp only
  repeat' (first | rfl | split | simp)
@[simp] theorem dockSettleEffect_power (s : State) : (dockSettleEffect s).power = s.power := by
  unfold dockSettleEffect; try dsimp only
  repeat' (first | rfl | split | simp)
@[simp] theorem dockSettleEffect_lines (s : State) : (dockSettleEffect s).lines = s.lines := by
  unfold dockSettleEffect; try dsimp only
  repeat' (first | rfl | split | simp)
@[simp] theorem dockSettleEffect_nv (s : State) : (dockSettleEffect s).nv = s.nv := by
  unfold dockSettleEffect; try dsimp only
  repeat' (first | rfl | split | simp)
@[simp] theorem dockSettleEffect_table (s : State) : (dockSettleEffect s).table = s.table := by
  unfold dockSettleEffect; try dsimp only
  repeat' (first | rfl | split | simp)
@[simp] theorem dockSettleEffect_config (s : State) : (dockSettleEffect s).config = s.config := by
  unfold dockSettleEffect; try dsimp only
  repeat' (first | rfl | split | simp)
@[simp] theorem dockSettleEffect_pose (s : State) : (dockSettleEffect s).pose = s.pose := by
  unfold dockSettleEffect; try dsimp only
  repeat' (first | rfl | split | simp)
@[simp] theorem dockSettleEffect_ageing (s : State) : (dockSettleEffect s).ageing = s.ageing := by
  unfold dockSettleEffect; try dsimp only
  repeat' (first | rfl | split | simp)
@[simp] theorem dockSettleEffect_outputs (s : State) : (dockSettleEffect s).outputs = s.outputs := by
  unfold dockSettleEffect; try dsimp only
  repeat' (first | rfl | split | simp)

/-! #### undockWaitEffect -/

@[simp] theorem undockWaitEffect_pending (s : State) : (undockWaitEffect s).pending = s.pending := by
  unfold undockWaitEffect; try dsimp only
  repeat' (first | rfl | split | simp)
@[simp] theorem undockWaitEffect_choices (s : State) : (undockWaitEffect s).choices = s.choices := by
  unfold undockWaitEffect; try dsimp only
  repeat' (first | rfl | split | simp)
@[simp] theorem undockWaitEffect_power (s : State) : (undockWaitEffect s).power = s.power := by
  unfold undockWaitEffect; try dsimp only
  repeat' (first | rfl | split | simp)
@[simp] theorem undockWaitEffect_lines (s : State) : (undockWaitEffect s).lines = s.lines := by
  unfold undockWaitEffect; try dsimp only
  repeat' (first | rfl | split | simp)
@[simp] theorem undockWaitEffect_nv (s : State) : (undockWaitEffect s).nv = s.nv := by
  unfold undockWaitEffect; try dsimp only
  repeat' (first | rfl | split | simp)
@[simp] theorem undockWaitEffect_table (s : State) : (undockWaitEffect s).table = s.table := by
  unfold undockWaitEffect; try dsimp only
  repeat' (first | rfl | split | simp)
@[simp] theorem undockWaitEffect_config (s : State) : (undockWaitEffect s).config = s.config := by
  unfold undockWaitEffect; try dsimp only
  repeat' (first | rfl | split | simp)
@[simp] theorem undockWaitEffect_pose (s : State) : (undockWaitEffect s).pose = s.pose := by
  unfold undockWaitEffect; try dsimp only
  repeat' (first | rfl | split | simp)
@[simp] theorem undockWaitEffect_ageing (s : State) : (undockWaitEffect s).ageing = s.ageing := by
  unfold undockWaitEffect; try dsimp only
  repeat' (first | rfl | split | simp)
@[simp] theorem undockWaitEffect_link (s : State) : (undockWaitEffect s).link = s.link := by
  unfold undockWaitEffect; try dsimp only
  repeat' (first | rfl | split | simp)
@[simp] theorem undockWaitEffect_outputs (s : State) : (undockWaitEffect s).outputs = s.outputs := by
  unfold undockWaitEffect; try dsimp only
  repeat' (first | rfl | split | simp)

end Sys2Proof.Machine
end

