-- ==== Sys2Proof/Laws/Exec.lean ====
section
/-! SUPPORT. How a request and an event reach their effect, and what is enough for a property to be kept by every
step. -/

namespace Sys2Proof.Machine

/-! ### Requests and events by the power phase -/

theorem onRequest_ready (act : State → State) (s : State) (h : s.power = .ready) :
    onRequest act s = .next (refresh (act (acceptFrame s))) := by simp [onRequest, h]

theorem onRequest_startUp (act : State → State) (s : State) (n : Nat) (h : s.power = .startUp n) :
    onRequest act s = .next (discardInStartUp 20 s) := by simp [onRequest, h]

theorem onRequest_off (act : State → State) (s : State) (h : s.power = .off) :
    onRequest act s = .next s := by simp [onRequest, h]

theorem onEvent_ready (act : State → State) (s : State) (h : s.power = .ready) :
    onEvent act s = .next (refresh (act s)) := by simp [onEvent, h]

theorem onEvent_unready (act : State → State) (s : State) (h : s.power ≠ .ready) :
    onEvent act s = .next s := by unfold onEvent; split <;> simp_all

theorem onLine_ready (change : Lines → Lines) (act : State → State) (s : State) (h : s.power = .ready) :
    onLine change act s = .next (refresh (act { s with lines := change s.lines })) := by
  simp [onLine, onEvent, h]

theorem onLine_unready (change : Lines → Lines) (act : State → State) (s : State) (h : s.power ≠ .ready) :
    onLine change act s = .next { s with lines := change s.lines } :=
  onEvent_unready act { s with lines := change s.lines } h

/-! ### Properties kept -/

section Keeps

variable {p : State → Prop}

theorem onRequest_keeps (hacc : ∀ s, p s → p (acceptFrame s)) (hout : ∀ s, p s → p (refresh s))
    (hdis : ∀ s, p s → p (discardInStartUp 20 s)) {act : State → State} (hact : ∀ s, p s → p (act s))
    {s t : State} (hs : p s) (h : onRequest act s = .next t) : p t := by
  unfold onRequest at h
  split at h <;> cases h
  · exact hout _ (hact _ (hacc _ hs))
  · exact hdis _ hs
  · exact hs

theorem onEvent_keeps (hout : ∀ s, p s → p (refresh s)) {act : State → State} (hact : ∀ s, p s → p (act s))
    {s t : State} (hs : p s) (h : onEvent act s = .next t) : p t := by
  unfold onEvent at h
  split at h <;> cases h
  · exact hout _ (hact _ hs)
  · exact hs

theorem onLine_keeps (hout : ∀ s, p s → p (refresh s)) (hline : ∀ s l, p s → p { s with lines := l })
    {change : Lines → Lines} {act : State → State} (hact : ∀ s, p s → p (act s))
    {s t : State} (hs : p s) (h : onLine change act s = .next t) : p t :=
  onEvent_keeps hout hact (hline _ _ hs) h

/-- A property that reads neither the queue of commands nor the count of free values is kept by every step when every
command and the passing of a millisecond keep it. -/
theorem keptByStep_of_exec (hpend : ∀ s l, p s → p { s with pending := l })
    (hch : ∀ s n, p s → p { s with choices := n }) (hexec : ∀ c s t, p s → exec c s = .next t → p t)
    (htick : ∀ s, p s → p (tick s)) : KeptByStep p := by
  intro s t hs h
  unfold step at h
  split at h
  · exact hexec _ _ _ (hpend _ _ hs) h
  · unfold idleStep at h
    split at h
    · exact hexec _ _ _ (hch _ _ hs) h
    · cases h; exact htick _ hs

end Keeps

end Sys2Proof.Machine
end

