-- ==== Sys2Proof/Laws/Settle.lean ====
section
/-! SUPPORT. What settling does: nothing in a settled state, and in particular nothing to an idle part. -/

namespace Sys2Proof.Machine

theorem settleLoop_of_done (n : Nat) (s : State) (h1 : s.canWrite = false) (h2 : s.canStart = false) :
    settleLoop n s = s := by
  cases n <;> simp [settleLoop, h1, h2]

theorem parkIfDrained_of_not (s : State) (h : ¬ (s.modes.mode = .parking ∧ s.drained = true)) :
    parkIfDrained s = s := by
  unfold parkIfDrained; simp [h]

theorem settle_of_settled (s : State) (h : Settled s) : settle s = s := by
  unfold settle
  rw [settleLoop_of_done _ s h.no_write h.no_start, parkIfDrained_of_not s h.no_park]

theorem canWrite_of_no_running (s : State) (h : s.segments.running = none) : s.canWrite = false := by
  simp [State.canWrite, h]

theorem canStart_of_no_queue (s : State) (h : s.segments.queue = []) : s.canStart = false := by
  simp [State.canStart, h]

theorem canStart_of_running (s : State) (c : Context) (h : s.segments.running = some c) : s.canStart = false := by
  simp [State.canStart, h]

theorem canStart_of_mode (s : State) (h1 : s.modes.mode ≠ .active) (h2 : s.modes.mode ≠ .parking) :
    s.canStart = false := by
  simp [State.canStart, h1, h2]

theorem canWrite_of_no_cause (s : State) (c : Context) (h : s.segments.running = some c) (hc : c.cause = none) :
    s.canWrite = false := by
  simp [State.canWrite, h, hc]

theorem canWrite_of_moving (s : State) (h : s.atRest = false) : s.canWrite = false := by
  unfold State.canWrite; split <;> simp [h]

theorem canWrite_of_result_pending (s : State) (h : s.floor.resultPending = true) : s.canWrite = false := by
  unfold State.canWrite; split <;> simp [h]

theorem not_drained_of_queue (s : State) (h : s.segments.queue ≠ []) : ¬ (s.modes.mode = .parking ∧ s.drained = true) := by
  simp [State.drained, h]

theorem settled_of_idle (s : State) (h : Idle s) : Settled s :=
  ⟨canWrite_of_no_running s h.no_running, canStart_of_no_queue s h.no_queue, fun hp => h.not_parking hp.1⟩

theorem settle_of_idle (s : State) (h : Idle s) : settle s = s := settle_of_settled s (settled_of_idle s h)

/-- A running segment without an end cause keeps everything as it is. -/
theorem settle_of_no_cause (s : State) (c : Context) (h : s.segments.running = some c) (hc : c.cause = none)
    (hq : s.segments.queue ≠ []) : settle s = s :=
  settle_of_settled s ⟨canWrite_of_no_cause s c h hc, canStart_of_running s c h, not_drained_of_queue s hq⟩

/-- A running segment whose wheels still turn keeps everything as it is. -/
theorem settle_of_moving (s : State) (c : Context) (h : s.segments.running = some c) (hm : s.atRest = false)
    (hq : s.segments.queue ≠ []) : settle s = s :=
  settle_of_settled s ⟨canWrite_of_moving s hm, canStart_of_running s c h, not_drained_of_queue s hq⟩

/-! ### What one settling step does to the queues -/

theorem writeRecord_running (s : State) (h : s.canWrite = true) : (writeRecord s).segments.running = none := by
  unfold State.canWrite at h
  unfold writeRecord
  split at h
  · rename_i c hc
    simp only [Bool.and_eq_true] at h
    obtain ⟨cause, hcause⟩ := Option.isSome_iff_exists.mp h.1.1.1.1
    simp [hcause]
  · cases h

theorem writeRecord_queue (s : State) (h : s.canWrite = true) :
    (writeRecord s).segments.queue = s.segments.queue.tail := by
  unfold State.canWrite at h
  unfold writeRecord
  split at h
  · rename_i c hc
    simp only [Bool.and_eq_true] at h
    obtain ⟨cause, hcause⟩ := Option.isSome_iff_exists.mp h.1.1.1.1
    simp [hcause]
  · cases h

@[simp] theorem handCause_queue (kind : EndKind) (record : Option Ref) (s : State) :
    (handCause kind record s).segments.queue = s.segments.queue := by
  unfold handCause; repeat' (first | rfl | split)

@[simp] theorem handCause_completions (kind : EndKind) (record : Option Ref) (s : State) :
    (handCause kind record s).segments.completions = s.segments.completions := by
  unfold handCause; repeat' (first | rfl | split)

@[simp] theorem handCause_segment (kind : EndKind) (record : Option Ref) (s : State) :
    (handCause kind record s).segments.running.map Context.segment = s.segments.running.map Context.segment := by
  unfold handCause
  split
  · rename_i h; simp [h]
  · rename_i c h
    split
    · dsimp only; split <;> simp [h, withCause]
    · simp [h]

@[simp] theorem handPending_queue (p : PendingCause) (s : State) :
    (handPending p s).segments.queue = s.segments.queue := by cases p <;> simp [handPending]

@[simp] theorem handPending_completions (p : PendingCause) (s : State) :
    (handPending p s).segments.completions = s.segments.completions := by cases p <;> simp [handPending]

@[simp] theorem handPending_segment (p : PendingCause) (s : State) :
    (handPending p s).segments.running.map Context.segment = s.segments.running.map Context.segment := by
  cases p <;> simp [handPending]

@[simp] theorem evaluate_queue (s : State) : (evaluate s).segments.queue = s.segments.queue := by
  unfold evaluate; split <;> simp

@[simp] theorem evaluate_completions (s : State) : (evaluate s).segments.completions = s.segments.completions := by
  unfold evaluate; split <;> simp

@[simp] theorem evaluate_segment (s : State) :
    (evaluate s).segments.running.map Context.segment = s.segments.running.map Context.segment := by
  unfold evaluate; split <;> simp

@[simp] theorem tableChanged_queue (s : State) : (tableChanged s).segments.queue = s.segments.queue := by
  simp [tableChanged]

@[simp] theorem tableChanged_completions (s : State) :
    (tableChanged s).segments.completions = s.segments.completions := by simp [tableChanged]

@[simp] theorem tableChanged_segment (s : State) :
    (tableChanged s).segments.running.map Context.segment = s.segments.running.map Context.segment := by
  simp [tableChanged]

@[simp] theorem dockedAtStart_queue (m : Motion) (s : State) :
    (dockedAtStart m s).segments.queue = s.segments.queue := by unfold dockedAtStart; split <;> simp

@[simp] theorem dockedAtStart_completions (m : Motion) (s : State) :
    (dockedAtStart m s).segments.completions = s.segments.completions := by unfold dockedAtStart; split <;> simp

@[simp] theorem dockedAtStart_segment (m : Motion) (s : State) :
    (dockedAtStart m s).segments.running.map Context.segment = s.segments.running.map Context.segment := by
  unfold dockedAtStart; split <;> simp

@[simp] theorem startSegment_queue (s : State) : (startSegment s).segments.queue = s.segments.queue := by
  unfold startSegment; split <;> simp [openContext]

@[simp] theorem startSegment_completions (s : State) :
    (startSegment s).segments.completions = s.segments.completions := by
  unfold startSegment; split <;> simp [openContext]

/-- The start of a segment makes the head of the queue the running segment. -/
theorem startSegment_segment (s : State) (g : Segment) (rest : List Segment) (h : s.segments.queue = g :: rest) :
    (startSegment s).segments.running.map Context.segment = some g := by
  unfold startSegment; simp [h, openContext]

/-! ### The queues through settling -/

theorem segmentsOk_of_same {g h : Segments} (hg : SegmentsOk g) (hq : h.queue = g.queue)
    (hc : h.completions = g.completions)
    (hr : h.running.map Context.segment = g.running.map Context.segment) : SegmentsOk h where
  queue_le := hq ▸ hg.queue_le
  sum_le := hq ▸ hc ▸ hg.sum_le
  tags_distinct := hq ▸ hg.tags_distinct
  running_head := by rw [hq, hr]; exact hg.running_head

/-- A running segment stands at the head of the queue. -/
theorem SegmentsOk.queue_of_running {g : Segments} (hg : SegmentsOk g) {c : Context} (h : g.running = some c) :
    ∃ rest, g.queue = c.segment :: rest := by
  have := hg.running_head c.segment (by simp [h])
  cases hq : g.queue with
  | nil => simp [hq] at this
  | cons x xs => simp [hq] at this; exact ⟨xs, by rw [this]⟩

theorem running_of_canWrite (s : State) (h : s.canWrite = true) : ∃ c, s.segments.running = some c := by
  unfold State.canWrite at h
  split at h
  · rename_i c hc; exact ⟨c, hc⟩
  · cases h

theorem writeRecord_ok (s : State) (hs : SegmentsOk s.segments) : SegmentsOk (writeRecord s).segments := by
  unfold writeRecord
  split
  · rename_i c hc
    split
    · obtain ⟨rest, hq⟩ := hs.queue_of_running hc
      have h1 := hs.queue_le
      have h2 := hs.sum_le
      have h3 := hs.tags_distinct
      simp only [hq, List.length_cons, List.map_cons, List.nodup_cons] at h1 h2 h3
      refine ⟨?_, ?_, ?_, ?_⟩ <;> simp only [hq, List.tail_cons, List.length_append, List.length_cons, List.length_nil]
      · omega
      · omega
      · exact h3.2
      · simp
    · exact hs
  · exact hs

theorem startSegment_ok (s : State) (hs : SegmentsOk s.segments) : SegmentsOk (startSegment s).segments where
  queue_le := by simpa using hs.queue_le
  sum_le := by simpa using hs.sum_le
  tags_distinct := by simpa using hs.tags_distinct
  running_head := by
    cases hq : s.segments.queue with
    | nil =>
      have : startSegment s = s := by simp [startSegment, hq]
      rw [this, hq]; intro x hx
      have := hs.running_head x hx
      simp [hq] at this
    | cons g rest =>
      intro x hx
      rw [startSegment_segment s g rest hq] at hx
      simp [hq] at hx ⊢
      exact hx

theorem settleOnce_ok (s : State) (hs : SegmentsOk s.segments) : SegmentsOk (settleOnce s).segments := by
  unfold settleOnce
  split
  · simpa using writeRecord_ok s hs
  · split
    · exact startSegment_ok s hs
    · exact hs

theorem settleLoop_ok (n : Nat) (s : State) (hs : SegmentsOk s.segments) : SegmentsOk (settleLoop n s).segments := by
  induction n generalizing s with
  | zero => exact hs
  | succ n ih =>
    simp only [settleLoop]
    split
    · exact ih _ (settleOnce_ok s hs)
    · exact hs

theorem settle_ok (s : State) (hs : SegmentsOk s.segments) : SegmentsOk (settle s).segments := by
  simpa [settle] using settleLoop_ok _ s hs

end Sys2Proof.Machine
end

