-- ==== Sys2Proof/Laws/Queues.lean ====
section
/-! SUPPORT. What keeps the queues sound (R73, R75, R84, R85, R100): each shared operation on its own. -/

namespace Sys2Proof.Machine

/-- A transition enters its mode. -/
theorem enterMode_mode (m s) : (enterMode m s).modes.mode = m := by unfold enterMode; split <;> rfl

theorem leaveStopping_queuesOk (s : State) (h : QueuesOk s) : QueuesOk (leaveStopping s) := by
  refine ⟨by simpa using h.segments, ?_⟩
  unfold leaveStopping
  split
  · rename_i hh; intro _;
    split <;> simp [hh.2]
  · exact h.rest_empty

theorem parkIfDrained_queuesOk (s : State) (h : QueuesOk s) : QueuesOk (parkIfDrained s) := by
  refine ⟨by simpa using h.segments, ?_⟩
  unfold parkIfDrained
  split
  · rename_i hh; intro _; have := hh.2; simp [State.drained] at this; simp [this.1.1]
  · exact h.rest_empty

theorem writeRecord_queuesOk (s : State) (h : QueuesOk s) : QueuesOk (writeRecord s) := by
  refine ⟨writeRecord_ok s h.segments, ?_⟩
  intro hm
  have hq := h.rest_empty (by simpa using hm)
  unfold writeRecord; split
  · split
    · simp [hq]
    · exact hq
  · exact hq

theorem startSegment_queuesOk (s : State) (h : QueuesOk s) : QueuesOk (startSegment s) :=
  ⟨startSegment_ok s h.segments, fun hm => by simpa using h.rest_empty (by simpa using hm)⟩

theorem settleOnce_queuesOk (s : State) (h : QueuesOk s) : QueuesOk (settleOnce s) := by
  unfold settleOnce; split
  · exact leaveStopping_queuesOk _ (writeRecord_queuesOk _ h)
  · split
    · exact startSegment_queuesOk _ h
    · exact h

theorem settleLoop_queuesOk (n) (s : State) (h : QueuesOk s) : QueuesOk (settleLoop n s) := by
  induction n generalizing s with
  | zero => exact h
  | succ n ih => simp only [settleLoop]; split; exact ih _ (settleOnce_queuesOk _ h); exact h

theorem settle_queuesOk (s : State) (h : QueuesOk s) : QueuesOk (settle s) := parkIfDrained_queuesOk _
    (settleLoop_queuesOk _ _ h)

/-- The queues are sound where queue, completions, running segment and mode are those of a state where they are. -/
theorem queuesOk_of_same {s t : State} (h : QueuesOk s) (hq : t.segments.queue = s.segments.queue) (hc :
    t.segments.completions = s.segments.completions) (hr : t.segments.running.map Context.segment =
    s.segments.running.map Context.segment) (hm : t.modes.mode = s.modes.mode) : QueuesOk t :=
  ⟨segmentsOk_of_same h.segments hq hc hr, by rw [hm, hq]; exact h.rest_empty⟩

/-- A flush keeps the bounds: each waiting segment becomes one record (R96). -/
theorem flushWaiting_ok (s : State) (h : SegmentsOk s.segments) : SegmentsOk (flushWaiting s).segments := by
  have h1 := h.queue_le; have h2 := h.sum_le; have h3 := h.tags_distinct
  rcases hr : s.segments.running with _ | c
  · refine ⟨?_, ?_, ?_, ?_⟩ <;> simp [flushWaiting, hr, Segments.waiting]
    omega
  · obtain ⟨rest, hq⟩ := h.queue_of_running hr
    simp [hq] at h1 h2 h3
    refine ⟨?_, ?_, ?_, ?_⟩ <;> simp [flushWaiting, hr, Segments.waiting, hq]
    omega

/-- Taking the travel of a period moves no segment. -/
theorem takeProgress_segments (tag h) (s : State) : (takeProgress tag h s).segments.running.map Context.segment =
    s.segments.running.map Context.segment ∧ (takeProgress tag h s).segments.queue = s.segments.queue ∧
    (takeProgress tag h s).segments.completions = s.segments.completions := by
  unfold takeProgress; split
  · rename_i hh; simp [hh]
  · rename_i c hc
    split
    · dsimp only; split <;> simp [hc]
    · simp [hc]

theorem periodPart_queuesOk (tag h p) (s : State) (hs : QueuesOk s) : QueuesOk (periodPart tag h p s) := by
  cases p <;> simp only [periodPart] <;> apply settle_queuesOk
  · obtain ⟨a, b, c⟩ := takeProgress_segments tag h s
    exact queuesOk_of_same hs b c a (by simp)
  · exact queuesOk_of_same hs (by simp) (by simp) (by simp) (by simp)
  · exact queuesOk_of_same hs (by simp) (by simp) (by simp) (by simp)
  · exact queuesOk_of_same hs (by simp) (by simp) (by simp) (by simp)

theorem foldl_periodPart_queuesOk (l tag h) (s : State) (hs : QueuesOk s) : QueuesOk (List.foldl (fun t part =>
    periodPart tag h part t) s l) := by
  induction l generalizing s with
  | nil => exact hs
  | cons p l ih => exact ih _ (periodPart_queuesOk tag h p s hs)

theorem enterMode_moving_queuesOk (m : Mode) (hm : isRestMode m = false) (s : State) (h : SegmentsOk s.segments) :
    QueuesOk (enterMode m s) :=
  ⟨by simpa using h, by rw [enterMode_mode]; simp [hm]⟩

theorem enterMode_rest_queuesOk (m : Mode) (s : State) (h : SegmentsOk s.segments) (hq : s.segments.queue = []) :
    QueuesOk (enterMode m s) :=
  ⟨by simpa using h, by simp [hq]⟩

theorem writeIfDue_ok (s : State) (h : SegmentsOk s.segments) : SegmentsOk (writeIfDue s).segments := by
  unfold writeIfDue; split; exact writeRecord_ok s h; exact h

theorem handCause_ok (k r) (s : State) (h : SegmentsOk s.segments) : SegmentsOk (handCause k r s).segments :=
  segmentsOk_of_same h (by simp) (by simp) (by simp)

/-- A trigger moves no segment. -/
theorem triggerCause_segments (k o) (s : State) : (triggerCause k o s).segments.running.map Context.segment =
    s.segments.running.map Context.segment ∧ (triggerCause k o s).segments.queue = s.segments.queue ∧ (triggerCause
    k o s).segments.completions = s.segments.completions := by
  unfold triggerCause; split
  · rename_i h; simp [h]
  · rename_i c hc; split <;> simp

theorem fireTrigger_queuesOk (st ca o) (s : State) (hs : QueuesOk s) : QueuesOk (fireTrigger st ca o s) := by
  unfold fireTrigger; dsimp only; apply settle_queuesOk
  cases st <;> cases ca <;> dsimp only
  · exact queuesOk_of_same hs rfl rfl rfl rfl
  · rename_i k; obtain ⟨a,b,c⟩ := triggerCause_segments k o s; exact queuesOk_of_same hs (by simpa using b) (by
      simpa using c) (by simpa using a) (by simp)
  · exact queuesOk_of_same hs (by simp) (by simp) (by simp) (by simp)
  · rename_i st k; obtain ⟨a,b,c⟩ := triggerCause_segments k o (requestStop st s); exact queuesOk_of_same hs (by
      simpa using b) (by simpa using c) (by simpa using a) (by simp)

/-- A LIFT trigger halts the part (R168). -/
theorem liftTrigger_mode (s : State) : (liftTrigger s).modes.mode = .halted := by
  simp [liftTrigger, fallToHalted, latchHalt, enterMode_mode]

theorem zeroWheels_rest (cfg) (d : Drive) : (zeroWheels cfg d).wheels.left.setpoint = 0 ∧ (zeroWheels cfg
    d).wheels.right.setpoint = 0 := ⟨rfl, rfl⟩

/-- After a lift the record of the running segment is due at once: RELEASE has ended every move, and a pending
result is dropped (R92, R132). -/
theorem lift_canWrite (s : State) (c : Context) (hc : s.segments.running = some c)
   (h0 : s.atRest = true) (_hm : s.drive.stop.moveInProgress = false) (hu : s.drive.unjam = none) :
   (handCause .lifted none (flushWaiting (requestStop .release s))).canWrite = true := by
  have hr : (flushWaiting (requestStop .release s)).segments.running = some c := by simp [flushWaiting, hc]
  have ht : takesCause c .lifted = true := by unfold takesCause; split <;> simp [replacesCause]
  generalize hu' : flushWaiting (requestStop .release s) = u at hr
  have hd : u.drive = combineStop s.config c.segment.motion.isStraight c.holdTarget.isSome .release s.drive := by
    rw [← hu']; simp [requestStop, hc]
  have hstop : u.drive.stop = .release ∧ u.drive.unjam = none ∧ u.drive.wheels.left.setpoint = 0 ∧
      u.drive.wheels.right.setpoint = 0 := by
    rw [hd]
    simp [State.atRest] at h0
    rcases hst : s.drive.stop <;> simp [combineStop, hst, releaseStop, hu, h0.1, h0.2, zeroWheels, Pair.map,
        restWheel, moveSetpoint]
  have hk : handCause .lifted none u = requestStop .release { u with
      segments := { u.segments with running := some (withCause c .lifted none) }
      floor := dropPendingResponse .lifted u.floor } := by
    unfold handCause; simp [hr, ht, stopForCause]
  rw [hk]
  have hfl : (dropPendingResponse .lifted u.floor).resultPending = false := by
    unfold dropPendingResponse; dsimp only; split
    · simp [Floor.resultPending]
    · rename_i h; simpa using h
  simp [State.canWrite, requestStop, withCause, combineStop, hstop.1, hstop.2, State.atRest, Stop.moveInProgress, hfl]

/-- After a lift the queue is empty (R97). -/
theorem lift_queue_empty (s : State) (hs : SegmentsOk s.segments) (h0 : s.atRest = true) (hm :
    s.drive.stop.moveInProgress = false) (hu : s.drive.unjam = none) :
   (writeIfDue (handCause .lifted none (flushWaiting (requestStop .release s)))).segments.queue = [] := by
  rcases hr : s.segments.running with _ | c
  · unfold writeIfDue
    split
    · rename_i h; obtain ⟨c, hc⟩ := running_of_canWrite _ h
      have := handCause_segment .lifted none (flushWaiting (requestStop .release s))
      rw [hc] at this; simp [flushWaiting, hr] at this
    · simp [flushWaiting, hr]
  · have := lift_canWrite s c hr h0 hm hu
    unfold writeIfDue; simp only [this, if_true]
    rw [writeRecord_queue _ this]
    obtain ⟨rest, hq⟩ := hs.queue_of_running hr
    simp [flushWaiting, hr, hq]

theorem liftTrigger_queuesOk (s : State) (hs : SegmentsOk s.segments) (h0 : s.atRest = true) (hm :
    s.drive.stop.moveInProgress = false) (hu : s.drive.unjam = none) : QueuesOk (liftTrigger s) := by
  have hq := lift_queue_empty s hs h0 hm hu
  have hok : SegmentsOk (writeIfDue (handCause .lifted none (flushWaiting (requestStop .release s)))).segments :=
    writeIfDue_ok _ (handCause_ok _ _ _ (flushWaiting_ok _ (by simpa using hs)))
  exact ⟨by simpa [liftTrigger] using hok, by simp [liftTrigger, hq]⟩

theorem becomeLifted_queuesOk (s : State) (hs : QueuesOk s) : QueuesOk (becomeLifted s) := by
  unfold becomeLifted; dsimp only; split
  · apply liftTrigger_queuesOk
    · exact hs.segments
    · simp [State.atRest, forcedRest, zeroWheels, Pair.map, restWheel, moveSetpoint]
    · simp only [forcedRest, zeroWheels]; split <;> simp_all [Stop.moveInProgress]
    · rfl
  · exact queuesOk_of_same hs rfl rfl rfl rfl

theorem linkLost_queuesOk (s : State) (hs : QueuesOk s) : QueuesOk (linkLost s) := by
  have hok : SegmentsOk (writeIfDue (handCause .linkLost none (flushWaiting s))).segments :=
    writeIfDue_ok _ (handCause_ok _ _ _ (flushWaiting_ok _ hs.segments))
  unfold linkLost; dsimp only; split
  · rename_i h; exact ⟨by simpa using hok, by simp at h; simp [h]⟩
  · exact ⟨by simpa using hok, by simp [enterMode_mode, isRestMode]⟩

theorem flushToConfig_queuesOk (s : State) (hs : QueuesOk s) : QueuesOk (flushToConfig s) := by
  have hok : SegmentsOk (writeIfDue (handCause .flushed none (flushWaiting s))).segments :=
    writeIfDue_ok _ (handCause_ok _ _ _ (flushWaiting_ok _ hs.segments))
  unfold flushToConfig; dsimp only; split
  · rename_i h; exact ⟨by simpa using hok, by simp at h; simp [h]⟩
  · exact ⟨by simpa using hok, by simp [enterMode_mode, isRestMode]⟩

theorem freshSegments_ok : SegmentsOk freshSegments := ⟨by decide, by decide, by decide, by decide⟩

theorem queuesOk_of_fresh (s : State) (h : s.segments = freshSegments) : QueuesOk s := ⟨h ▸ freshSegments_ok, by
    simp [h, freshSegments]⟩

/-- A cancel of a waiting segment keeps the bounds (R94). -/
theorem cancelWaiting_ok (g) (s : State) (h : SegmentsOk s.segments) (hg : g ∈ s.segments.waiting) : SegmentsOk
    (cancelWaiting g s).segments := by
  have h1 := h.queue_le; have h2 := h.sum_le; have h3 := h.tags_distinct
  have hm : g ∈ s.segments.queue := by
    unfold Segments.waiting at hg; split at hg; exact List.mem_of_mem_tail hg; exact hg
  have hl := List.length_erase_of_mem hm
  have hpos := List.length_pos_of_mem hm
  refine ⟨?_, ?_, ?_, ?_⟩ <;> simp only [cancelWaiting, List.length_append, List.length_cons, List.length_nil]
  · omega
  · omega
  · exact List.Nodup.sublist (List.Sublist.map _ List.erase_sublist) h3
  · intro x hx
    rcases hr : s.segments.running with _ | c
    · simp [hr] at hx
    · obtain ⟨rest, hq⟩ := h.queue_of_running hr
      simp [hr] at hx; subst hx
      have : g ≠ c.segment := by
        intro he; subst he
        simp [Segments.waiting, hr, hq] at hg
        simp [hq] at h3
        exact h3.1 _ hg rfl
      simp [hq, this.symm]

theorem cancelRunning_queuesOk (tag) (s : State) (h : QueuesOk s) : QueuesOk (cancelRunning tag s) := by
  unfold cancelRunning; dsimp only; apply settle_queuesOk
  refine queuesOk_of_same (s := writeDue (handCause .cancelled none (markCancelled s))) ?_ rfl rfl rfl rfl
  have hm : QueuesOk (handCause .cancelled none (markCancelled s)) :=
    queuesOk_of_same h (by simp [markCancelled]) (by simp [markCancelled])
      (by cases hr : s.segments.running <;> simp [markCancelled, hr]) (by simp)
  unfold writeDue; split
  · exact leaveStopping_queuesOk _ (writeRecord_queuesOk _ hm)
  · exact hm

end Sys2Proof.Machine
end

