-- ==== Sys2Proof/Laws/Table.lean ====
section
/-! SUPPORT. What the table's operations do: a slot after a write, the lowest free slot, the live records, and the
selection of the first of the least; the configuration items; the clamp of a room coordinate. -/

namespace Sys2Proof.Machine

/-! ### Slots -/

theorem slotAt_eq (t : Table) (k : Nat) (h : k < 96) : slotAt t k = t[k] := by
  simp [slotAt, List.getD_eq_getElem?_getD, Vector.toList, h]

theorem slotAt_outside (t : Table) (k : Nat) (h : 96 ≤ k) : slotAt t k = freshSlot := by
  simp [slotAt, List.getD_eq_getElem?_getD, h]

/-- A slot after a write: the one written, or as it was. -/
theorem slotAt_setSlot (t : Table) (k j : Nat) (x : Slot) (h : k < 96) :
    slotAt (setSlot t k x) j = if j = k then x else slotAt t j := by
  unfold slotAt setSlot
  simp only [Vector.setIfInBounds, Vector.toList, Array.toList_setIfInBounds, List.getD_eq_getElem?_getD,
    List.getElem?_set]
  by_cases hj : j = k
  · subst hj; simp [h]
  · simp [hj, Ne.symm hj]

/-- What placing a record does: the slot is live, its generation one further where it was free, and no other slot
changes (R2). -/
theorem slotAt_placeRecord (t : Table) (k j : Nat) (r : Record) (h : k < 96) :
    slotAt (placeRecord t k r) j = if j = k then
      ⟨if (slotAt t k).record.isNone then (slotAt t k).generation + 1 else (slotAt t k).generation, some r⟩
      else slotAt t j := slotAt_setSlot t k j _ h

/-- What replacing a victim does (R147). -/
theorem slotAt_replaceRecord (t : Table) (k j : Nat) (r : Record) (h : k < 96) :
    slotAt (replaceRecord t k r) j = if j = k then ⟨(slotAt t k).generation + 1, some r⟩ else slotAt t j :=
  slotAt_setSlot t k j _ h

/-- What freeing a slot does (R2). -/
theorem slotAt_freeSlot (t : Table) (k j : Nat) (h : k < 96) :
    slotAt (freeSlot t k) j = if j = k then ⟨(slotAt t k).generation, none⟩ else slotAt t j := slotAt_setSlot t k j _ h

/-- A slot of the fresh table is free at generation 0 (R20). -/
@[simp] theorem slotAt_freshTable (k : Nat) : slotAt freshTable k = ⟨0, none⟩ := by
  by_cases h : k < 96
  · rw [slotAt_eq _ _ h]; simp [freshTable, freshSlot]
  · rw [slotAt_outside _ _ (by omega)]; rfl

/-- A slot of a table whose slots all go through one function, which keeps a free slot of generation 0. -/
theorem slotAt_map (t : Table) (f : Slot → Slot) (k : Nat) (hf : f freshSlot = freshSlot) :
    slotAt (t.map f) k = f (slotAt t k) := by
  by_cases h : k < 96
  · rw [slotAt_eq _ _ h, slotAt_eq _ _ h]; simp
  · rw [slotAt_outside _ _ (by omega), slotAt_outside _ _ (by omega), hf]

/-! ### The lowest free slot -/

theorem lowestFree_iff (t : Table) (k : Nat) :
    lowestFree t = some k ↔ k < 96 ∧ (slotAt t k).record = none ∧ ∀ j, j < k → (slotAt t j).record ≠ none := by
  unfold lowestFree
  rw [List.findIdx?_eq_some_iff_getElem]
  constructor
  · rintro ⟨h, h1, h2⟩
    have hk : k < 96 := by simpa using h
    refine ⟨hk, ?_, ?_⟩
    · rw [slotAt_eq _ _ hk]; simpa using h1
    · intro j hj; rw [slotAt_eq _ _ (by omega)]; simpa using h2 j hj
  · rintro ⟨hk, h1, h2⟩
    refine ⟨by simpa using hk, ?_, ?_⟩
    · rw [slotAt_eq _ _ hk] at h1; simpa using h1
    · intro j hj; have := h2 j hj; rw [slotAt_eq _ _ (by omega)] at this; simpa using this

theorem lowestFree_none_iff (t : Table) : lowestFree t = none ↔ ∀ k, k < 96 → (slotAt t k).record ≠ none := by
  constructor
  · intro h k hk hn
    unfold lowestFree at h
    rw [List.findIdx?_eq_none_iff] at h
    have := h t[k] (by simp)
    rw [slotAt_eq _ _ hk] at hn
    simp [hn] at this
  · intro h
    unfold lowestFree
    rw [List.findIdx?_eq_none_iff]
    intro x hx
    obtain ⟨k, hk, rfl⟩ := List.getElem_of_mem hx
    have hk' : k < 96 := by simpa using hk
    have := h k hk'
    rw [slotAt_eq _ _ hk'] at this
    simpa [Option.isSome_iff_ne_none] using this

/-! ### Live records -/

theorem mem_liveFrom (l : Live) (k : Nat) (xs : List Slot) :
    l ∈ liveFrom k xs ↔ k ≤ l.ref.slot ∧ xs[l.ref.slot - k]? = some ⟨l.ref.generation, some l.record⟩ := by
  obtain ⟨⟨j, g⟩, r⟩ := l
  induction xs generalizing k with
  | nil => simp [liveFrom]
  | cons x xs ih =>
    obtain ⟨gx, rx⟩ := x
    have key : ∀ P : Prop, ((k + 1 ≤ j ∧ xs[j - (k + 1)]? = some (⟨g, some r⟩ : Slot)) ∨ P) ↔
        ((k + 1 ≤ j ∧ (⟨gx, rx⟩ :: xs)[j - k]? = some (⟨g, some r⟩ : Slot)) ∨ P) := by
      intro P
      by_cases hkj : k + 1 ≤ j
      · have : j - k = (j - (k + 1)) + 1 := by omega
        rw [this]; simp
      · simp [hkj]
    cases rx with
    | none =>
      simp only [liveFrom]
      rw [ih]
      by_cases hkj : j = k
      · subst hkj; simp
      · have := key False
        simp only [or_false] at this
        rw [this]
        constructor
        · rintro ⟨a, b⟩; exact ⟨by omega, b⟩
        · rintro ⟨a, b⟩; exact ⟨by omega, b⟩
    | some rr =>
      simp only [liveFrom, List.mem_cons]
      rw [ih]
      by_cases hkj : j = k
      · subst hkj; simp [eq_comm]
      · have hne : ¬ ((⟨⟨j, g⟩, r⟩ : Live) = ⟨⟨k, gx⟩, rr⟩) := by simp [hkj]
        have := key False
        simp only [or_false] at this
        simp only [hne, false_or]
        rw [this]
        constructor
        · rintro ⟨a, b⟩; exact ⟨by omega, b⟩
        · rintro ⟨a, b⟩; exact ⟨by omega, b⟩

/-- The live records are what stands in the slots. -/
theorem mem_liveRecords (t : Table) (l : Live) : l ∈ liveRecords t ↔ IsLive t l := by
  unfold liveRecords IsLive
  rw [mem_liveFrom]
  constructor
  · rintro ⟨-, h⟩
    simp only [Nat.sub_zero] at h
    have hlt : l.ref.slot < 96 := by
      have := (List.getElem?_eq_some_iff.mp h).1; simpa using this
    exact ⟨hlt, by simp [slotAt, List.getD_eq_getElem?_getD, h]⟩
  · rintro ⟨h1, h2⟩
    refine ⟨by omega, ?_⟩
    rw [slotAt_eq _ _ h1] at h2
    simp [h1, h2]

theorem liveFrom_slots (k : Nat) (xs : List Slot) : (liveFrom k xs).Pairwise (fun a b => a.ref.slot < b.ref.slot) := by
  induction xs generalizing k with
  | nil => simp [liveFrom]
  | cons x xs ih =>
    obtain ⟨g, r⟩ := x
    cases r with
    | none => exact ih _
    | some r =>
      refine List.Pairwise.cons ?_ (ih _)
      intro b hb
      have := ((mem_liveFrom b (k + 1) xs).mp hb).1
      simp; omega

/-- The live records stand in ascending slot order. -/
theorem liveRecords_slots (t : Table) : (liveRecords t).Pairwise (fun a b => a.ref.slot < b.ref.slot) :=
  liveFrom_slots 0 t.toList

/-! ### The first of the least -/

theorem foldl_keepLeast {α : Type} (key : α → Nat) (l : List α) (b : α) :
    ∃ x, l.foldl (keepLeast key) (some b) = some x ∧ (x = b ∨ x ∈ l) ∧ key x ≤ key b ∧ ∀ y, y ∈ l → key x ≤ key y := by
  induction l generalizing b with
  | nil => exact ⟨b, rfl, .inl rfl, le_refl _, by simp⟩
  | cons a l ih =>
    simp only [List.foldl_cons, keepLeast]
    split
    · rename_i h
      obtain ⟨x, h1, h2, h3, h4⟩ := ih a
      refine ⟨x, h1, ?_, by omega, ?_⟩
      · rcases h2 with h2 | h2 <;> simp [h2]
      · intro y hy
        rcases List.mem_cons.mp hy with rfl | hy
        · exact h3
        · exact h4 y hy
    · rename_i h
      obtain ⟨x, h1, h2, h3, h4⟩ := ih b
      refine ⟨x, h1, ?_, h3, ?_⟩
      · rcases h2 with h2 | h2 <;> simp [h2]
      · intro y hy
        rcases List.mem_cons.mp hy with rfl | hy
        · omega
        · exact h4 y hy

theorem leastBy_nil {α : Type} (key : α → Nat) : leastBy key ([] : List α) = none := rfl

/-- The selection finds nothing only in an empty list. -/
theorem leastBy_none_iff {α : Type} (key : α → Nat) (l : List α) : leastBy key l = none ↔ l = [] := by
  cases l with
  | nil => simp [leastBy]
  | cons a l =>
    obtain ⟨x, h, -⟩ := foldl_keepLeast key l a
    simp [leastBy, List.foldl_cons, keepLeast, h]

/-- What is selected is in the list and has the least key. -/
theorem leastBy_mem {α : Type} (key : α → Nat) (l : List α) (x : α) (h : leastBy key l = some x) :
    x ∈ l ∧ ∀ y, y ∈ l → key x ≤ key y := by
  cases l with
  | nil => simp [leastBy] at h
  | cons a l =>
    obtain ⟨z, h1, h2, h3, h4⟩ := foldl_keepLeast key l a
    simp only [leastBy, List.foldl_cons, keepLeast, h1, Option.some.injEq] at h
    subst h
    refine ⟨by rcases h2 with h2 | h2 <;> simp [h2], ?_⟩
    intro y hy
    rcases List.mem_cons.mp hy with rfl | hy
    · exact h3
    · exact h4 y hy

theorem foldl_keepLeast_first {α : Type} (key rank : α → Nat) (l : List α) (b : α)
    (hp : (b :: l).Pairwise fun a c => rank a < rank c) :
    ∃ x, l.foldl (keepLeast key) (some b) = some x ∧ (x = b ∨ x ∈ l) ∧
      ∀ y, y ∈ b :: l → key x < key y ∨ (key x = key y ∧ rank x ≤ rank y) := by
  induction l generalizing b with
  | nil => exact ⟨b, rfl, .inl rfl, by simp⟩
  | cons a l ih =>
    have hp1 := List.pairwise_cons.mp hp
    have hp2 := List.pairwise_cons.mp hp1.2
    simp only [List.foldl_cons, keepLeast]
    split
    · rename_i h
      obtain ⟨x, h1, h2, h3⟩ := ih a hp1.2
      refine ⟨x, h1, by rcases h2 with h2 | h2 <;> simp [h2], ?_⟩
      intro y hy
      rcases List.mem_cons.mp hy with rfl | hy
      · have := h3 a (by simp); omega
      · exact h3 y hy
    · rename_i h
      obtain ⟨x, h1, h2, h3⟩ := ih b (List.pairwise_cons.mpr ⟨fun c hc => hp1.1 c (by simp [hc]), hp2.2⟩)
      refine ⟨x, h1, by rcases h2 with h2 | h2 <;> simp [h2], ?_⟩
      intro y hy
      rcases List.mem_cons.mp hy with rfl | hy
      · exact h3 y (by simp)
      · rcases List.mem_cons.mp hy with rfl | hy
        · have h4 := h3 b (by simp)
          have h5 := hp1.1 y (by simp)
          omega
        · exact h3 y (by simp [hy])

/-- In a list whose ranks rise, the one selected has the least key and, among those, the least rank. -/
theorem leastBy_first {α : Type} (key rank : α → Nat) (l : List α) (hp : l.Pairwise fun a c => rank a < rank c) (x : α)
    (h : leastBy key l = some x) :
    x ∈ l ∧ ∀ y, y ∈ l → key x < key y ∨ (key x = key y ∧ rank x ≤ rank y) := by
  cases l with
  | nil => simp [leastBy] at h
  | cons a l =>
    obtain ⟨z, h1, h2, h3⟩ := foldl_keepLeast_first key rank l a hp
    simp only [leastBy, List.foldl_cons, keepLeast, h1, Option.some.injEq] at h
    subst h
    exact ⟨by rcases h2 with h2 | h2 <;> simp [h2], h3⟩

/-! ### Items and clamps -/

/-- An item after a write: the one written, or as it was (R175). -/
theorem item_setItem (cfg : Settings) (n m : Nat) (v : Int) (h1 : 1 ≤ n) (h2 : n ≤ 47) (h3 : 1 ≤ m) (h4 : m ≤ 47) :
    item (setItem cfg n v) m = if m = n then v else item cfg m := by
  unfold item setItem
  simp only [Vector.setIfInBounds, Vector.toList, Array.toList_setIfInBounds, List.getD_eq_getElem?_getD,
    List.getElem?_set]
  have hl : cfg.toArray.toList.length = 47 := by simp
  by_cases h : m = n
  · subst h; have : m - 1 < 47 := by omega
    simp [this]
  · have : n - 1 ≠ m - 1 := by omega
    simp [h, this]

theorem clampTo_eq (lo hi v : Int) (h : lo ≤ hi) : clampTo lo hi v = max lo (min hi v) := by
  unfold clampTo; split_ifs <;> omega

theorem clampRoom_eq (v : Int) : clampRoom v = max (-30000) (min 30000 v) := by
  unfold clampRoom clampTo; split_ifs <;> omega

/-- Two bytes of a field, joined again (R179). -/
theorem halfOf_halfBytes (v : Half) : halfOf (v.extractLsb' 8 8) (v.extractLsb' 0 8) = v := by
  apply BitVec.eq_of_getLsbD_eq
  intro i hi
  unfold halfOf
  rw [BitVec.getLsbD_append]
  by_cases h : i < 8
  · simp [h]
  · have e : 8 + (i - 8) = i := by omega
    have e2 : i - 8 < 8 := by omega
    simp [h, e, e2]

end Sys2Proof.Machine
end

