-- ==== Sys2Proof/Laws/Zones.lean ====
section
/-! SUPPORT. What a classification leaves, alone and followed by an evaluation and settling. -/

namespace Sys2Proof.Machine

@[simp] theorem classify_zones (cause : NoticeCause) (s : State) : (classify cause s).zones = classification s := by
  unfold classify offerNotice
  dsimp only
  split
  · rfl
  · split <;> rfl

/-- Classification, and with it the notice, is all that `classify` does. -/
theorem classify_cases (cause : NoticeCause) (s : State) :
    (classify cause s = classifySilently s ∧ (classification s).centre = s.zones.centre) ∨
    (classify cause s = offerNotice (zoneNotice cause s (classification s).centre) (classifySilently s) ∧
      (classification s).centre ≠ s.zones.centre) := by
  by_cases h : (classification s).centre = s.zones.centre
  · left; exact ⟨by simp [classify, classifySilently, h], h⟩
  · right; refine ⟨?_, h⟩
    unfold classify
    dsimp only
    rw [if_neg (by simpa [classifySilently] using h)]
    rfl

theorem limitAt_carried (cfg : Settings) (t : Table) (x y : Int) : limitAt cfg t x y = carriedLimit cfg t x y := by
  unfold limitAt carriedLimit hazardLimit
  cases scan t x y <;> rfl

theorem minLimit_smaller (a b : Option Nat) : SmallerLimit a b (minLimit a b) := by
  cases a <;> cases b <;> constructor

/-- A classification's zone limit is the smaller of those of the centre and the probe point. -/
theorem classify_limit (cause : NoticeCause) (s : State) :
    ZoneLimitIs (classifySilently s) s.probePoint.1 s.probePoint.2 ∧
      (classify cause s).zones = (classifySilently s).zones := by
  refine ⟨?_, by simp [classifySilently]⟩
  simpa [ZoneLimitIs, classifySilently, classification, limitAt_carried] using minLimit_smaller _ _

/-- With no LINE or DOCK running, a classification is that of the centre alone. -/
theorem classifySilently_centre (s : State) (h : s.straightRunning = none) : CentreClassified (classifySilently s) := by
  refine ⟨rfl, ?_, ?_⟩
  · simp [classifySilently, classification, State.probePoint, h]
  · simp only [classifySilently, classification, State.probePoint, h, limitAt_carried]
    cases carriedLimit s.config s.table s.pose.px s.pose.py <;> simp [minLimit]

/-- A queue that no notice joins stays as it is, and its timer with it. -/
theorem noticesJoined_nil {s t : State} (h : t.link.notices = s.link.notices)
    (ht : t.link.noticeTimer = s.link.noticeTimer) : NoticesJoined [] s t :=
  ⟨by simpa using h, fun _ h => absurd rfl h, fun _ => ht⟩

/-- An offer where fewer than 16 are held is one notice that joins. -/
theorem offerNotice_joined (n : Notice) (s : State) (h : s.link.notices.length < 16) :
    NoticesJoined [n] s (offerNotice n s) := by
  refine ⟨by simp [offerNotice, h], fun he _ => ?_, fun hn => ?_⟩
  · simp [offerNotice, he]
  · simp [offerNotice, h, hn.resolve_right (by simp)]

/-- The notice that a classification gives, or gives not. -/
theorem classify_reported (cause : NoticeCause) (s : State) : ZoneReported cause s (classify cause s) := by
  rcases classify_cases cause s with ⟨h, hc⟩ | ⟨h, hc⟩
  · refine ⟨fun _ => ?_, fun hn => ?_, fun hn => ?_⟩
    · rw [h]; exact ⟨noticesJoined_nil rfl rfl, rfl⟩
    · exact absurd (by simpa using hc) hn
    · exact absurd (by simpa using hc) hn
  · refine ⟨fun hn => ?_, fun _ hl => ?_, fun _ hl => ?_⟩
    · exact absurd (by simpa using hn) hc
    · rw [classify_zones, h]
      have hj := offerNotice_joined (zoneNotice cause s (classification s).centre) (classifySilently s) hl
      unfold offerNotice at hj ⊢
      rw [if_pos (show (classifySilently s).link.notices.length < 16 from hl)] at hj ⊢
      exact ⟨rfl, hj.queue, hj.loaded, hj.left_as_it_is⟩
    · rw [h]
      have hl' : ¬ (classifySilently s).link.notices.length < 16 := by
        simpa [classifySilently] using hl
      simp only [offerNotice, hl', if_false]
      exact ⟨noticesJoined_nil rfl rfl, rfl⟩

theorem evaluate_of_not_straight (s : State) (h : s.straightRunning = none) :
    evaluate s = { s with clearance := freshClearance } := by
  unfold evaluate; rw [h]

/-- The centre result that stands belongs to the present pose and table. -/
def CentreOk (s : State) : Prop := s.zones.centre = classAt s.table s.pose.px s.pose.py

theorem classify_centreOk (cause : NoticeCause) (s : State) : CentreOk (classify cause s) := by
  simp [CentreOk, classification]

theorem centreOk_of_same {s t : State} (h : CentreOk s) (hz : t.zones = s.zones) (ht : t.table = s.table)
    (hp : t.pose = s.pose) : CentreOk t := by
  unfold CentreOk; rw [hz, ht, hp]; exact h

theorem evaluate_centreOk (s : State) (h : CentreOk s) : CentreOk (evaluate s) :=
  centreOk_of_same h (by simp) (by simp) (by simp)

theorem startSegment_centreOk (s : State) (h : CentreOk s) : CentreOk (startSegment s) := by
  unfold startSegment
  split
  · exact h
  · have h1 : CentreOk (classifySilently (openContext ‹_› s)) := by simp [CentreOk, classifySilently, classification]
    have h2 := evaluate_centreOk _ h1
    unfold dockedAtStart
    split
    · exact centreOk_of_same h2 (by simp) (by simp) (by simp)
    · exact h2

theorem settleLoop_centreOk (n : Nat) (s : State) (h : CentreOk s) : CentreOk (settleLoop n s) := by
  induction n generalizing s with
  | zero => exact h
  | succ n ih =>
    unfold settleLoop
    split
    · apply ih
      unfold settleOnce
      split
      · exact centreOk_of_same h (by simp) (by simp) (by simp)
      · split
        · exact startSegment_centreOk s h
        · exact h
    · exact h

theorem settle_centreOk (s : State) (h : CentreOk s) : CentreOk (settle s) := by
  unfold settle
  exact centreOk_of_same (settleLoop_centreOk (2 * s.segments.queue.length + 2) s h) (by simp) (by simp) (by simp)

/-- A settled state stays settled when nothing that settling reads has changed. -/
theorem settled_of_same {s t : State} (h : Settled s) (hg : t.segments = s.segments) (hd : t.drive = s.drive)
    (hf : t.floor = s.floor) (hk : t.dock = s.dock) (hm : t.modes = s.modes) : Settled t where
  no_write := by rw [← h.no_write]; simp [State.canWrite, State.atRest, hg, hd, hf]
  no_start := by rw [← h.no_start]; simp [State.canStart, State.atRest, hg, hd, hk, hm]
  no_park := by
    have := h.no_park
    simpa [State.drained, State.atRest, State.guardsClear, hg, hd, hm] using this

/-- With no LINE or DOCK running and nothing due, a classification with its evaluation is all that happens. -/
theorem settle_evaluate_classify (cause : NoticeCause) (s : State) (h : s.straightRunning = none) (hs : Settled s) :
    settle (evaluate (classify cause s)) = { classify cause s with clearance := freshClearance } := by
  rw [evaluate_of_not_straight _ (by simpa [State.straightRunning] using h)]
  exact settle_of_settled _ (settled_of_same hs (by simp) (by simp) (by simp) (by simp) (by simp))

end Sys2Proof.Machine
end

