-- ==== Sys2Proof/Laws/Ops.lean ====
section
/-! SUPPORT. What each shared operation can do, said once: stops, causes, evaluations, records, transitions, starts. A
proof about a command cites these and unfolds none of the operations. -/

namespace Sys2Proof.Machine

/-! ### Notices and outputs -/

/-- A notice joins the queue, or is discarded with NOTICE_OVERFLOW latched (R180, R181). -/
theorem offerNotice_cases (n : Notice) (s : State) :
    (s.link.notices.length < 16 ∧ offerNotice n s = { s with link := { s.link with
      notices := s.link.notices ++ [n]
      noticeTimer := if s.link.notices.isEmpty then .running (noticeDelay s.config) else s.link.noticeTimer } }) ∨
    (16 ≤ s.link.notices.length ∧
      offerNotice n s = { s with latches := { s.latches with noticeOverflow := true } }) := by
  unfold offerNotice
  split
  · exact .inl ⟨‹_›, rfl⟩
  · exact .inr ⟨by omega, rfl⟩

theorem offerNotice_notices (n : Notice) (s : State) (h : s.link.notices.length < 16) :
    (offerNotice n s).link.notices = s.link.notices ++ [n] := by simp [offerNotice, h]

theorem refresh_outputs (s : State) : (refresh s).outputs = outputsOf (refresh s) := rfl

/-- The direction levels follow the setpoints that are not 0 (R113). -/
structure LevelsFollow (s : State) : Prop where
  left : (0 < s.drive.wheels.left.setpoint → s.drive.wheels.left.forward = true) ∧
    (s.drive.wheels.left.setpoint < 0 → s.drive.wheels.left.forward = false)
  right : (0 < s.drive.wheels.right.setpoint → s.drive.wheels.right.forward = true) ∧
    (s.drive.wheels.right.setpoint < 0 → s.drive.wheels.right.forward = false)

theorem bridgeOn_iff (s : State) : s.bridgeOn = true ↔ BridgesEnabled s := by
  constructor
  · intro h
    simp only [State.bridgeOn, State.isReady, isRestMode, State.lifted, Bool.and_eq_true, Bool.not_eq_true',
      decide_eq_true_eq, Bool.or_eq_false_iff] at h
    obtain ⟨⟨⟨hp, hm⟩, hl⟩, hr⟩ := h
    exact ⟨hp, by cases hs : s.modes.mode <;> simp_all, hl.1, hl.2, hr⟩
  · rintro ⟨hp, hm, h1, h2, h3⟩
    cases hs : s.modes.mode <;> simp_all [State.bridgeOn, State.isReady, isRestMode, State.lifted]

theorem motorOut_ok (s : State) (w : Wheel)
    (h : (0 < w.setpoint → w.forward = true) ∧ (w.setpoint < 0 → w.forward = false)) :
    MotorOk s w (motorOut s.config s.bridgeOn w) := by
  have hb := bridgeOn_iff s
  cases hs : s.bridgeOn <;> simp only [hs, Bool.false_eq_true, false_iff, true_iff] at hb <;>
    constructor <;> simp_all [motorOut]

/-- The output lines as `refresh` sets them are those of the rules, where the direction levels follow. -/
theorem outputsOk_of_eq {s : State} (h : s.outputs = outputsOf s) (hl : LevelsFollow s) : OutputsOk s := by
  constructor
  · rw [h]; exact motorOut_ok s _ hl.left
  · rw [h]; exact motorOut_ok s _ hl.right
  · rw [h]; simp [outputsOf, State.sensorPowerOn, State.isReady]
  · rw [h]; simp [outputsOf, State.chargeOn, State.isReady, State.atRest, and_assoc]
  · rw [h]; simp [outputsOf, State.attentionOn, State.isReady, Latches.any, or_assoc]

/-! ### Wheels and stops -/

theorem moveSetpoint_zero (cfg : Settings) (rug : Bool) (w : Wheel) :
    moveSetpoint cfg rug 0 w = { w with
      setpoint := 0
      guard := if w.setpoint = 0 then w.guard else guardFrom cfg w.setpoint
      stall := none } := by simp [moveSetpoint]

theorem zeroWheels_released (cfg : Settings) (d : Drive) : WheelsReleased cfg d (zeroWheels cfg d) := by
  constructor <;> simp [zeroWheels, Pair.map, restWheel, moveSetpoint]

/-- The wheels are released where they are those of `zeroWheels` and the period timer stands. -/
theorem released_of_wheels {cfg : Settings} {d e : Drive} (h : e.wheels = (zeroWheels cfg d).wheels)
    (hp : e.periodMs = d.periodMs) : WheelsReleased cfg d e := by
  constructor <;> simp [h, hp, zeroWheels, Pair.map, restWheel, moveSetpoint]

theorem forcedRest_released (cfg : Settings) (d : Drive) : WheelsReleased cfg d (forcedRest cfg d) :=
  released_of_wheels rfl rfl

theorem hardStop_released (cfg : Settings) (d : Drive) : WheelsReleased cfg d (hardStop cfg d) :=
  released_of_wheels rfl rfl

theorem releaseStop_released (cfg : Settings) (d : Drive) : WheelsReleased cfg d (releaseStop cfg d) :=
  released_of_wheels rfl rfl

theorem backoffStop_released (cfg : Settings) (d : Drive) : WheelsReleased cfg d (backoffStop cfg d) :=
  released_of_wheels rfl rfl

/-- A RAMP request that finds no stop in progress, in the terms of the statements (R107). -/
theorem beginRamp_eq (hold : Option Nat) (d : Drive) : beginRamp hold.isSome d = rampFrom hold d := by
  cases hold with
  | none => simp [beginRamp, rampBase, rampFrom, rampBaseOf, zeroTargets, zeroTarget, Pair.map]
  | some h =>
    by_cases h0 : (d.wheels.left.setpoint + d.wheels.right.setpoint).tdiv 2 = 0 <;>
      simp [beginRamp, rampBase, rampFrom, rampBaseOf, zeroTargets, zeroTarget, Pair.map, truncDiv, h0]

/-- A stop that finds none in progress (R107 to R111). -/
theorem combineStop_none (cfg : Settings) (straight held : Bool) (kind : StopKind) (d : Drive) (h : d.stop = .none) :
    combineStop cfg straight held kind d = (match kind with
      | .ramp => beginRamp held d
      | .hard => hardStop cfg d
      | .backoff => if straight && d.unjam.isNone then backoffStop cfg d else hardStop cfg d
      | .release => releaseStop cfg d) := by
  cases kind <;> simp [combineStop, h]

theorem requestStop_running (kind : StopKind) (s : State) (c : Context) (h : s.segments.running = some c) :
    requestStop kind s =
      { s with drive := combineStop s.config c.segment.motion.isStraight c.holdTarget.isSome kind s.drive } := by
  simp [requestStop, h]

theorem requestStop_idle (kind : StopKind) (s : State) (h : s.segments.running = none) :
    requestStop kind s = { s with drive := idleStop s.config kind s.drive } := by simp [requestStop, h]

/-! ### End causes -/

theorem handCause_idle (kind : EndKind) (record : Option Ref) (s : State) (h : s.segments.running = none) :
    handCause kind record s = s := by simp [handCause, h]

theorem handCause_dropped (kind : EndKind) (record : Option Ref) (s : State) (c : Context)
    (h : s.segments.running = some c) (ht : takesCause c kind = false) : handCause kind record s = s := by
  simp [handCause, h, ht]

/-- A cause that is taken: it stands, the phase is STOPPING, and its stop is asked for (R90). -/
theorem handCause_taken (kind : EndKind) (record : Option Ref) (s : State) (c : Context)
    (h : s.segments.running = some c) (ht : takesCause c kind = true) :
    handCause kind record s = { s with
      segments := { s.segments with running := some { c with cause := some ⟨kind, record⟩, phase := .stopping } }
      floor := dropPendingResponse kind s.floor
      drive := match stopForCause s.config c.segment.motion kind with
        | some stop => combineStop s.config c.segment.motion.isStraight c.holdTarget.isSome stop s.drive
        | none => s.drive } := by
  simp only [handCause, h, ht, if_true, withCause]
  split <;> simp_all [requestStop]

theorem takesCause_first (c : Context) (kind : EndKind) (h : c.cause = none) : takesCause c kind = true := by
  simp [takesCause, h]

theorem takesCause_lifted (c : Context) : takesCause c .lifted = true := by
  unfold takesCause; split <;> rfl

/-- What hands no LIFTED and no LINK_LOST leaves the protective response. -/
theorem dropPendingResponse_other (kind : EndKind) (f : Floor) (h1 : kind ≠ .lifted) (h2 : kind ≠ .linkLost) :
    dropPendingResponse kind f = f := by
  cases kind <;> simp_all [dropPendingResponse]

/-! ### Evaluations -/

/-- An evaluation of a running LINE or DOCK (R53, R64, R65). -/
theorem evaluate_straight (s : State) (c : Context) (h : s.segments.running = some c)
    (hs : c.segment.motion.isStraight = true) :
    evaluate s = handPending (evaluation s c).pending { s with clearance := evaluation s c } := by
  have : s.straightRunning = some c := by simp [State.straightRunning, h, Option.filter, hs]
  simp [evaluate, this]

theorem straightRunning_none (s : State) (h : ∀ c, s.segments.running = some c → c.segment.motion.isStraight = false) :
    s.straightRunning = none := by
  unfold State.straightRunning
  cases hr : s.segments.running with
  | none => rfl
  | some c => simp [Option.filter, h c hr]

/-- The least of the terms is one of them and no greater than any (R58). -/
theorem leastTerm_spec (x : Nat) (xs : List Nat) :
    leastTerm (x :: xs) ∈ x :: xs ∧ ∀ y, y ∈ x :: xs → leastTerm (x :: xs) ≤ y := by
  simp only [leastTerm]
  induction xs generalizing x with
  | nil => simp
  | cons a xs ih =>
    obtain ⟨h1, h2⟩ := ih (min x a)
    simp only [List.foldl_cons]
    refine ⟨?_, ?_⟩
    · rcases List.mem_cons.mp h1 with h1 | h1
      · rw [h1]; rcases Nat.le_total x a with h | h <;> simp [h]
      · simp [h1]
    · intro y hy
      have h3 := h2 (min x a) (by simp)
      rcases List.mem_cons.mp hy with rfl | hy
      · omega
      · rcases List.mem_cons.mp hy with rfl | hy
        · omega
        · exact h2 y (by simp [hy])

/-! ### Records -/

/-- The writing of the running segment's record (R92, R93). -/
theorem writeRecord_running_eq (s : State) (c : Context) (e : EndCause) (h : s.segments.running = some c)
    (he : c.cause = some e) :
    writeRecord s = { s with
      segments := ⟨s.segments.queue.tail, none, s.segments.completions ++ [⟨c.segment, e.kind, c.cancelSeen,
        travelledOf c, e.record, s.drive.retries, s.link.timeBase⟩]⟩
      drive := { s.drive with stop := .none, unjam := none }
      floor := { s.floor with response := none }
      dock := if s.dock.undock = .leaving then { s.dock with undock := .none } else s.dock } := by
  simp [writeRecord, h, he, runningRecord]

theorem travelledOf_eq (c : Context) : travelledOf c = (match c.segment.motion with
    | .line .. | .dock .. => c.progress.tdiv 1000
    | _ => c.progress) := rfl

/-- The test of R92 (R92). -/
theorem canWrite_iff (s : State) (c : Context) (h : s.segments.running = some c) :
    s.canWrite = true ↔ c.cause.isSome = true ∧ AtRest s := by
  simp only [State.canWrite, h, Bool.and_eq_true, Bool.not_eq_true', Option.isNone_iff_eq_none]
  constructor
  · rintro ⟨⟨⟨⟨a, b⟩, d⟩, e⟩, f⟩; exact ⟨a, b, d, e, f⟩
  · rintro ⟨a, b, d, e, f⟩; exact ⟨⟨⟨⟨a, b⟩, d⟩, e⟩, f⟩

/-! ### Transitions -/

theorem enterMode_moving (m : Mode) (s : State) (h : isRestMode m = false) :
    enterMode m s = { s with modes := { s.modes with mode := m, wakeTimer := none } } := by simp [enterMode, h]

/-- Entry into CONFIG, HALTED or PARKED (R114, R120). -/
theorem enterMode_rest (m : Mode) (s : State) (h : isRestMode m = true) :
    enterMode m s = { s with
      modes := { s.modes with mode := m, wakeTimer := none }
      drive := forcedRest s.config s.drive
      floor := { s.floor with cliffs := clearCliffs } } := by simp [enterMode, h]

/-- A fall to HALTED (R165, R168). -/
theorem fallToHalted_eq (reason : HaltReason) (s : State) :
    fallToHalted reason s = { s with
      modes := { s.modes with mode := .halted, wakeTimer := none, haltReason := reason, haltPending := false }
      drive := forcedRest s.config s.drive
      floor := { s.floor with cliffs := clearCliffs }
      latches := { s.latches with modeReached := true, halt := true } } := rfl

theorem leaveStopping_stays (s : State) (h : s.modes.mode ≠ .stopping ∨ s.segments.queue ≠ []) :
    leaveStopping s = s := by
  unfold leaveStopping
  split
  · rename_i hh; rcases h with h | h
    · exact absurd hh.1 h
    · exact absurd hh.2 h
  · rfl

/-! ### Starts -/

/-- The start of the head segment (R88). -/
theorem startSegment_eq (s : State) (g : Segment) (rest : List Segment) (h : s.segments.queue = g :: rest) :
    startSegment s = dockedAtStart g.motion (evaluate (classifySilently (openContext g s))) := by
  simp [startSegment, h]

/-- The start conditions (R87). -/
theorem canStart_iff (s : State) :
    s.canStart = true ↔ s.segments.queue ≠ [] ∧ s.segments.running = none ∧
      (s.modes.mode = .active ∨ s.modes.mode = .parking) ∧ s.atRest = true ∧ s.dock.undock ≠ .wait := by
  simp only [State.canStart, Bool.and_eq_true, Bool.not_eq_true', List.isEmpty_eq_false_iff,
    Option.isNone_iff_eq_none, Bool.or_eq_true, decide_eq_true_eq]
  tauto

end Sys2Proof.Machine
end

