-- ==== Sys2Proof/Laws/PerInstr.lean ====
section
/-! SUPPORT. The family EncodedLength: what is true of every command as syntax, one lemma per constructor. A command that
is a request has a frame of 20 bytes, and its byte 0 is the request code (R177, R179). -/

namespace Sys2Proof.Laws

/-- A command that has a request frame has one of 20 bytes, which starts with its request code (R179). -/
def EncodedLength.Statement (i : Instr) : Prop :=
  ∀ f, Frame.encode i = some f → f.length = 20 ∧ f.head? = (Frame.requestBody i).map Prod.fst

/-- A field of `n` bytes has `n` bytes (R179). -/
@[simp] theorem padTo_length (n : Nat) (bytes : List Byte) : (Machine.padTo n bytes).length = n := by
  induction n generalizing bytes with
  | zero => simp [Machine.padTo]
  | succ n ih => cases bytes <;> simp [Machine.padTo, ih]

/-- What the encoder gives, for every command. -/
theorem encodedLength (i : Instr) : EncodedLength.Statement i := by
  intro f h
  obtain ⟨r, hr, rfl⟩ := Option.map_eq_some_iff.mp h
  simp [hr]

theorem EncodedLength.powerOn : EncodedLength.Statement .powerOn := encodedLength _
theorem EncodedLength.resetPinFall : EncodedLength.Statement .resetPinFall := encodedLength _
theorem EncodedLength.startUpEnd : EncodedLength.Statement .startUpEnd := encodedLength _
theorem EncodedLength.startupTransaction a : EncodedLength.Statement (.startupTransaction a) := encodedLength _
theorem EncodedLength.shortTransaction a : EncodedLength.Statement (.shortTransaction a) := encodedLength _
theorem EncodedLength.nop : EncodedLength.Statement .nop := encodedLength _
theorem EncodedLength.unknownRequest a : EncodedLength.Statement (.unknownRequest a) := encodedLength _
theorem EncodedLength.status : EncodedLength.Statement .status := encodedLength _
theorem EncodedLength.configSet a b : EncodedLength.Statement (.configSet a b) := encodedLength _
theorem EncodedLength.configGet a : EncodedLength.Statement (.configGet a) := encodedLength _
theorem EncodedLength.modeActive : EncodedLength.Statement .modeActive := encodedLength _
theorem EncodedLength.modeConfig : EncodedLength.Statement .modeConfig := encodedLength _
theorem EncodedLength.park : EncodedLength.Statement .park := encodedLength _
theorem EncodedLength.wake : EncodedLength.Statement .wake := encodedLength _
theorem EncodedLength.resume : EncodedLength.Statement .resume := encodedLength _
theorem EncodedLength.restart : EncodedLength.Statement .restart := encodedLength _
theorem EncodedLength.store : EncodedLength.Statement .store := encodedLength _
theorem EncodedLength.storeEnd a : EncodedLength.Statement (.storeEnd a) := encodedLength _
theorem EncodedLength.recordPut a b c d e f g h i j : EncodedLength.Statement (.recordPut a b c d e f g h i j) := encodedLength _
theorem EncodedLength.recordGet a : EncodedLength.Statement (.recordGet a) := encodedLength _
theorem EncodedLength.recordRetire a b : EncodedLength.Statement (.recordRetire a b) := encodedLength _
theorem EncodedLength.recordNext a : EncodedLength.Statement (.recordNext a) := encodedLength _
theorem EncodedLength.pointQuery a b : EncodedLength.Statement (.pointQuery a b) := encodedLength _
theorem EncodedLength.pathQuery a b : EncodedLength.Statement (.pathQuery a b) := encodedLength _
theorem EncodedLength.poseSet a b c d : EncodedLength.Statement (.poseSet a b c d) := encodedLength _
theorem EncodedLength.poseGet : EncodedLength.Statement .poseGet := encodedLength _
theorem EncodedLength.segmentAdd a b c d e f : EncodedLength.Statement (.segmentAdd a b c d e f) := encodedLength _
theorem EncodedLength.segmentCancel a : EncodedLength.Statement (.segmentCancel a) := encodedLength _
theorem EncodedLength.segmentFlush : EncodedLength.Statement .segmentFlush := encodedLength _
theorem EncodedLength.completionRead : EncodedLength.Statement .completionRead := encodedLength _
theorem EncodedLength.noticeRead : EncodedLength.Statement .noticeRead := encodedLength _
theorem EncodedLength.controlPeriodExpiry a : EncodedLength.Statement (.controlPeriodExpiry a) := encodedLength _
theorem EncodedLength.encoderEdge a b c : EncodedLength.Statement (.encoderEdge a b c) := encodedLength _
theorem EncodedLength.stallTimerExpiry a : EncodedLength.Statement (.stallTimerExpiry a) := encodedLength _
theorem EncodedLength.unjamEnd : EncodedLength.Statement .unjamEnd := encodedLength _
theorem EncodedLength.reversalGuardExpiry a : EncodedLength.Statement (.reversalGuardExpiry a) := encodedLength _
theorem EncodedLength.cliffSample a b : EncodedLength.Statement (.cliffSample a b) := encodedLength _
theorem EncodedLength.bumperLineChange a b : EncodedLength.Statement (.bumperLineChange a b) := encodedLength _
theorem EncodedLength.bumperDebounceExpiry a : EncodedLength.Statement (.bumperDebounceExpiry a) := encodedLength _
theorem EncodedLength.liftLineChange a b : EncodedLength.Statement (.liftLineChange a b) := encodedLength _
theorem EncodedLength.liftDebounceExpiry a : EncodedLength.Statement (.liftDebounceExpiry a) := encodedLength _
theorem EncodedLength.observation : EncodedLength.Statement .observation := encodedLength _
theorem EncodedLength.ageingTimerExpiry : EncodedLength.Statement .ageingTimerExpiry := encodedLength _
theorem EncodedLength.dockContactMake : EncodedLength.Statement .dockContactMake := encodedLength _
theorem EncodedLength.dockContactBreak : EncodedLength.Statement .dockContactBreak := encodedLength _
theorem EncodedLength.dockSettleExpiry : EncodedLength.Statement .dockSettleExpiry := encodedLength _
theorem EncodedLength.undockWaitExpiry : EncodedLength.Statement .undockWaitExpiry := encodedLength _
theorem EncodedLength.pauseTimerExpiry : EncodedLength.Statement .pauseTimerExpiry := encodedLength _
theorem EncodedLength.wakeTimerExpiry : EncodedLength.Statement .wakeTimerExpiry := encodedLength _
theorem EncodedLength.linkSilenceExpiry : EncodedLength.Statement .linkSilenceExpiry := encodedLength _
theorem EncodedLength.noticeTimerExpiry : EncodedLength.Statement .noticeTimerExpiry := encodedLength _
theorem EncodedLength.segmentStart : EncodedLength.Statement .segmentStart := encodedLength _
theorem EncodedLength.completionRecordWrite : EncodedLength.Statement .completionRecordWrite := encodedLength _
theorem EncodedLength.powerLoss : EncodedLength.Statement .powerLoss := encodedLength _

end Sys2Proof.Laws
end

