-- ==== Sys2Proof/Laws/Time.lean ====
section
/-! SUPPORT. What a millisecond does, and which own events are due, said once. -/

namespace Sys2Proof.Machine

theorem tickCountdown_countsDown (x : Countdown) : CountsDown x (tickCountdown x) := by
  refine ⟨fun n h => by subst h; rfl, fun h => ?_⟩
  unfold tickCountdown
  split
  · exact absurd rfl (h _)
  · rfl

/-- One millisecond at a part that is ready (section 10.4). -/
theorem tick_later (s : State) (h : s.power = .ready) : OneMsLater s (tick s) := by
  have ht : tick s = { s with
      segments := { s.segments with running := s.segments.running.map tickContext }
      drive := tickDrive s.drive
      floor := tickFloor s.floor
      ageing := tickAgeing s.modes.mode s.ageing
      dock := tickDock s.dock
      modes := tickModes s.modes
      link := tickLink s.link } := by simp only [tick, h]
  rw [ht]
  constructor
  case time_base => simp [tickLink, BitVec.toNat_add]
  case silence => exact tickCountdown_countsDown _
  case notice_timer => exact tickCountdown_countsDown _
  case period => rfl
  case guards => intro w; cases w <;> rfl
  case stalls => intro w; cases w <;> rfl
  case unjam => rfl
  case bumpers => intro w; cases w <;> rfl
  case lifts => intro w; cases w <;> rfl
  case settle => rfl
  case undock => rfl
  case wake => rfl
  case idle_store => intro hs; simp [tickModes, hs]
  case store => intro image n hs; simp [tickModes, hs]
  case ageing => cases hm : s.modes.mode <;> simp [tickAgeing, ageingCounts]
  case pause => rfl
  case rest =>
    have ha : tickAgeing s.modes.mode s.ageing =
        { s.ageing with timer := (tickAgeing s.modes.mode s.ageing).timer } := by
      unfold tickAgeing; split <;> rfl
    simp only [State.mk.injEq, true_and, and_true]
    exact ⟨rfl, rfl, ha, rfl, rfl, rfl⟩

theorem mem_dueIf {b : Bool} {e c : Instr} : c ∈ dueIf b e ↔ b = true ∧ c = e := by cases b <;> simp [dueIf]

theorem reached_iff {n : Nat} {timer : Option Nat} : reached n timer = true ↔ ∃ k, timer = some k ∧ n ≤ k := by
  cases timer <;> simp [reached]

theorem runOut_iff {x : Countdown} : runOut x = true ↔ x = .running 0 := by
  unfold runOut; split <;> simp_all

theorem stallDue_iff {w : Wheel} : stallDue w = true ↔ ∃ x, w.stall = some x ∧ x.length ≤ x.elapsed := by
  unfold stallDue; cases w.stall <;> simp

theorem guardDue_iff {w : Wheel} : guardDue w = true ↔ ∃ g, w.guard = some g ∧ g.length ≤ g.elapsed := by
  unfold guardDue; cases w.guard <;> simp

theorem settleDue_iff {d : Dock} : settleDue d = true ↔ ∃ x, d.settle = some x ∧ x.length ≤ x.elapsed := by
  unfold settleDue; cases d.settle <;> simp

theorem storeDue_iff {m : Modes} : storeDue m = true ↔ ∃ image n, m.store = .writing image n ∧ 80 ≤ n := by
  unfold storeDue; cases m.store <;> simp

theorem pauseDue_iff {s : State} : pauseDue s = true ↔ ∃ c time, s.segments.running = some c ∧ c.cause = none ∧
    c.segment.motion = .pause time ∧ (time : Int) ≤ c.progress := by
  unfold pauseDue
  split
  · rename_i h; simp [h]
  · rename_i h
    simp only [Bool.false_eq_true, false_iff, not_exists, not_and]
    rintro ⟨⟨tag, m⟩, a, b, p, f, e, g⟩ time hr hc hm
    simp only at hc hm
    subst hc hm
    exact absurd hr (h _ _ _ _ _ _ _)

theorem canWrite_due (s : State) : s.canWrite = true ↔ ∃ c, s.segments.running = some c ∧ c.cause ≠ none ∧
    s.atRest = true ∧ s.drive.stop.moveInProgress = false ∧ s.drive.unjam = none ∧ s.floor.resultPending = false := by
  unfold State.canWrite
  cases hr : s.segments.running with
  | none => simp
  | some c => simp [Option.isSome_iff_ne_none, and_assoc]

theorem canStart_due (s : State) : s.canStart = true ↔ s.segments.queue ≠ [] ∧ s.segments.running = none ∧
    (s.modes.mode = .active ∨ s.modes.mode = .parking) ∧ s.atRest = true ∧ s.dock.undock ≠ .wait := by
  simp [State.canStart, and_assoc]

/-- The own events that are due are those of the rules, at their counts. -/
theorem mem_dueEvents (s : State) (c : Instr) : c ∈ dueEvents s ↔ DueNow s c := by
  constructor
  · intro h
    unfold dueEvents at h
    split at h
    · simp at h
    · rename_i n hp
      obtain ⟨h1, rfl⟩ := mem_dueIf.mp h
      exact .startUpEnd n hp (by simpa using h1)
    · rename_i hp
      simp only [dueSegments, dueDrive, dueFloor, dueDock, dueModes, List.mem_append, mem_dueIf, reached_iff, runOut_iff,
        stallDue_iff, guardDue_iff, settleDue_iff, storeDue_iff, pauseDue_iff, canWrite_due, canStart_due,
        Bool.and_eq_true, decide_eq_true_eq, Bool.not_eq_true', List.isEmpty_eq_false_iff, ageingCounts,
        Bool.or_eq_true, Option.map_eq_some_iff] at h
      rcases h with (((((((⟨h, rfl⟩ | ⟨⟨c, h⟩, rfl⟩) | ⟨h, rfl⟩) | ⟨⟨c, t, h⟩, rfl⟩) | ⟨h, rfl⟩) |
        (((((⟨h, rfl⟩ | ⟨⟨x, h⟩, rfl⟩) | ⟨⟨x, h⟩, rfl⟩) | ⟨⟨g, h⟩, rfl⟩) | ⟨⟨g, h⟩, rfl⟩) | ⟨⟨k, ⟨u, hu, rfl⟩, h⟩, rfl⟩)) |
        (((⟨⟨k, h⟩, rfl⟩ | ⟨⟨k, h⟩, rfl⟩) | ⟨⟨k, h⟩, rfl⟩) | ⟨⟨k, h⟩, rfl⟩)) | (⟨⟨x, h⟩, rfl⟩ | ⟨⟨k, h⟩, rfl⟩)) |
        (((⟨⟨hm, k, h⟩, rfl⟩ | ⟨⟨i, n, h⟩, rfl⟩) | ⟨h, rfl⟩) | ⟨h, rfl⟩)
      · exact .observation hp h
      · exact .completionRecordWrite c hp h.1 h.2.1 h.2.2.1 h.2.2.2.1 h.2.2.2.2.1 h.2.2.2.2.2
      · exact .segmentStart hp h.1 h.2.1 h.2.2.1 h.2.2.2.1 h.2.2.2.2
      · exact .pauseTimer c t hp h.1 h.2.1 h.2.2.1 h.2.2.2
      · exact .ageing hp h.1 h.2
      · exact .controlPeriod hp h
      · exact .stall .left x hp h.1 h.2
      · exact .stall .right x hp h.1 h.2
      · exact .guard .left g hp h.1 h.2
      · exact .guard .right g hp h.1 h.2
      · exact .unjam u hp hu h
      · exact .bumper .left k hp h.1 h.2
      · exact .bumper .right k hp h.1 h.2
      · exact .lift .left k hp h.1 h.2
      · exact .lift .right k hp h.1 h.2
      · exact .settle x hp h.1 h.2
      · exact .undock k hp h.1 h.2
      · exact .wake k hp hm h.1 h.2
      · exact .store i n hp h.1 h.2
      · exact .silence hp h
      · exact .notice hp h
  · intro h
    have ready : s.power = .ready → dueEvents s = dueSegments s ++ dueDrive s ++ dueFloor s ++ dueDock s ++ dueModes s :=
      fun hp => by simp only [dueEvents, hp]
    cases h with
    | startUpEnd n hp h => simp [dueEvents, hp, mem_dueIf, h]
    | observation hp h => simp [ready hp, dueSegments, mem_dueIf, h]
    | completionRecordWrite c hp h1 h2 h3 h4 h5 h6 =>
      simp [ready hp, dueSegments, mem_dueIf, (canWrite_due s).mpr ⟨c, h1, h2, h3, h4, h5, h6⟩]
    | segmentStart hp h1 h2 h3 h4 h5 =>
      simp [ready hp, dueSegments, mem_dueIf, (canStart_due s).mpr ⟨h1, h2, h3, h4, h5⟩]
    | pauseTimer c t hp h1 h2 h3 h4 =>
      simp [ready hp, dueSegments, mem_dueIf, pauseDue_iff.mpr ⟨c, t, h1, h2, h3, h4⟩]
    | ageing hp h1 h2 => simp [ready hp, dueSegments, mem_dueIf, ageingCounts, h1, h2]
    | controlPeriod hp h => simp [ready hp, dueDrive, mem_dueIf, h]
    | stall w x hp h1 h2 =>
      have := stallDue_iff.mpr ⟨x, h1, h2⟩
      cases w <;> simp_all [ready hp, dueDrive, mem_dueIf, Pair.get]
    | guard w x hp h1 h2 =>
      have := guardDue_iff.mpr ⟨x, h1, h2⟩
      cases w <;> simp_all [ready hp, dueDrive, mem_dueIf, Pair.get]
    | unjam u hp h1 h2 => simp [ready hp, dueDrive, mem_dueIf, reached_iff, h1, h2]
    | bumper w x hp h1 h2 => cases w <;> simp_all [ready hp, dueFloor, mem_dueIf, reached_iff, Pair.get]
    | lift w x hp h1 h2 => cases w <;> simp_all [ready hp, dueFloor, mem_dueIf, reached_iff, Pair.get]
    | settle x hp h1 h2 => simp [ready hp, dueDock, mem_dueIf, settleDue_iff.mpr ⟨x, h1, h2⟩]
    | undock x hp h1 h2 => simp [ready hp, dueDock, mem_dueIf, reached_iff, h1, h2]
    | wake n hp h0 h1 h2 => simp [ready hp, dueModes, mem_dueIf, reached_iff, h0, h1, h2]
    | store i n hp h1 h2 => simp [ready hp, dueModes, mem_dueIf, storeDue_iff.mpr ⟨i, n, h1, h2⟩]
    | silence hp h => simp [ready hp, dueModes, mem_dueIf, runOut_iff, h]
    | notice hp h => simp [ready hp, dueModes, mem_dueIf, runOut_iff, h]

end Sys2Proof.Machine
end

