-- ==== Sys2Proof/Laws/Triggers.lean ====
section
/-! SUPPORT. What settling leaves of wheels at rest and of the completion queue, and what a floor trigger leaves of a
running segment: the table of R111 said once, and the cause, the response and the record that follow it. -/

namespace Sys2Proof.Machine

/-! ### What settling leaves of the wheels -/

/-- A RAMP request leaves the wheels for the slew steps, but for targets that it sets to 0 (R107). -/
theorem combineStop_ramp_wheels (cfg : Settings) (straight held : Bool) (d : Drive) :
    ((combineStop cfg straight held .ramp d).wheels = d.wheels ∨
      (combineStop cfg straight held .ramp d).wheels = d.wheels.map zeroTarget) ∧
      (combineStop cfg straight held .ramp d).periodMs = d.periodMs := by
  unfold combineStop; split <;> simp_all [beginRamp, zeroTargets]
  split <;> simp

section Wheels

variable {P : Drive → Prop} (same : ∀ d e : Drive, P d → e.wheels = d.wheels ∨ e.wheels = d.wheels.map zeroTarget → e.periodMs = d.periodMs → P e)
  (rest : ∀ cfg d, P d → P (forcedRest cfg d))
include same

/-- A cause whose stop is a RAMP leaves the wheels for the slew steps (R107). -/
theorem handCause_ramp_drive {kind : EndKind} {record : Option Ref} {s : State}
    (hk : kind = .blocked ∨ kind = .blockedZone ∨ kind = .docked) (h : P s.drive) :
    P (handCause kind record s).drive := by
  cases hr : s.segments.running with
  | none => rw [handCause_idle _ _ _ hr]; exact h
  | some c =>
    cases ht : takesCause c kind with
    | false => rw [handCause_dropped _ _ _ c hr ht]; exact h
    | true =>
      rw [handCause_taken _ _ _ c hr ht]
      have hs : stopForCause s.config c.segment.motion kind = some .ramp := by rcases hk with rfl | rfl | rfl <;> rfl
      have hw := combineStop_ramp_wheels s.config c.segment.motion.isStraight c.holdTarget.isSome s.drive
      simp only [hs]
      exact same _ _ h hw.1 hw.2

theorem evaluate_drive {s : State} (h : P s.drive) : P (evaluate s).drive := by
  unfold evaluate
  split
  · exact h
  · unfold handPending
    split
    · exact h
    · exact handCause_ramp_drive same (.inl rfl) h
    · exact handCause_ramp_drive same (.inr (.inl rfl)) h

theorem startSegment_drive {s : State} (h : P s.drive) : P (startSegment s).drive := by
  cases hq : s.segments.queue with
  | nil => simpa [startSegment, hq] using h
  | cons g tail =>
    rw [startSegment_eq s g tail hq]
    have he : P (evaluate (classifySilently (openContext g s))).drive :=
      evaluate_drive same (same s.drive _ h (.inl rfl) rfl)
    unfold dockedAtStart
    split
    · exact handCause_ramp_drive same (.inr (.inr rfl)) he
    · exact he

theorem writeRecord_drive {s : State} (h : P s.drive) : P (writeRecord s).drive := by
  unfold writeRecord
  split
  · split
    · exact same s.drive _ h (.inl rfl) rfl
    · exact h
  · exact h

include rest

omit same in
theorem enterMode_drive {m : Mode} {s : State} (h : P s.drive) : P (enterMode m s).drive := by
  unfold enterMode
  split
  · exact rest _ _ h
  · exact h

omit same in
theorem leaveStopping_drive {s : State} (h : P s.drive) : P (leaveStopping s).drive := by
  unfold leaveStopping
  split
  · split
    · exact enterMode_drive rest (m := .halted) h
    · exact enterMode_drive rest (m := .config) h
  · exact h

theorem settleLoop_drive (n : Nat) {s : State} (h : P s.drive) : P (settleLoop n s).drive := by
  induction n generalizing s with
  | zero => exact h
  | succ n ih =>
    simp only [settleLoop]
    split
    · refine ih ?_
      unfold settleOnce
      split
      · exact leaveStopping_drive rest (writeRecord_drive same h)
      · split
        · exact startSegment_drive same h
        · exact h
    · exact h

/-- Settling moves no setpoint but by a forced rest: records, starts and transitions leave the wheels alone otherwise. -/
theorem settle_drive {s : State} (h : P s.drive) : P (settle s).drive := by
  unfold settle parkIfDrained
  split
  · exact enterMode_drive rest (m := .parked) (settleLoop_drive same rest _ h)
  · exact settleLoop_drive same rest _ h

end Wheels

/-- Wheels that are released stay so through settling (R104, R113, R115). -/
theorem settle_released {cfg : Settings} {d : Drive} {s : State} (h : WheelsReleased cfg d s.drive) :
    WheelsReleased cfg d (settle s).drive :=
  settle_drive (P := WheelsReleased cfg d)
    (fun _ _ h hw hp => by cases h; rcases hw with hw | hw <;> constructor <;> simp_all [Pair.map, zeroTarget])
    (fun _ _ h => by cases h; constructor <;> simp_all [forcedRest, zeroWheels, Pair.map, restWheel, moveSetpoint]) h

/-- Setpoints at 0 stay there through settling (R92, R114). -/
theorem settle_setpoints {s : State} (h1 : s.drive.wheels.left.setpoint = 0) (h2 : s.drive.wheels.right.setpoint = 0) :
    (settle s).drive.wheels.left.setpoint = 0 ∧ (settle s).drive.wheels.right.setpoint = 0 :=
  settle_drive (P := fun d => d.wheels.left.setpoint = 0 ∧ d.wheels.right.setpoint = 0)
    (fun _ _ h hw _ => by rcases hw with hw | hw <;> rw [hw] <;> exact h) (fun _ _ _ => ⟨rfl, rfl⟩) ⟨h1, h2⟩

/-! ### Records through settling -/

theorem settleOnce_completions (s : State) :
    ∃ more, (settleOnce s).segments.completions = s.segments.completions ++ more := by
  unfold settleOnce
  split
  · rename_i hw
    obtain ⟨c, hc⟩ := running_of_canWrite s hw
    obtain ⟨e, he⟩ := Option.isSome_iff_exists.mp ((canWrite_iff s c hc).mp hw).1
    exact ⟨_, by rw [leaveStopping_segments, writeRecord_running_eq s c e hc he]⟩
  · split
    · exact ⟨[], by simp⟩
    · exact ⟨[], by simp⟩

theorem settleLoop_completions (n : Nat) (s : State) :
    ∃ more, (settleLoop n s).segments.completions = s.segments.completions ++ more := by
  induction n generalizing s with
  | zero => exact ⟨[], by simp [settleLoop]⟩
  | succ n ih =>
    simp only [settleLoop]
    split
    · obtain ⟨a, ha⟩ := settleOnce_completions s
      obtain ⟨b, hb⟩ := ih (settleOnce s)
      exact ⟨a ++ b, by rw [hb, ha, List.append_assoc]⟩
    · exact ⟨[], by simp⟩

/-- A record that is due is the first that settling writes (R92, R93). -/
theorem settle_writes (s : State) (c : Context) (e : EndCause) (h : s.segments.running = some c)
    (he : c.cause = some e) (hr : AtRest s) :
    ∃ more, (settle s).segments.completions = s.segments.completions ++
      ⟨c.segment, e.kind, c.cancelSeen, travelledOf c, e.record, s.drive.retries, s.link.timeBase⟩ :: more := by
  have hw : s.canWrite = true := (canWrite_iff s c h).mpr ⟨by simp [he], hr⟩
  unfold settle
  have hone : settleOnce s = leaveStopping (writeRecord s) := by simp [settleOnce, hw]
  have hl : settleLoop (2 * s.segments.queue.length + 2) s =
      settleLoop (2 * s.segments.queue.length + 1) (leaveStopping (writeRecord s)) := by
    simp [settleLoop, hw, hone]
  obtain ⟨more, hm⟩ := settleLoop_completions (2 * s.segments.queue.length + 1) (leaveStopping (writeRecord s))
  refine ⟨more, ?_⟩
  rw [parkIfDrained_segments, hl, hm, leaveStopping_segments, writeRecord_running_eq s c e h he]
  simp

/-- A running segment whose record nothing makes due keeps everything as it is. -/
theorem settle_of_no_write (s : State) (c : Context) (h : s.segments.running = some c) (hw : s.canWrite = false)
    (hq : s.segments.queue ≠ []) : settle s = s :=
  settle_of_settled s ⟨hw, canStart_of_running s c h, not_drained_of_queue s hq⟩

/-! ### Triggers -/

/-- The drive after a stop that may be asked for or not. -/
def stopAsked (cfg : Settings) (c : Context) (asked : Option StopKind) (d : Drive) : Drive :=
  match asked with
  | some kind => combineStop cfg c.segment.motion.isStraight c.holdTarget.isSome kind d
  | none => d

/-- A stop combines with the one in progress by the table of R111. -/
theorem stopAsked_combines (cfg : Settings) (c : Context) (asked : Option StopKind) (d : Drive)
    (h : asked ≠ some .release) : StopCombines cfg c asked d (stopAsked cfg c asked d) := by
  rcases asked with _ | kind
  · simp [StopCombines, stopAsked]
  · have hard : StopsAtOnce cfg .hard d (hardStop cfg d) := ⟨hardStop_released cfg d, rfl⟩
    have back : StopsAtOnce cfg .backoffHalt d (backoffStop cfg d) := ⟨backoffStop_released cfg d, rfl⟩
    cases kind
    · cases hs : d.stop <;> simp [StopCombines, stopAsked, combineStop, hs, beginRamp_eq]
    · cases hs : d.stop <;> simp [StopCombines, stopAsked, combineStop, hs, hard]
    · cases hs : d.stop <;> simp only [StopCombines, stopAsked, combineStop, hs] <;> first | exact hard | skip
      · cases hm : c.segment.motion.isStraight <;> cases hu : d.unjam <;> simp [hard, back]
      · cases hm : c.segment.motion.isStraight <;> simp [hard, back]
    · exact absurd rfl h

theorem stopAsked_retries (cfg : Settings) (c : Context) (asked : Option StopKind) (d : Drive) :
    (stopAsked cfg c asked d).retries = d.retries := by
  cases asked with
  | none => rfl
  | some k =>
    simp only [stopAsked, combineStop, beginRamp]
    repeat' split
    all_goals rfl

/-- A trigger's cause: the first one stands with its protective response, a later one is dropped (R91, R131). -/
theorem triggerCause_running (kind : EndKind) (o : Observation) (s : State) (c : Context)
    (hk : kind = .cliffStop ∨ kind = .bumpStop) (h : s.segments.running = some c) :
    triggerCause kind o s = { s with
      segments := if c.cause = none
        then { s.segments with running := some { c with cause := some ⟨kind, none⟩, phase := .stopping } } else s.segments
      floor := if c.cause = none then { s.floor with response := some ⟨o, .pending s.ageing.observations.length⟩ }
        else s.floor } := by
  have hnone : stopForCause s.config c.segment.motion kind = none := by rcases hk with rfl | rfl <;> rfl
  simp only [triggerCause, h]
  cases hc : c.cause with
  | none =>
    rw [if_pos rfl, handCause_taken kind none s c h (takesCause_first c kind hc)]
    simp [hnone]
  | some e =>
    have ht : takesCause c kind = false := by
      unfold takesCause; simp only [hc]; rcases hk with rfl | rfl <;> rfl
    rw [if_neg (by simp), handCause_dropped kind none s c h ht]
    simp

/-- A trigger during a running segment, in terms of the shared operations. -/
theorem fireTrigger_running (asked : Option StopKind) (kind : EndKind) (o : Observation) (s : State) (c : Context)
    (hk : kind = .cliffStop ∨ kind = .bumpStop) (h : s.segments.running = some c) :
    fireTrigger asked (some kind) o s = settle { s with
      drive := stopAsked s.config c asked s.drive
      ageing := { s.ageing with observations := s.ageing.observations ++ [o] }
      segments := if c.cause = none
        then { s.segments with running := some { c with cause := some ⟨kind, none⟩, phase := .stopping } } else s.segments
      floor := if c.cause = none then { s.floor with response := some ⟨o, .pending s.ageing.observations.length⟩ }
        else s.floor } := by
  have hstop : fireTrigger asked (some kind) o s =
      settle (handObservation o (triggerCause kind o { s with drive := stopAsked s.config c asked s.drive })) := by
    cases asked with
    | none => rfl
    | some k => exact congrArg (fun u => settle (handObservation o (triggerCause kind o u))) (requestStop_running k s c h)
  rw [hstop, triggerCause_running kind o { s with drive := stopAsked s.config c asked s.drive } c hk h]
  cases c.cause <;> rfl

/-- What a CLIFF or BUMP trigger leaves of a running segment (R131, R133, R134, R136). -/
theorem fireTrigger_taken (asked : Option StopKind) (kind : EndKind) (o : Observation) (s : State) (c : Context)
    (hk : kind = .cliffStop ∨ kind = .bumpStop) (h : s.segments.running = some c) (hq : s.segments.queue ≠ [])
    (ha : asked ≠ some .release) :
    TriggerTaken asked c kind o s.ageing.observations.length
      { s with ageing := { s.ageing with observations := s.ageing.observations ++ [o] } }
      (refresh (fireTrigger asked (some kind) o s)) := by
  rw [fireTrigger_running asked kind o s c hk h]
  refine ⟨stopAsked s.config c asked s.drive, stopAsked_combines _ _ _ _ ha, ?_, ?_⟩
  · intro hc
    simp only [hc, if_true]
    rw [settle_of_no_write _ _ rfl (canWrite_of_result_pending _ rfl) (by simpa using hq)]
  · intro e hc
    simp only [hc, reduceCtorEq, if_false]
    obtain ⟨u, hu⟩ : ∃ u : State, u = { s with
        drive := stopAsked s.config c asked s.drive
        ageing := { s.ageing with observations := s.ageing.observations ++ [o] } } := ⟨_, rfl⟩
    have hrun : u.segments.running = some c := by rw [hu]; exact h
    have hret : u.drive.retries = s.drive.retries := by rw [hu]; exact stopAsked_retries _ _ _ _
    have hd : u.drive = stopAsked s.config c asked s.drive := by rw [hu]
    rw [← hu, ← hd]
    refine ⟨fun hh => ?_, fun h1 h2 h3 h4 h5 => ?_⟩
    · have hw : u.canWrite = false := by
        cases hw : u.canWrite with
        | false => rfl
        | true =>
          obtain ⟨r1, r2, r3, r4⟩ := ((canWrite_iff u c hrun).mp hw).2
          simp only [State.atRest, Bool.and_eq_true, decide_eq_true_eq] at r1
          have r5 : u.floor = s.floor := by rw [hu]
          simp_all
      rw [settle_of_no_write u c hrun hw (by rw [hu]; exact hq)]
    · have hr : AtRest u := ⟨by simp [State.atRest, h1, h2], h3, h4, by rw [hu]; exact h5⟩
      obtain ⟨more, hm⟩ := settle_writes u c e hrun hc hr
      refine ⟨settle_setpoints h1 h2, more, ?_⟩
      rw [hret, travelledOf_eq] at hm
      have hs : u.segments = s.segments ∧ u.link = s.link := by rw [hu]; exact ⟨rfl, rfl⟩
      rw [hs.1, hs.2] at hm
      exact hm

end Sys2Proof.Machine
end

