-- ==== Sys2Proof/Tests/Slice0.lean ====
section
/-! SUPPORT. The model's own tests. Each expected result comes from the manual: its worked examples and its tables; the
source stands in the test's docstring. The witnesses at the end show, for each statement with hypotheses, a state and
operands that meet them. -/

namespace Sys2Proof.Tests

set_option Elab.async false

open Sys2Proof.Machine

/-! ### Helpers -/

/-- The state a command leaves. -/
def after (c : Instr) (s : State) : State :=
  match exec c s with
  | .next t => t
  | _ => s

/-- The response frame a command leaves. -/
def answer (c : Instr) (s : State) : List Byte := (after c s).link.response

/-- The part in a mode, idle, with its pose fixed at u 10. -/
def inMode (m : Mode) : State :=
  { State.reset with
    modes := { State.reset.modes with mode := m }
    pose := { State.reset.pose with u := 10, uFix := 10 } }

/-- The part in ACTIVE at a pose. -/
def activeAt (x y : Int) (heading : Nat) : State :=
  { inMode .active with
    pose := { State.reset.pose with xUm := x * 1000, yUm := y * 1000, heading := heading, u := 10, uFix := 10 } }

/-- A table that holds these records at these slots, with their generations. -/
def tableOf (l : List (Nat × Byte × Record)) : Table :=
  l.foldl (fun t x => setSlot t x.1 ⟨x.2.1, some x.2.2⟩) freshTable

/-- A HOST record that is not pinned. -/
def host (h : Hazard) : Record := hostRecord h false 0

/-- The context of a segment that has just started at heading 0. -/
def context (g : Segment) : Context := ⟨g, 0, none, 0, .moving, none, false⟩

/-- The part running a segment, with others waiting, both wheels at a setpoint. -/
def running (c : Context) (rest : List Segment) (v : Int) : State :=
  { inMode .active with
    segments := ⟨c.segment :: rest, some c, []⟩
    drive := { freshDrive with wheels := ⟨{ freshWheel with setpoint := v }, { freshWheel with setpoint := v }⟩ } }

/-- The segments of the worked example of chapter 5. -/
def line1 : Segment := ⟨1, .line false 600 300 true⟩

/-- A SPIN of +1024 at 200. -/
def spin2 : Segment := ⟨2, .spin 1024 200⟩

/-- A PAUSE of 500 ms. -/
def pause4 : Segment := ⟨4, .pause 500⟩

/-- A DOCK of 700 mm at 200. -/
def dock30 : Segment := ⟨30, .dock 700 200⟩

/-! ### Well-formedness: an ill-formed command for each check -/

/-- 20 bytes are no short transaction (R176). -/
theorem test_wellFormed_refuses_long_transaction : (Instr.shortTransaction 20).wellFormed = false := by decide

/-- 0x17 is NOTICE_READ, no unknown code (R177). -/
theorem test_wellFormed_refuses_known_code : (Instr.unknownRequest 0x17).wellFormed = false := by decide

/-- An order that names a block twice, or leaves one out, is no order of a control period (log 7). -/
theorem test_wellFormed_refuses_bad_order :
    (Instr.controlPeriodExpiry [.segment, .segment, .monitor, .slew]).wellFormed = false ∧
    (Instr.controlPeriodExpiry [.segment, .drive, .monitor]).wellFormed = false := by decide

/-! ### Frames (R176, R177, R179) -/

/-- RECORD_PUT with its fields at the offsets of the record body (R179). -/
theorem test_decode_recordPut :
    Frame.decodeTransaction [0x0B, 2, 1, 4, 0, 0, 0, 0, 20, 0x05, 0xDC, 0x03, 0x84, 0x03, 0x20, 0x00, 0xC8, 0x02, 0x8A,
      0] = .recordPut 2 1 4 0 20 1500 900 800 200 650 := by decide

/-- SEGMENT_ADD: LINE, tag 1, forward, hold, 600 mm at 300 (R179). -/
theorem test_decode_segmentAdd :
    Frame.decodeTransaction [0x13, 1, 0, 0, 1, 0x02, 0x58, 0x01, 0x2C, 0, 0, 0, 0, 0, 0, 0, 0, 0, 0, 0] =
      .segmentAdd 1 0 0 1 600 300 := by decide

/-- POSE_SET (1000, 500, 512, 10), with a byte past the twentieth ignored (R176, R179). -/
theorem test_decode_poseSet :
    Frame.decodeTransaction [0x11, 0x03, 0xE8, 0x01, 0xF4, 0x02, 0x00, 0x00, 0x0A, 0, 0, 0, 0, 0, 0, 0, 0, 0, 0, 0, 0xFF] =
      .poseSet 1000 500 512 10 := by decide

/-- CONFIG_SET, a code above 0x17 and a transaction of 12 bytes (R176, R179). -/
theorem test_decode_others :
    Frame.decodeTransaction [0x02, 9, 0x1C, 0x3A, 0, 0, 0, 0, 0, 0, 0, 0, 0, 0, 0, 0, 0, 0, 0, 0] = .configSet 9 7226 ∧
    Frame.decodeTransaction (0x30 :: List.replicate 19 0) = .unknownRequest 0x30 ∧
    Frame.decodeTransaction (List.replicate 12 0) = .shortTransaction 12 := by decide

/-! ### Conventions (00) -/

/-- The examples of the trigonometry table. -/
theorem test_trig_examples :
    (cosAt 8, sinAt 8) = (2896, 2896) ∧ (cosAt 16, sinAt 16) = (0, 4096) ∧ (cosAt 32, sinAt 32) = (-4096, 0) := by decide

/-- The examples of rounding and of a signed difference of headings. -/
theorem test_rounding_examples :
    floorDiv (-7) 2 = -4 ∧ truncDiv (-7) 2 = -3 ∧ headingDiff 100 4000 = 196 := by decide

/-! ### Hazard Table: the worked example of chapter 1 -/

/-- The table of the example before its step 6, with slot 2 free at generation 1. -/
def exampleTable : Table :=
  setSlot (tableOf [(0, 1, ⟨.keepout ⟨-4000, 2000, -2500, 3500, 10⟩, .host, true, 15, 0, 0, false⟩),
    (1, 1, ⟨.dock ⟨0, -300, 60⟩ 1024, .host, true, 15, 0, 0, false⟩),
    (3, 1, ⟨.drop ⟨1116, 616, 30⟩, .cliff, false, 4, 0, 1, true⟩)]) 2 ⟨1, none⟩

/-- The part of the example. -/
def exampleState : State := { inMode .active with table := exampleTable }

/-- Step 5: the host adopts slot 3, whose generation and hits stay. -/
theorem test_recordPut_adopts :
    slotAt (after (.recordPut 3 1 1 4 0 1120 620 40 0 0) exampleState).table 3 =
      ⟨1, some ⟨.drop ⟨1120, 620, 40⟩, .host, true, 15, 0, 1, false⟩⟩ := by decide +kernel

/-- Step 6: the corners are exchanged, the limit is taken as `speed_max`, and slot 2 goes live at generation 2. -/
theorem test_recordPut_takes_fields :
    answer (.recordPut 2 1 4 0 20 1500 900 800 200 650) exampleState =
      [0x0B, 0, 2, 2, 4, 0, 15, 0, 0, 20, 0x03, 0x20, 0x00, 0xC8, 0x05, 0xDC, 0x03, 0x84, 0x01, 0xF4] := by decide +kernel

/-- Step 3 and step 6: a stale generation, live and free. -/
theorem test_recordRetire_stale :
    (answer (.recordRetire 3 0) exampleState).take 5 = [0x0D, 6, 3, 1, 1] ∧
    (answer (.recordPut 2 0 4 0 20 1500 900 800 200 650) exampleState).take 5 = [0x0B, 6, 2, 1, 0] := by decide +kernel

/-- Step 4: slot 3 is freed and keeps its generation. -/
theorem test_recordRetire_frees :
    slotAt (after (.recordRetire 3 1) exampleState).table 3 = ⟨1, none⟩ := by decide +kernel

/-- Step 7: NOT_LIVE with the generation of a free slot. -/
theorem test_recordGet_notLive : (answer (.recordGet 4) exampleState).take 4 = [0x0C, 7, 4, 0] := by decide +kernel

/-- Step 8: the walk finds slot 3 from slot 2, and nothing from slot 4. -/
theorem test_recordNext_walk :
    (answer (.recordNext 2) exampleState).take 4 = [0x0E, 0, 3, 1] ∧
    (answer (.recordNext 4) exampleState).take 2 = [0x0E, 5] := by decide +kernel

/-! ### Region Classifier: the worked example of chapter 2 -/

/-- The rectangles of the example. -/
def zoneTable : Table :=
  tableOf [(10, 1, host (.keepout ⟨2000, -1000, 3000, 3000, 20⟩)), (11, 1, host (.clear ⟨2000, 800, 3000, 1400, 5⟩)),
    (12, 1, host (.darkRug ⟨-500, 0, 1500, 1200, 30⟩ none)), (13, 1, host (.slow ⟨1200, 400, 1800, 900, 30⟩ (some 180)))]

/-- The LINE of the example running at a place. -/
def zoneState (x y : Int) : State :=
  { activeAt x y 0 with
    table := zoneTable
    segments := ⟨[⟨1, .line false 3000 400 false⟩], some (context ⟨1, .line false 3000 400 false⟩), []⟩ }

/-- The rows of the example's table: centre, probe and zone limit. -/
theorem test_zone_rows :
    classification (zoneState 1351 500) = ⟨⟨.darkRug, some ⟨12, 1⟩⟩, ⟨.slow, some ⟨13, 1⟩⟩, some 180⟩ ∧
    classification (zoneState 1501 500) = ⟨⟨.slow, some ⟨13, 1⟩⟩, ⟨.slow, some ⟨13, 1⟩⟩, some 180⟩ ∧
    classification (zoneState 1850 500) = ⟨bareResult, ⟨.keepout, some ⟨10, 1⟩⟩, none⟩ ∧
    (classification (zoneState 1850 1100)).probe = ⟨.clear, some ⟨11, 1⟩⟩ := by decide +kernel

/-- POINT_QUERY in the doorway: CLEAR, slot 11, order 5, no limit (R33). -/
theorem test_pointQuery_doorway :
    answer (.pointQuery 2000 1100) (zoneState 0 0) =
      [0x0F, 0, 0x07, 0xD0, 0x04, 0x4C, 1, 11, 1, 5, 0, 0, 0, 0, 0, 0, 0, 0, 0, 0] := by decide +kernel

/-! ### Pose Integrator: the worked example of chapter 3 -/

/-- The pose of the example's fix. -/
def fixedPose : Pose := ⟨1000000, 500000, 510, 0, 10, 0, 10, ⟨0, 0⟩, ⟨⟨false, false⟩, ⟨false, false⟩⟩⟩

/-- Periods 1 to 3: the heading goes to 512 and back to 510, and the remainder to 1932 and back to 0. -/
theorem test_odometry_periods :
    odometry factorySettings 20 24 fixedPose =
      { fixedPose with xUm := 1003110, yUm := 503110, heading := 512, remainder := 1932, distance := 4400 } ∧
    odometry factorySettings 24 20 { fixedPose with heading := 512, remainder := 1932, distance := 8800 } =
      { fixedPose with xUm := 1003110, yUm := 503110, distance := 13200 } := by decide +kernel

/-- Periods 6 and 7: the steps at index 9, forward and back, and reverse travel that counts as travel. -/
theorem test_odometry_reverse :
    odometry factorySettings 25 25 { fixedPose with xUm := 1009330, yUm := 509330, heading := 578, remainder := 152, distance := 13200 } =
      { fixedPose with xUm := 1012501, yUm := 513194, heading := 578, remainder := 152, distance := 18200 } ∧
    odometry factorySettings (-25) (-25) { fixedPose with xUm := 1012501, yUm := 513194, heading := 578, remainder := 152, distance := 18200 } =
      { fixedPose with xUm := 1009330, yUm := 509330, heading := 578, remainder := 152, distance := 23200 } := by
  decide +kernel

/-- The fix of the later step: POSE_SET (4210, 2875, 1030, 15). -/
theorem test_poseSet_fix :
    (after (.poseSet 4210 2875 1030 15) (inMode .active)).pose =
      ⟨4210000, 2875000, 1030, 0, 15, 0, 15, ⟨0, 0⟩, ⟨⟨false, false⟩, ⟨false, false⟩⟩⟩ := by decide +kernel

/-- POSE_GET answers that fix, with distance 0 and not docked (R49). -/
theorem test_poseGet_fix :
    answer .poseGet (after (.poseSet 4210 2875 1030 15) (inMode .active)) =
      [0x12, 0, 0x10, 0x72, 0x0B, 0x3B, 0x04, 0x06, 15, 0, 0, 0, 0, 0, 0, 0, 0, 0, 0, 0] := by decide +kernel

/-- A rise of channel A while B is low is one tick ahead (R36). -/
theorem test_encoderEdge_ahead :
    (after (.encoderEdge .left true false) (inMode .active)).pose.ticks = ⟨1, 0⟩ := by decide +kernel

/-! ### Clearance Monitor: the worked examples of chapter 4 -/

/-- The reference case: slot 7 at gap 284, slot 12 beside the band, and neither in the path of the reverse. -/
theorem test_gap_reference :
    gapOf factorySettings 10 1000 500 (directionOf 512 false) ⟨1400, 820, 25⟩ = some 284 ∧
    gapOf factorySettings 10 1000 500 (directionOf 512 false) ⟨1200, 300, 30⟩ = none ∧
    alongOf 1000 500 (directionOf 512 true) ⟨1400, 820, 25⟩ = -510 ∧
    gapOf factorySettings 10 1000 500 (directionOf 512 true) ⟨1400, 820, 25⟩ = none := by decide +kernel

/-- The second example: two posts that tie, a drop beside, the dock behind. -/
def postsTable : Table :=
  tableOf [(1, 1, host (.dock ⟨1500, 1000, 60⟩ 0)), (3, 2, host (.post ⟨2590, 1150, 30⟩)),
    (4, 1, host (.drop ⟨2300, 1240, 30⟩)), (9, 1, host (.post ⟨2590, 850, 30⟩))]

/-- PATH_QUERY of the second example, forward: gap 360, slot 3 generation 2, gap term 1080, BARE, clear (R71). -/
theorem test_pathQuery_tie :
    answer (.pathQuery 0 0) { activeAt 2000 1000 0 with table := postsTable } =
      [0x10, 0, 0, 0, 0, 10, 0x01, 0x68, 3, 2, 0x04, 0x38, 0, 255, 0, 0, 0, 0, 0, 0] := by decide +kernel

/-- At x 2355 the gap equals `block_gap`, which does not block; at 2356 it is 4, and the LINE takes BLOCKED naming slot
3 at generation 2. -/
theorem test_blocked_at_the_gap :
    (evaluate { zoneState 2355 1000 with table := postsTable }).clearance.pending = .none ∧
    (evaluate { zoneState 2356 1000 with table := postsTable }).clearance.pending = .blocked ⟨3, 2⟩ := by decide +kernel

/-! ### Segment Controller: the worked examples of chapter 5 -/

/-- Step 1: LINE 1 starts at once, and its response shows place 0, one segment and no record. -/
theorem test_segmentAdd_starts :
    answer (.segmentAdd 1 0 0 1 600 300) (inMode .active) =
      [0x13, 0, 1, 0, 0, 1, 0x02, 0x58, 0x01, 0x2C, 0, 1, 0, 0, 0, 0, 0, 0, 0, 0] ∧
    (after (.segmentAdd 1 0 0 1 600 300) (inMode .active)).segments.running =
      some ⟨line1, 0, some 0, 0, .moving, none, false⟩ := by decide +kernel

/-- Step 5: DUPLICATE_TAG, waiting. -/
theorem test_segmentAdd_duplicate :
    (answer (.segmentAdd 2 0 0 0 100 200) (running (context line1) [spin2] 60)).take 4 = [0x13, 4, 2, 0] := by
  decide +kernel

/-- Step 6: the cancelled segment leaves the queue and its record is written at once. -/
theorem test_segmentCancel_waiting :
    (after (.segmentCancel 2) (running (context line1) [spin2, pause4] 60)).segments.queue = [line1, pause4] ∧
    (after (.segmentCancel 2) (running (context line1) [spin2, pause4] 60)).segments.completions =
      [⟨spin2, .cancelled, true, 0, none, 0, 0⟩] := by decide +kernel

/-- Step 9: PAUSE 4 takes FLUSHED and is written at once with travelled 200. -/
theorem test_segmentFlush_pause :
    (after .segmentFlush (running { context pause4 with progress := 200 } [] 0)).segments =
      ⟨[], none, [⟨pause4, .flushed, false, 200, none, 0, 0⟩]⟩ ∧
    (answer .segmentFlush (running { context pause4 with progress := 200 } [] 0)).take 4 = [0x15, 0, 0, 1] := by
  decide +kernel

/-- Step 10: the record of tag 3, and EMPTY with count 0. -/
theorem test_completionRead_order :
    answer .completionRead { inMode .active with
      segments := ⟨[], none, [⟨⟨2, .spin 1024 200⟩, .completed, true, 1026, none, 0, 0⟩]⟩ } =
      [0x16, 0, 2, 1, 0, 1, 0x04, 0x02, 255, 0, 0, 0, 0, 0, 0, 0, 0, 0, 0, 0] ∧
    (answer .completionRead (inMode .active)).take 3 = [0x16, 12, 0] := by decide +kernel

/-- The end of a PAUSE at its time (R81). -/
theorem test_pauseTimer_completes :
    (after .pauseTimerExpiry (running (context pause4) [] 0)).segments =
      ⟨[], none, [⟨pause4, .completed, false, 500, none, 0, 0⟩]⟩ := by decide +kernel

/-! ### Drive Controller: the worked examples of chapter 6 -/

/-- The table of heading hold about base 300 with hold target 0 (R106). -/
theorem test_headingHold_rows :
    steered factorySettings 300 (some 0) 4060 = ⟨282, 318⟩ ∧ steered factorySettings 300 (some 0) 4000 = ⟨252, 348⟩ ∧
    steered factorySettings 300 (some 0) 3700 = ⟨225, 375⟩ ∧ steered factorySettings 300 (some 0) 0 = ⟨300, 300⟩ := by
  decide +kernel

/-- The duties of the same table, for its first and third rows (R113). -/
theorem test_duty_rows :
    (motorOut factorySettings true { freshWheel with setpoint := 282 }).duty = 576 ∧
    (motorOut factorySettings true { freshWheel with setpoint := 318 }).duty = 650 ∧
    (motorOut factorySettings true { freshWheel with setpoint := 225 }).duty = 460 := by decide +kernel

/-- Steps 16 and 19 of the steered ramp: the right setpoint is limited by `decel_step` (R103, R107). -/
theorem test_ramp_rows :
    (steered factorySettings 60 (some 0) 4060, slewed factorySettings none 57 45, slewed factorySettings none 93 75) =
      (⟨45, 75⟩, 45, 78) ∧
    (steered factorySettings 15 (some 0) 4060, slewed factorySettings none 23 12, slewed factorySettings none 48 18) =
      (⟨12, 18⟩, 12, 33) := by decide +kernel

/-- The cliff backoff: HALT sets both setpoints to 0 with guards of sign positive (R110). -/
theorem test_backoff_halt :
    (backoffStop factorySettings (running (context line1) [] 200).drive).wheels.left =
      { freshWheel with guard := some ⟨true, 0, 40⟩ } ∧
    (backoffStop factorySettings (running (context line1) [] 200).drive).stop = .backoffHalt := by decide +kernel

/-- At the next slew step the phase is REVERSE, both targets are -60 and the guards hold the setpoints at 0. -/
theorem test_controlPeriod_backoff :
    (after (.controlPeriodExpiry canonicalOrder)
      { running { context line1 with cause := some ⟨.cliffStop, none⟩, phase := .stopping } [] 0 with
        drive := backoffStop factorySettings (running (context line1) [] 200).drive }).drive.wheels.left =
      { freshWheel with target := -60, guard := some ⟨true, 0, 40⟩ } := by decide +kernel

/-- The SPIN of step 8 takes COMPLETED over CANCELLED in the period that passes its angle (R91). -/
theorem test_controlPeriod_completes :
    ((takeProgress (some 2) ⟨0, 2⟩ (running { context spin2 with
      progress := 1023, cause := some ⟨.cancelled, none⟩, phase := .stopping, cancelSeen := true } [] 45)).segments.running.map
        fun c => (c.progress, c.cause)) = some (1025, some ⟨.completed, none⟩) := by decide +kernel

/-- A tassel on a rug: at the first expiry the retry count becomes 1, both unjam targets are -60 and the timers take 400
ms. -/
theorem test_stallTimer_unjams :
    let s := { running (context line1) [] 120 with
      zones := ⟨⟨.rug, some ⟨12, 1⟩⟩, bareResult, none⟩
      drive := { freshDrive with
        wheels := ⟨{ freshWheel with setpoint := 120, stall := some ⟨400, 400, true⟩ },
          { freshWheel with setpoint := 120, stall := some ⟨10, 400, true⟩ }⟩ } }
    (after (.stallTimerExpiry .left) s).drive.retries = 1 ∧
    (after (.stallTimerExpiry .left) s).drive.unjam = some ⟨0, ⟨-60, -60⟩⟩ ∧
    (after (.stallTimerExpiry .left) s).drive.wheels.right.stall = some ⟨0, 400, true⟩ := by decide +kernel

/-- The end of that unjam: the segment is MOVING again (R117). -/
theorem test_unjamEnd_moves :
    ((after .unjamEnd { running { context line1 with phase := .unjam } [] (-60) with
      drive := { freshDrive with unjam := some ⟨150, ⟨-60, -60⟩⟩ } }).segments.running.map Context.phase) =
      some .moving := by decide +kernel

/-! ### Floor Sensor Monitor: the worked examples of chapter 7 -/

/-- The four room points at (1000, 500, 512) (R121). -/
theorem test_roomPoints :
    roomPoint (activeAt 1000 500 512) .fl = (1049, 662) ∧ roomPoint (activeAt 1000 500 512) .fc = (1116, 616) ∧
    roomPoint (activeAt 1000 500 512) .fr = (1162, 549) ∧ roomPoint (activeAt 1000 500 512) .rc = (893, 393) := by
  decide +kernel

/-- The three contact points at the same pose (R128). -/
theorem test_contactPoints :
    contactPoint (activeAt 1000 500 512) (.one .left) = (1000, 710) ∧
    contactPoint (activeAt 1000 500 512) (.one .right) = (1210, 500) ∧
    contactPoint (activeAt 1000 500 512) .both = (1148, 648) := by decide +kernel

/-- The pile of the dark runner: the states and counts after the six samples (R123, R124). -/
theorem test_judge_pile :
    ([31, 26, 9, 10, 28, 44].foldl (fun l v => l ++ [judge factorySettings true v (l.getLastD clearCliff)]) []) =
      [⟨.suspect, 0⟩, ⟨.suspect, 0⟩, ⟨.suspect, 1⟩, ⟨.suspect, 2⟩, ⟨.suspect, 0⟩, ⟨.clear, 0⟩] := by decide +kernel

/-- On bare floor the sensor trips at sample 2; at the runner's end it trips at the eighth (R123, R124). -/
theorem test_judge_edges :
    ([31, 26].foldl (fun c v => judge factorySettings false v c) clearCliff) = ⟨.tripped, 2⟩ ∧
    ([6, 5, 4, 4, 3, 3, 2].foldl (fun c v => judge factorySettings true v c) ⟨.suspect, 0⟩) = ⟨.suspect, 7⟩ ∧
    judge factorySettings true 2 ⟨.suspect, 7⟩ = ⟨.tripped, 8⟩ := by decide +kernel

/-- The HOST DROP at (1120, 620) puts the three front sensors under the floor criteria and leaves the rear one lenient. -/
theorem test_lenient_sensors :
    let s := { activeAt 1000 500 512 with
      table := tableOf [(5, 1, host (.drop ⟨1120, 620, 40⟩))]
      zones := ⟨⟨.darkRug, some ⟨12, 1⟩⟩, bareResult, none⟩ }
    [lenientApply s .fl, lenientApply s .fc, lenientApply s .fr, lenientApply s .rc] = [false, false, false, true] := by
  decide +kernel

/-- The trip at (3000, 1200): the LINE takes CLIFF_STOP, and the DROP at (3165, 1200) is handed on. -/
theorem test_cliffSample_trips :
    let s := { running (context line1) [] 60 with
      pose := (activeAt 3000 1200 0).pose
      floor := { freshFloor releasedLines with cliffs := clearCliffs.set .fc ⟨.suspect, 1⟩ } }
    ((after (.cliffSample .fc 2) s).segments.running.map Context.cause) = some (some ⟨.cliffStop, none⟩) ∧
    (after (.cliffSample .fc 2) s).ageing.observations = [⟨true, 3165, 1200⟩] := by decide +kernel

/-- A press away from the debounced level starts the debounce at 0 (R126). -/
theorem test_bumperLine_starts :
    (after (.bumperLineChange .left true) (inMode .active)).floor.bumpers.left =
      ⟨⟨true, false, some 0⟩, false⟩ := by decide +kernel

/-- A press that completes at (1000, 500, 512) hands on a POST at the left contact point (R127, R128). -/
theorem test_bumperDebounce_hands_on :
    (after (.bumperDebounceExpiry .left) { activeAt 1000 500 512 with
      floor := { freshFloor releasedLines with
        bumpers := ⟨⟨⟨true, false, some 3⟩, false⟩, settledBumper false⟩ } }).ageing.observations =
      [⟨false, 1000, 710⟩] := by decide +kernel

/-- A lift change starts its debounce, and its end in ACTIVE halts the part for LIFTED (R126, R129, R168). -/
theorem test_lift_halts :
    (after (.liftLineChange .right true) (inMode .active)).floor.lifts.right = ⟨true, false, some 0⟩ ∧
    (after (.liftDebounceExpiry .right) { inMode .active with
      floor := { freshFloor releasedLines with lifts := ⟨settledSwitch false, ⟨true, false, some 20⟩⟩ } }).modes =
      ⟨.halted, .lifted, false, none, .idle⟩ := by decide +kernel

/-! ### Observations: the worked examples of chapter 8 -/

/-- Slot 20 after observation 1, before observation 2. -/
def edgeState : State :=
  { inMode .active with
    table := tableOf [(20, 3, ⟨.drop ⟨3165, 1200, 30⟩, .cliff, false, 4, 0, 1, false⟩)]
    ageing := ⟨0, [⟨true, 3152, 1213⟩]⟩ }

/-- Observation 2: the centre moves by -6 and 6, and the confidence becomes 7. -/
theorem test_observation_merges :
    slotAt (after .observation edgeState).table 20 =
      ⟨3, some ⟨.drop ⟨3159, 1206, 30⟩, .cliff, false, 7, 0, 2, true⟩⟩ ∧
    (after .observation edgeState).link.notices =
      [⟨.recordMerged, some ⟨20, 3⟩, some .drop, some .tentative, 3159, 1206, none, 0⟩] := by decide +kernel

/-- The victim of the full table: slot 55 before slot 60, and before slot 41 by its age. -/
theorem test_victim_order :
    (victim (tableOf [(40, 2, ⟨.post ⟨500, 2200, 40⟩, .bump, false, 4, 0, 1, false⟩),
      (41, 1, ⟨.drop ⟨-800, 900, 30⟩, .cliff, false, 2, 3, 1, false⟩),
      (55, 4, ⟨.post ⟨1400, -600, 40⟩, .bump, false, 2, 5, 1, false⟩),
      (60, 1, ⟨.drop ⟨2900, 1500, 30⟩, .cliff, false, 2, 5, 1, false⟩)])).map Live.ref = some ⟨55, 4⟩ := by decide +kernel

/-- Passes C, D and M of the example: the flag cleared, a step of confidence, and the slot freed at its generation. -/
theorem test_ageing_passes :
    agedSlot ⟨3, some ⟨.drop ⟨3164, 1201, 30⟩, .cliff, false, 10, 0, 3, true⟩⟩ =
      ⟨3, some ⟨.drop ⟨3164, 1201, 30⟩, .cliff, false, 10, 0, 3, false⟩⟩ ∧
    agedSlot ⟨3, some ⟨.drop ⟨3164, 1201, 30⟩, .cliff, false, 10, 0, 3, false⟩⟩ =
      ⟨3, some ⟨.drop ⟨3164, 1201, 30⟩, .cliff, false, 9, 1, 3, false⟩⟩ ∧
    agedSlot ⟨3, some ⟨.drop ⟨3164, 1201, 30⟩, .cliff, false, 1, 9, 3, false⟩⟩ = ⟨3, none⟩ := by decide

/-- Pass M on the table: the notice names slot 20 at generation 3, AGED (R152). -/
theorem test_ageingTimer_retires :
    (after .ageingTimerExpiry { inMode .active with
      table := tableOf [(20, 3, ⟨.drop ⟨3164, 1201, 30⟩, .cliff, false, 1, 9, 3, false⟩)] }).link.notices =
      [⟨.recordRetired, some ⟨20, 3⟩, some .drop, some .aged, 3164, 1201, none, 0⟩] := by decide +kernel

/-! ### Dock Contact Monitor: the worked example of chapter 9 -/

/-- The contacts meet, and the settle starts with 100 ms. -/
theorem test_dockContactMake_settles :
    (after .dockContactMake (inMode .active)).dock = ⟨true, some ⟨0, 100⟩, false, .none, none⟩ := by decide +kernel

/-- The settle ends: docked, DOCK_MADE, and charge on at rest. -/
theorem test_dockSettle_charges :
    let s := { inMode .active with dock := ⟨true, some ⟨100, 100⟩, false, .none, none⟩ }
    (after .dockSettleExpiry s).dock.docked = true ∧ (after .dockSettleExpiry s).outputs.chargeEnable = true ∧
    ((after .dockSettleExpiry s).link.notices.map Notice.kind) = [.dockMade] := by decide +kernel

/-- The PAUSE of tag 31 on the dock: WAIT and charge off at its start, LEAVING 20 ms later (R159). -/
theorem test_undockWait_leaves :
    let s := { inMode .active with dock := ⟨true, none, true, .none, none⟩ }
    (after (.segmentAdd 31 3 0 0 500 0) s).dock.undock = .wait ∧
    (after (.segmentAdd 31 3 0 0 500 0) s).outputs.chargeEnable = false ∧
    (after .undockWaitExpiry (after (.segmentAdd 31 3 0 0 500 0) s)).dock.undock = .leaving := by decide +kernel

/-- A break that no segment caused clears docked at once and reports DOCK_LOST (R157). -/
theorem test_dockContactBreak_reports :
    ((after .dockContactBreak { inMode .active with
      dock := ⟨true, none, true, .none, none⟩ }).link.notices.map Notice.kind) = [.dockLost] := by decide +kernel

/-! ### Modes: the worked examples of chapter 10 -/

/-- Link loss while LINE 5 runs with LINE 6 and LINE 7 waiting. -/
theorem test_linkSilence_stops :
    let s := running (context ⟨5, .line false 600 300 false⟩)
      [⟨6, .line false 600 300 false⟩, ⟨7, .line false 600 300 false⟩] 300
    (after .linkSilenceExpiry s).modes = ⟨.stopping, .none, true, none, .idle⟩ ∧
    ((after .linkSilenceExpiry s).segments.completions.map fun r => (r.segment.tag, r.outcome)) =
      [(6, .flushed), (7, .flushed)] := by decide +kernel

/-- The record of tag 5 is written, and the part is HALTED for LINK_LOST with both causes latched. -/
theorem test_recordWrite_halts :
    let s := { running { context ⟨5, .line false 600 300 false⟩ with cause := some ⟨.linkLost, none⟩, phase := .stopping }
      [] 0 with modes := ⟨.stopping, .none, true, none, .idle⟩ }
    (after .completionRecordWrite s).modes = ⟨.halted, .linkLost, false, none, .idle⟩ ∧
    (after .completionRecordWrite s).latches = ⟨true, true, false, false, false, true⟩ := by decide +kernel

/-- Parking on the dock: PARKING while the right guard runs, PARKED with MODE_REACHED and the sensors off when it
clears. -/
theorem test_park_waits_for_guard :
    let s := { inMode .active with drive := { freshDrive with
      wheels := ⟨freshWheel, { freshWheel with guard := some ⟨true, 10, 40⟩ }⟩ } }
    (after .park s).modes.mode = .parking ∧
    (after (.reversalGuardExpiry .right) (after .park s)).modes.mode = .parked ∧
    (after (.reversalGuardExpiry .right) (after .park s)).outputs.sensorPower = false := by decide +kernel

/-- WAKE, and ACTIVE at the end of the wake timer (R169). -/
theorem test_wake_leads_to_active :
    (after .wake (inMode .parked)).modes.mode = .waking ∧
    (after .wakeTimerExpiry (after .wake (inMode .parked))).modes.mode = .active := by decide +kernel

/-- MODE_CONFIG at step 5 of chapter 5's second example: STOPPING, the waiting segment FLUSHED. -/
theorem test_modeConfig_flushes :
    (after .modeConfig (running (context line1) [spin2] 60)).modes.mode = .stopping ∧
    (after .modeConfig (running (context line1) [spin2] 60)).segments.completions =
      [⟨spin2, .flushed, false, 0, none, 0, 0⟩] := by decide +kernel

/-- RESUME answers OK with ACTIVE, and the halt reason stays. -/
theorem test_resume_keeps_reason :
    let s := { inMode .active with modes := ⟨.halted, .linkLost, false, none, .idle⟩ }
    (answer .resume s).take 3 = [0x08, 0, 1] ∧ (after .resume s).modes = ⟨.active, .linkLost, false, none, .idle⟩ := by
  decide +kernel

/-- RESTART leaves CONFIG with the latched causes clear and the attention line down (R174, R183). -/
theorem test_restart_clears :
    (after .restart (inMode .active)).modes.mode = .config ∧
    (after .restart (inMode .active)).outputs.attention = false := by decide +kernel

/-- STORE starts WRITING the snapshot's image (R173). -/
theorem test_store_writes :
    (after .store State.reset).modes.store = .writing (imageOf factorySettings freshTable) 0 := by rfl

/-- The end of a store latches STORE_DONE with its result OK (R173, R182). -/
theorem test_storeEnd_latches :
    (after (.storeEnd none) { State.reset with
      modes := { State.reset.modes with store := .writing [1, 2] 80 } }).latches =
      ⟨false, false, true, false, false, true⟩ := by decide +kernel

set_option maxRecDepth 4000 in
/-- The image of the factory values: 95 bytes before the CRC, and the CRCs agree (R172). -/
theorem test_image_good :
    (imageData factorySettings freshTable).length = 95 ∧
    imageGood (imageOf factorySettings freshTable) = true := by decide +kernel

/-- CONFIG_SET holds `rug_threshold` below `floor_threshold`, and CONFIG_GET reads it (R175). -/
theorem test_configSet_clamps :
    item (after (.configSet 20 200) State.reset).config 20 = 39 ∧
    (answer (.configGet 9) State.reset).take 4 = [0x03, 0, 0x1C, 0x3A] := by decide +kernel

/-- POWER_LOSS turns every output off; the fall of the reset pin begins start-up (R171). -/
theorem test_power_loss :
    (after .powerLoss (inMode .active)).outputs = restOutputs ∧
    (after .resetPinFall (inMode .active)).power = .startUp 0 := by decide +kernel

/-! ### Link: the conversation of chapter 11 -/

/-- Transaction 1: STATUS shifts out NOP, STARTING, and answers CONFIG with STORE_BAD latched. -/
theorem test_status_first :
    (after .status State.reset).link.dataOut.take 2 = [0, 14] ∧
    (answer .status State.reset).take 5 = [1, 0, 0, 0, 32] := by decide +kernel

/-- Transactions 5 and 6: the first 12 bytes of the response, and UNKNOWN for code 0x30. -/
theorem test_short_and_unknown :
    (after (.shortTransaction 12) (after (.poseSet 1000 500 512 10) State.reset)).link.dataOut =
      [0x11, 0, 0x03, 0xE8, 0x01, 0xF4, 0x02, 0x00, 10, 0, 0, 0] ∧
    (answer (.unknownRequest 0x30) State.reset).take 2 = [0x30, 13] := by decide +kernel

/-- The notice of a fix onto a RUG waits 100 ms; the timer's end raises the line, and the read stops the timer. -/
theorem test_notice_line :
    let s := after (.poseSet 1000 500 512 10) { inMode .config with
      latches := clearLatches
      table := tableOf [(12, 1, host (.rug ⟨0, 0, 2000, 2000, 30⟩ none))] }
    s.link.noticeTimer = .running 100 ∧ s.outputs.attention = false ∧
    (after .noticeTimerExpiry s).outputs.attention = true ∧
    (answer .noticeRead s).take 3 = [0x17, 0, 0] ∧ (after .noticeRead s).link.noticeTimer = .stopped := by
  decide +kernel

/-! ### Targets from the request of a stop on (R107, R108, R110, R114) -/

/-- LINE 1 running at 60 toward targets of 60, with or without a hold target. -/
def rolling (hold : Option Nat) : State :=
  { running { context line1 with holdTarget := hold } [] 60 with drive := { freshDrive with
      wheels := ⟨{ freshWheel with setpoint := 60, target := 60 }, { freshWheel with setpoint := 60, target := 60 }⟩ } }

/-- The targets of a state. -/
def targets (s : State) : Int × Int := (s.drive.wheels.left.target, s.drive.wheels.right.target)

/-- A RAMP of a segment with no hold target has both targets at 0 from the request on, its setpoints left to slew; one of
a held segment forms its ramp base and takes its targets at the slew steps (R107). -/
theorem test_ramp_targets :
    targets (after .segmentFlush (rolling none)) = (0, 0) ∧
    (after .segmentFlush (rolling none)).drive.wheels.left.setpoint = 60 ∧
    targets (after .segmentFlush (rolling (some 0))) = (60, 60) ∧
    (after .segmentFlush (rolling (some 0))).drive.stop = .ramp (some 60) := by decide +kernel

/-- HARD, a BACKOFF in HALT and the forced rest of a fall to HALTED have both targets at 0 from the event on (R108, R110,
R114). -/
theorem test_halt_targets :
    ((hardStop factorySettings (rolling none).drive).wheels.map Wheel.target) = ⟨0, 0⟩ ∧
    ((backoffStop factorySettings (rolling none).drive).wheels.map Wheel.target) = ⟨0, 0⟩ ∧
    targets (enterMode .halted (rolling none)) = (0, 0) := by decide +kernel

/-- The 65535th millisecond of the time base is followed by 0 (R182). -/
theorem test_time_base_wraps :
    (tick { State.reset with link := { State.reset.link with timeBase := 65535 } }).link.timeBase = 0 := by decide

/-! ### Witnesses: a state and operands that meet the hypotheses of each statement -/

/-- LINE 1 running at 60 with two segments waiting, and a command that cancels one of them. -/
def busy : State := { running (context line1) [spin2, pause4] 60 with pending := [.segmentCancel 2] }

/-- LINE 1 at its end with a cause, both setpoints as given, alone in the queue, in a mode. -/
def ending (m : Mode) (v : Int) : State :=
  { running { context line1 with cause := some ⟨.cancelled, none⟩, phase := .stopping } [] v with
    modes := ⟨m, .none, false, none, .idle⟩ }

/-- A part whose protective response waits for its result. -/
def waitingResult : Floor := { freshFloor releasedLines with response := some ⟨⟨true, 3165, 1200⟩, .pending 0⟩ }

theorem atRest_ending (m : Mode) : AtRest (ending m 0) := ⟨rfl, rfl, rfl, rfl⟩

theorem busy_segments_ok : SegmentsOk busy.segments :=
  ⟨by decide, by decide, by decide, fun x h => by simpa [busy, running, context] using h⟩

/-- `RecordOk` as a test. -/
def recordFine (r : Record) : Bool :=
  match r.source with
  | .host => decide (r.confidence = 15)
  | .bump => !r.pinned && decide (1 ≤ r.confidence) && decide (r.confidence ≤ 15) && decide (r.hazard.kind = .post)
  | .cliff => !r.pinned && decide (1 ≤ r.confidence) && decide (r.confidence ≤ 15) && decide (r.hazard.kind = .drop)

theorem tableOk_of_fine (t : Table) (h : (t.toList.all fun x => (x.record.map recordFine).getD true) = true)
    (hp : pinnedCount t ≤ 32) : TableOk t := by
  refine ⟨?_, hp⟩
  intro x hx r hr
  have h1 := List.all_eq_true.mp h x hx
  simp only [hr, Option.map_some, Option.getD_some] at h1
  unfold RecordOk
  unfold recordFine at h1
  cases hs : r.source <;> simp_all

theorem idle_in (m : Mode) (h : m ≠ .parking) : Idle (inMode m) := ⟨rfl, rfl, h⟩

theorem factory_ok : ConfigOk factorySettings := ⟨by decide +kernel, by decide +kernel⟩

theorem witness_StepRunsTheFrontCommand : busy.pending = .segmentCancel 2 :: [] := rfl

/-- No power; start-up at 9 ms and at 10 ms; the wake timer at 19 ms and at 20 ms, a part with nothing due and one with
its control period due at 5 ms. -/
theorem witness_EmptyQueueLetsTimePass :
    (State.reset.pending = [] ∧ State.reset.power = .ready ∧ ∀ c, ¬ DueNow State.reset c) ∧
    (after .powerLoss State.reset).power = .off ∧ (9 < 10) ∧
    DueNow { State.reset with power := .startUp 10 } .startUpEnd ∧
    (∀ c, ¬ DueNow { inMode .waking with modes := ⟨.waking, .none, false, some 19, .idle⟩ } c) ∧
    DueNow { inMode .waking with modes := ⟨.waking, .none, false, some 20, .idle⟩ } .wakeTimerExpiry ∧
    DueNow { State.reset with drive := { freshDrive with periodMs := 5 } }
      (.controlPeriodExpiry (Config.ownOrder State.reset.choices)) := by
  refine ⟨⟨rfl, rfl, fun c h => ?_⟩, rfl, by decide, .startUpEnd 10 rfl (by decide), fun c h => ?_,
    .wake 20 rfl rfl rfl (by decide), .controlPeriod rfl (by decide)⟩
  · have hd : dueEvents State.reset = [] := rfl
    have := (mem_dueEvents _ _).mpr h
    rw [hd] at this
    exact absurd this (List.not_mem_nil)
  · have hd : dueEvents { inMode .waking with modes := ⟨.waking, .none, false, some 19, .idle⟩ } = [] := rfl
    have := (mem_dueEvents _ _).mpr h
    rw [hd] at this
    exact absurd this (List.not_mem_nil)

theorem witness_QueueBoundsAreKeptByStep :
    QueuesOk busy ∧ step busy = .next (after (.segmentCancel 2) { busy with pending := [] }) :=
  ⟨⟨busy_segments_ok, by decide⟩, rfl⟩

/-- The notice queue at its bound of 16. -/
theorem witness_NoticeBoundIsKeptByStep :
    NoticesOk { busy with link := { busy.link with
      notices := List.replicate 16 ⟨.dockLost, none, none, none, 0, 0, none, 0⟩ } } := by unfold NoticesOk; decide +kernel

theorem witness_PoseRangesAreKeptByStep : PoseOk busy :=
  ⟨factory_ok, ⟨by decide, by decide, by decide, by decide +kernel, by decide, by decide, by decide⟩⟩

theorem witness_TableLawsAreKeptByStep : TableOk exampleState.table :=
  tableOk_of_fine _ (by decide +kernel) (by decide +kernel)

/-- The setpoints and the targets at `speed_max`, 500; a HARD stop, and a RAMP with a ramp base of 0, with their targets at
0. -/
theorem witness_DriveLimitsAreKeptByStep :
    DriveOk (running (context line1) [] 500) ∧
    TargetsOk { inMode .active with drive := { freshDrive with
      wheels := ⟨{ freshWheel with target := 500 }, { freshWheel with target := -500 }⟩ } } ∧
    TargetsOk { inMode .halted with drive := { freshDrive with stop := .hard } } ∧
    TargetsOk { inMode .active with drive := { freshDrive with stop := .ramp (some 0) } } :=
  ⟨⟨by decide +kernel, by decide +kernel, by decide +kernel, fun _ h => by cases h⟩,
    ⟨by decide +kernel, by decide +kernel, fun h => by exact absurd h (by decide), fun h => h.elim⟩,
    ⟨by decide +kernel, by decide +kernel, fun _ => ⟨rfl, rfl⟩, fun _ => ⟨rfl, rfl⟩⟩,
    ⟨by decide +kernel, by decide +kernel, fun _ => ⟨rfl, rfl⟩, fun _ => ⟨rfl, rfl⟩⟩⟩

/-- Wheels at 60 with their level, and a part at rest, ready before and after its step. -/
theorem witness_OutputLinesAreKeptByStep :
    OutputsOk (refresh busy) ∧ OutputsOk State.reset ∧ step State.reset = .next (tick State.reset) ∧
    State.reset.power = .ready ∧ (tick State.reset).power = .ready ∧
    (tick State.reset).drive.wheels.left.setpoint = 0 ∧ (tick State.reset).drive.wheels.right.setpoint = 0 :=
  ⟨outputsOk_of_eq rfl ⟨by decide, by decide⟩, outputsOk_of_eq (by decide +kernel) ⟨by decide, by decide⟩, rfl, rfl, rfl,
    rfl, rfl⟩

theorem witness_SettlingLeavesNothingDue : SegmentsOk busy.segments := busy_segments_ok

theorem witness_ResetIsSoundAndReached :
    ({ inMode .active with nv := .unwritten, power := .off } : State).pending = [] ∧
    (inMode .active).choices = 0 ∧ (inMode .active).nv = .unwritten ∧ (inMode .active).modes.store = .idle ∧
    (inMode .active).lines = releasedLines := by decide

set_option maxRecDepth 4000 in
/-- A part with power; a store that was writing; a memory with no good image, and one with a good one. -/
theorem witness_PowerOnAndPinFallBeginStartUp :
    busy.power ≠ .off ∧
    ({ busy with modes := { busy.modes with store := .writing [1] 3 } } : State).modes.store = .writing [1] 3 ∧
    goodImage (after .powerOn busy).nv = none ∧
    (goodImage (after .powerOn { busy with nv := .written (imageOf factorySettings freshTable) }).nv).isSome = true := by
  decide +kernel

/-- A part that starts up, with its centre on bare floor and on the DARK_RUG of chapter 2's example. -/
theorem witness_StartUpEndReadiesThePart :
    (after .powerOn busy).power = .startUp 0 ∧ (after .powerOn busy).segments.running = none ∧
    (after .powerOn busy).modes.mode = .config ∧ scan (after .powerOn busy).table 0 0 = none ∧
    (scan zoneTable 0 500).map Live.ref = some ⟨12, 1⟩ := by decide +kernel

/-- Two states that differ in their segments, drive and modes, and agree in what POWER_LOSS leaves. -/
theorem witness_PowerLossLeavesTheMemory :
    (busy.modes.store = .idle ∧ (after .store State.reset).modes.store ≠ .idle) ∧
    busy.pending = ({ State.reset with pending := busy.pending } : State).pending ∧ busy.choices = State.reset.choices ∧
    busy.lines = State.reset.lines ∧ (after .powerLoss busy).nv = (after .powerLoss State.reset).nv ∧
    busy.segments ≠ State.reset.segments :=
  ⟨⟨rfl, by intro h; cases h⟩, rfl, rfl, rfl, by decide +kernel, by decide⟩

theorem witness_DiscardedTransactionsChangeNothing :
    (after .powerOn busy).power = .startUp 0 ∧ (Frame.encode .status).isSome = true ∧ busy.power = .ready ∧
    (0 < 20 ∧ 19 < 20) := by decide +kernel

/-- The codes 0x18 and 0xFF. -/
theorem witness_NopAndUnknownRequestsAreAccepted :
    busy.power = .ready ∧ 0x17 < (0x18 : Byte).toNat ∧ 0x17 < (0xFF : Byte).toNat := by decide

/-- A part that is ready, and a numbering of the cliff states by R179. -/
theorem witness_StatusReportsThenClearsTheLatches :
    busy.power = .ready ∧ ∃ code : CliffState → Nat, code .clear = 0 ∧ code .suspect = 1 ∧ code .tripped = 2 :=
  ⟨rfl, (fun | .clear => 0 | .suspect => 1 | .tripped => 2), rfl, rfl, rfl⟩

/-- One notice held, none held, and a running notice timer. -/
theorem witness_NoticesAreReadInOrder :
    busy.link.notices = [] ∧
    (offerNotice (dockNotice .dockLost busy) busy).link.notices = [dockNotice .dockLost busy] ∧
    (offerNotice (dockNotice .dockLost busy) busy).link.noticeTimer = .running 100 := by decide +kernel

/-- LINE 1 at rest inside an unjam, with a SPIN waiting behind it. -/
def jammed : State :=
  { running { context line1 with phase := .unjam } [spin2] 0 with
    drive := { freshDrive with unjam := some ⟨10, ⟨-60, -60⟩⟩ } }

/-- LINE 1 at rest in the HALT of a BACKOFF, its result still pending. -/
def halting : State :=
  { running { context line1 with cause := some ⟨.cliffStop, none⟩, phase := .stopping } [spin2] 0 with
    drive := { freshDrive with stop := .backoffHalt }
    floor := { freshFloor releasedLines with response := some ⟨⟨true, 3165, 1200⟩, .pending 0⟩ } }

/-- Neither record is due: a BACKOFF move is in progress, or a segment moves. -/
theorem not_atRest_halting : ¬ AtRest halting := fun h => by simpa [halting, Stop.moveInProgress] using h.no_move

theorem not_atRest_ending : ¬ AtRest (ending .active 60) := fun h => by simpa using (by decide : (ending .active 60).atRest = false).symm.trans h.rest

/-- The timer runs in CONFIG and in ACTIVE, with no segment and with segments left after the trigger; a running segment
that moves, one at rest, one whose cause stands, one at rest inside an unjam and one in the HALT of a BACKOFF. -/
theorem witness_LinkSilenceHaltsThePart :
    State.reset.link.silence = .running 500 ∧ isTaking State.reset.modes.mode = false ∧
    isTaking (inMode .active).modes.mode = true ∧ (after .linkSilenceExpiry (inMode .active)).segments.queue = [] ∧
    (after .linkSilenceExpiry busy).segments.queue ≠ [] ∧ (inMode .active).segments.running = none ∧
    (busy.segments.running = some (context line1) ∧ busy.segments.queue = line1 :: [spin2, pause4] ∧
      (context line1).cause = none ∧ busy.atRest = false) ∧
    (ending .active 0).segments.queue = [line1] ∧ (ending .active 0).atRest = true ∧
    (ending .active 0).drive.stop.moveInProgress = false ∧ (ending .active 0).drive.unjam = none ∧
    EndKind.cancelled ≠ .lifted ∧
    (jammed.atRest = true ∧ jammed.drive.stop = .none ∧ jammed.drive.unjam ≠ none) ∧
    (halting.atRest = true ∧ halting.drive.stop.moveInProgress = true) := by decide +kernel

/-- The items 0, 1, 47 and 48. -/
theorem witness_ConfigItemsAreSetAndRead :
    (State.reset.power = .ready ∧ (inMode .active).modes.mode ≠ .config ∧ State.reset.modes.mode = .config) ∧
    ConfigOk State.reset.config ∧ (0 : Byte).toNat = 0 ∧ 47 < (48 : Byte).toNat ∧
    (1 ≤ (1 : Byte).toNat ∧ (47 : Byte).toNat ≤ 47) :=
  ⟨by decide, factory_ok, by decide⟩

/-- A state in each mode the clauses name, lifted and not. -/
theorem witness_ModeRequestsAreRefusedByTheTable :
    (∀ m ∈ [Mode.config, .active, .parked, .halted], (inMode m).modes.mode = m) ∧
    (∀ m ∈ [Mode.config, .parked, .halted], ({ inMode m with
      floor := { freshFloor releasedLines with lifts := ⟨settledSwitch true, settledSwitch false⟩ } } : State).lifted = true) := by
  decide +kernel

theorem witness_ModeActiveAndResumeEnterActive :
    (inMode .halted).lifted = false ∧ (inMode .halted).segments.queue = [] ∧
    (inMode .halted).segments.running = none ∧ State.reset.modes.mode = .config := by decide

theorem witness_ModeConfigFlushesTheSegments :
    ((inMode .halted).modes.mode = .halted ∧ isTaking (inMode .active).modes.mode = true ∧
      (inMode .active).segments.running = none) ∧
    (RunsOn busy (context line1) ∧ busy.atRest = false ∧ busy.drive.stop = .none) ∧
    (AtRest (running (context pause4) [line1] 0) ∧ (running (context pause4) [line1] 0).segments.queue = [pause4, line1] ∧
      (running (context pause4) [line1] 0).modes.mode ≠ .stopping) ∧
    ((ending .active 60).atRest = false ∧ (ending .active 60).segments.queue = [line1]) ∧
    (waitingResult.resultPending = true ∧ ({ ending .active 0 with floor := waitingResult } : State).canWrite = false) ∧
    (jammed.atRest = true ∧ jammed.floor.resultPending = false ∧ jammed.drive.stop = .none ∧
      jammed.segments.queue = line1 :: [spin2]) ∧
    (halting.segments.queue = line1 :: [spin2] ∧ ¬ AtRest halting) :=
  ⟨by decide, ⟨⟨rfl, rfl, by decide⟩, by decide, rfl⟩, ⟨⟨rfl, rfl, rfl, rfl⟩, rfl, by decide⟩, by decide, by decide,
    by decide, rfl, not_atRest_halting⟩

theorem witness_ParkParksOrDrains :
    ((inMode .active).segments.queue = [] ∧ (inMode .active).atRest = true ∧ (inMode .active).guardsClear = true) ∧
    RunsOn busy (context line1) ∧
    ({ inMode .active with drive := { freshDrive with
      wheels := ⟨freshWheel, { freshWheel with guard := some ⟨true, 10, 40⟩ }⟩ } } : State).guardsClear = false ∧
    SegmentsOk (ending .parking 15).segments :=
  ⟨by decide, ⟨rfl, rfl, by decide⟩, by decide,
    ⟨by decide, by decide, by decide, fun x h => by simpa [ending, running, context] using h⟩⟩

/-- LINE 1 of PARKING in the last slew step of its ramp, with both setpoints at `decel_step`, 15, and `reversal_guard` at
0: PARKED with MODE_REACHED, at that step. -/
def lastSlew : State :=
  { ending .parking 15 with
    config := setItem factorySettings 39 0
    drive := { (ending .parking 15).drive with stop := .ramp none } }

theorem witness_ParkParksOrDrains_slew :
    (Instr.controlPeriodExpiry [.slew, .segment, .drive, .monitor]).wellFormed = true ∧
    lastSlew.segments.running.map Context.cause = some (some ⟨.cancelled, none⟩) ∧
    (lastSlew.segments.queue = [line1] ∧ lastSlew.drive.stop = .ramp none ∧ lastSlew.drive.unjam = none) ∧
    (lastSlew.floor.resultPending = false ∧ lastSlew.lifted = false ∧ lastSlew.guardsClear = true) ∧
    lastSlew.drive.wheels.left.setpoint.natAbs ≤ decelStep lastSlew.config ∧ reversalGuard lastSlew.config = 0 ∧
    (after (.controlPeriodExpiry [.slew, .segment, .drive, .monitor]) lastSlew).modes.mode = .parked := by
  decide +kernel

theorem witness_WakeLeadsToActive :
    (inMode .parked).lifted = false ∧
    ({ inMode .waking with modes := ⟨.waking, .none, false, some 20, .idle⟩ } : State).modes.wakeTimer = some 20 ∧
    (inMode .waking).segments.queue = [] ∧ (inMode .waking).segments.running = none := by decide

theorem witness_RestartKeepsAndClears : busy.modes.store = .idle ∧ (after .store State.reset).modes.store ≠ .idle :=
  ⟨rfl, by intro h; cases h⟩

theorem witness_StoreWritesItsSnapshot :
    State.reset.modes.store = .idle ∧ (inMode .parked).modes.mode = .parked ∧
    (after .store State.reset).modes.store = .writing (imageOf factorySettings freshTable) 0 :=
  ⟨rfl, rfl, rfl⟩

/-- The factory values, the factory values with `floor_threshold` at 10 (below `rug_threshold`, log 31), and a table with
two pinned records of chapter 1's example. -/
theorem witness_StoredImageComesBack :
    ConfigOk factorySettings ∧ rugThreshold factorySettings < floorThreshold factorySettings ∧
    ¬ rugThreshold (setItem factorySettings 19 10) < floorThreshold (setItem factorySettings 19 10) ∧
    takeValue (setItem factorySettings 19 10) 20 12 = 9 ∧
    50 ≤ linkTimeout factorySettings ∧ pinnedCount exampleTable ≤ 32 ∧
    pinnedHazards exampleTable = [.keepout ⟨-4000, 2000, -2500, 3500, 10⟩, .dock ⟨0, -300, 60⟩ 1024] ∧
    HazardOk factorySettings (.keepout ⟨-4000, 2000, -2500, 3500, 10⟩) ∧
    HazardOk factorySettings (.dock ⟨0, -300, 60⟩ 1024) := by
  refine ⟨factory_ok, by decide +kernel, by decide +kernel, by decide +kernel, by decide +kernel, by decide +kernel,
    by decide +kernel, ?_, ?_⟩ <;>
    simp [HazardOk, Hazard.circle?, Hazard.rect?, Hazard.limit?, Hazard.dockHeading]

/-! ### Witnesses for the table, the queries and the pose -/

/-- A table with every slot live. -/
def fullTable : Table := Vector.replicate 96 ⟨1, some (host (.post ⟨0, 0, 10⟩))⟩

/-- A table with 32 pinned records in its lowest slots and an unpinned one in slot 40. -/
def pinnedTable : Table :=
  setSlot ((List.range 32).foldl (fun t k => setSlot t k ⟨1, some (hostRecord (.post ⟨0, 0, 10⟩) true 0)⟩) freshTable) 40
    ⟨5, some (host (.post ⟨0, 0, 10⟩))⟩

/-- The slots 3 by name and 2 as the lowest free one, the put pinned below the limit, the part idle. -/
theorem witness_RecordPutWritesTheRecord :
    ((3 : Byte).toNat = 3 ∧ (1 : Byte) = (slotAt exampleTable 3).generation) ∧
    ((slotAt exampleTable 2).record = none ∧ ∀ j, j < 2 → (slotAt exampleTable j).record ≠ none) ∧
    (takeHazard factorySettings 1 0 1120 620 40 0 0).isSome = true ∧ (4 : Byte).getLsbD 2 = true ∧
    pinnedCount exampleTable < 32 ∧ exampleState.straightRunning = none ∧ Settled exampleState :=
  ⟨by decide +kernel, by decide +kernel, by decide +kernel, by decide, by decide +kernel, rfl, by decide, by decide, by decide⟩

/-- The slot fields 96 and 254, the kind codes 7 and 8, a stale generation, a full table, 32 pinned records. -/
theorem witness_RecordPutRefusalsFollowTheOrder :
    (96 ≤ (96 : Byte).toNat ∧ (96 : Byte) ≠ 0xFF ∧ 96 ≤ (0xFE : Byte).toNat ∧ (0xFE : Byte) ≠ 0xFF) ∧
    (8 ≤ (8 : Byte).toNat ∧ (7 : Byte).toNat < 8 ∧ (95 : Byte).toNat < 96) ∧
    (0 : Byte) ≠ (slotAt exampleTable 3).generation ∧ (∀ k, k < 96 → (slotAt fullTable k).record ≠ none) ∧
    32 ≤ pinnedCount pinnedTable ∧ ((40 : Byte).toNat = 40 ∧ (5 : Byte) = (slotAt pinnedTable 40).generation) ∧
    ((slotAt pinnedTable 40).record.map Record.pinned) = some false ∧
    ((slotAt pinnedTable 32).record = none ∧ ∀ j, j < 32 → (slotAt pinnedTable j).record ≠ none) := by decide +kernel

theorem witness_RecordFieldsAreTakenInRange :
    (∀ v : Half, (fun v : Half => max (-30000) (min 30000 v.toInt)) v = max (-30000) (min 30000 v.toInt)) ∧
    (takeHazard factorySettings 7 255 0x8000 0x7FFF 0xFFFF 0 0xFFFF).isSome = true ∧ ConfigOk factorySettings :=
  ⟨fun _ => rfl, by decide +kernel, factory_ok⟩

/-- The slots 3, 95 and 96. -/
theorem witness_RecordGetReturnsTheSlot :
    (slotAt exampleTable (3 : Byte).toNat).record.isSome = true ∧ (slotAt exampleTable (95 : Byte).toNat).record = none ∧
    (slotAt fullTable (95 : Byte).toNat).record.isSome = true ∧ 96 ≤ (96 : Byte).toNat := by decide +kernel

/-- The start slots 2, 95 and 96. -/
theorem witness_RecordNextFindsTheFirstLive :
    ((slotAt exampleTable 3).record.isSome = true ∧
      ∀ j, j < 3 → (2 : Byte).toNat ≤ j → (slotAt exampleTable j).record = none) ∧
    (slotAt fullTable 95).record.isSome = true ∧ (∀ j, j < 96 → (95 : Byte).toNat ≤ j → (slotAt exampleTable j).record = none) ∧
    (∀ j, j < 96 → (96 : Byte).toNat ≤ j → (slotAt fullTable j).record = none) := by decide +kernel

theorem witness_RecordRetireFreesTheSlot :
    96 ≤ (96 : Byte).toNat ∧ (slotAt exampleTable (95 : Byte).toNat).record = none ∧
    (slotAt exampleTable (3 : Byte).toNat).record ≠ none ∧ (0 : Byte) ≠ (slotAt exampleTable (3 : Byte).toNat).generation ∧
    (1 : Byte) = (slotAt exampleTable (3 : Byte).toNat).generation ∧ exampleState.straightRunning = none := by decide +kernel

/-- A corner that two rectangles share, and a point beyond every rectangle. -/
theorem witness_RegionScanTakesTheFirst :
    (scan zoneTable 2000 800).map Live.ref = some ⟨11, 1⟩ ∧ scan zoneTable 3001 800 = none := by decide +kernel

/-- A point whose clamp lies outside every rectangle, and one inside. -/
theorem witness_PointQueryClassifiesThePoint :
    scan zoneTable (max (-30000) (min 30000 (0x7FFF : Half).toInt)) 0 = none ∧
    ((scan zoneTable 2000 1100).bind fun l => l.record.hazard.rect?).isSome = true := by decide +kernel

/-- The gap of a record in the path from (2000, 1000) along heading 0, as the statement reads it. -/
def pathGap (l : Live) : Option Nat :=
  match l.record.hazard with
  | .post c | .drop c | .dock c _ =>
    let along := ((c.cx - 2000) * 4096 + (c.cy - 1000) * 0) / 4096
    let lat := (((c.cy - 1000) * 4096 - (c.cx - 2000) * 0).natAbs : Int) / 4096
    let reach : Int := 170 + c.r + 20 + 10
    if -reach < along ∧ lat < reach then some (max 0 (along - reach)).toNat else none
  | _ => none

/-- The directions 0, 1 and 2; slot 3 in the tie of chapter 4's example; a table with no record in the path. -/
theorem witness_PathQueryFindsTheLeastGap :
    (1 < (2 : Byte).toNat ∧ (1 : Byte).toNat ≤ 1) ∧ (∀ l, IsLive freshTable l → pathGap l = none) ∧
    IsLive postsTable ⟨⟨3, 2⟩, host (.post ⟨2590, 1150, 30⟩)⟩ ∧
    pathGap ⟨⟨3, 2⟩, host (.post ⟨2590, 1150, 30⟩)⟩ = some 360 ∧
    (∀ l' g', IsLive postsTable l' → pathGap l' = some g' → 360 < g' ∨ (360 = g' ∧ 3 ≤ l'.ref.slot)) := by
  refine ⟨by decide, ?_, ⟨by decide, by decide +kernel⟩, by decide +kernel, ?_⟩
  · intro l h; simp [IsLive] at h
  · intro l' g' h hg
    have key : ∀ l ∈ liveRecords postsTable,
        (pathGap l).all (fun g => decide (360 < g ∨ (360 = g ∧ 3 ≤ l.ref.slot))) = true := by decide +kernel
    simpa [hg] using key l' ((mem_liveRecords _ _).mpr h)

theorem witness_PoseSetReplacesThePose :
    (inMode .active).power = .ready ∧ (inMode .active).straightRunning = none ∧ Settled (inMode .active) :=
  ⟨rfl, rfl, settled_of_idle _ (idle_in _ (by decide))⟩

/-- The part at (2000, 800), where a rectangle of the zone table begins, with its centre result from before. -/
def zoneEntered : State := { activeAt 2000 800 0 with table := zoneTable }

/-- A new centre result with no notice held, with one held, and with 16 held; the timer is loaded in the first case and
stands in the second (R181). -/
theorem witness_ZoneReported :
    (classify .table zoneEntered).zones.centre ≠ zoneEntered.zones.centre ∧ zoneEntered.link.notices = [] ∧
    (classify .table zoneEntered).link.noticeTimer = .running 100 ∧
    (offerNotice (dockNotice .dockLost busy)
      { busy with link := { busy.link with notices := [dockNotice .dockMade busy], noticeTimer := .running 40 } }).link.noticeTimer =
        .running 40 ∧
    ¬ (List.replicate 16 (dockNotice .dockLost busy)).length < 16 := by decide +kernel

/-- The rows of R29's table by their limits; a part with no segment at a point of a SLOW record with the limit 180. -/
theorem witness_ZoneLimit :
    (SmallerLimit none (some 180) (some 180) ∧ SmallerLimit (some 250) (some 200) (some 200) ∧
      SmallerLimit (some 120) none (some 120) ∧ SmallerLimit none none none) ∧
    carriedLimit factorySettings zoneTable 1501 500 = some 180 ∧ (inMode .active).straightRunning = none :=
  ⟨⟨.second 180, .both 250 200, .first 120, .neither⟩, by decide +kernel, rfl⟩

theorem witness_PoseGetReturnsThePose : busy.power = .ready := rfl

/-! ### Witnesses for the drive -/

/-- The canonical order, one with the slew step first and one with the monitor first; an idle part; a running LINE far from
its end, moving and at rest. -/
theorem witness_ControlPeriodIntegratesThePose :
    (Instr.controlPeriodExpiry canonicalOrder).wellFormed = true ∧
    (Instr.controlPeriodExpiry [.slew, .monitor, .drive, .segment]).wellFormed = true ∧ Idle (inMode .active) ∧
    ConfigOk factorySettings ∧ PoseRanges factorySettings fixedPose ∧
    (Instr.controlPeriodExpiry [.monitor, .slew, .segment, .drive]).wellFormed = true ∧ SegmentsOk busy.segments ∧
    ((2 : Int) < 600 - Int.tdiv 597999 1000 ∧ ¬ (2 : Int) < 600 - Int.tdiv 598000 1000) ∧
    (running (context line1) [] 0).atRest = true :=
  ⟨by decide, by decide, idle_in _ (by decide), factory_ok,
    ⟨by decide, by decide, by decide, by decide +kernel, by decide, by decide, by decide⟩, by decide, busy_segments_ok,
    by decide, by decide⟩

/-- LINE 1 at 597.9 mm in a period of ten ticks of each wheel: it goes on to 599.9 mm and has its cause. A BACKOFF move one
micrometre before `backoff_distance` and at it; the orders with the Drive Controller before the slew step. -/
theorem witness_TravelJoinsTheProgress :
    SegmentsOk (running { context line1 with progress := 597900 } [] 60).segments ∧
    ((after (.controlPeriodExpiry canonicalOrder) { running { context line1 with progress := 597900 } [] 60 with
      pose := { fixedPose with ticks := ⟨10, 10⟩ } }).segments.running.map fun e => (e.segment, e.progress, e.cause)) =
      some (line1, 599900, some ⟨.completed, none⟩) ∧
    (Instr.controlPeriodExpiry canonicalOrder).wellFormed = true ∧
    (max (0 : Int) (49999 - 1 * 0) < (backoffDistance factorySettings : Int) * 1000 ∧
      (backoffDistance factorySettings : Int) * 1000 ≤ max 0 (50000 - 1 * 0)) ∧
    canonicalOrder.idxOf .drive < canonicalOrder.idxOf .slew ∧ halting.drive.stop = .backoffHalt :=
  ⟨⟨by decide, by decide, by decide, fun x h => by simpa [running, context] using h⟩, by decide +kernel, by decide,
    by decide +kernel, by decide, rfl⟩

/-- A segment of each kind at its own ending, and each a step before it; CANCELLED standing over a LINE at its ending and over
a DOCK; the orders with the Segment Controller first, last, and behind the monitor (R77, R79, R91, R161). -/
theorem witness_TravelJoinsTheProgress_endings :
    (ReachedEnding line1.motion 598000 .completed ∧ ¬ ReachedEnding line1.motion 597999 .completed) ∧
    (ReachedEnding spin2.motion 1024 .completed ∧ ∀ kind, ¬ ReachedEnding spin2.motion 1023 kind) ∧
    (ReachedEnding dock30.motion 1000000 .dockMissed ∧ ¬ ReachedEnding dock30.motion 1000000 .completed) ∧
    ((after (.controlPeriodExpiry canonicalOrder) (running { context line1 with
      progress := 598000, cause := some ⟨.cancelled, none⟩, phase := .stopping, cancelSeen := true } [] 60)).segments.running.map
        fun e => (e.cause, e.cancelSeen)) = some (some ⟨.completed, none⟩, true) ∧
    ((after (.controlPeriodExpiry canonicalOrder) (running { context dock30 with
      progress := 1000000, cause := some ⟨.cancelled, none⟩, phase := .stopping, cancelSeen := true } [] 60)).segments.running.map
        fun e => (e.cause, e.cancelSeen)) = some (some ⟨.cancelled, none⟩, true) ∧
    ([PeriodPart.segment, .drive, .monitor, .slew].idxOf .segment < [PeriodPart.segment, .drive, .monitor, .slew].idxOf .monitor ∧
      [PeriodPart.slew, .monitor, .drive, .segment].idxOf .monitor < [PeriodPart.slew, .monitor, .drive, .segment].idxOf .segment) ∧
    ((running { context spin2 with progress := 1024 } [] 0).atRest = true ∧
      (running { context spin2 with progress := 1024 } [] 0).floor.resultPending = false) :=
  ⟨⟨⟨rfl, by decide⟩, fun h => absurd h.2 (by decide)⟩, ⟨⟨rfl, by decide⟩, fun _ h => absurd h.2 (by decide)⟩,
    ⟨⟨rfl, by decide⟩, fun h => by cases h.1⟩, by decide +kernel, by decide +kernel, by decide, by decide⟩

/-- Each row of the table of targets has a state. -/
theorem witness_WheelTargets_rows :
    (inMode .halted).heldAtRest = true ∧ busy.heldAtRest = false ∧
    TargetRow { busy with drive := { busy.drive with stop := .hard } } 0 0 0 ∧
    TargetRow { busy with drive := { busy.drive with stop := .backoffHalt } } 0 (-1 * 60) (-1 * 60) ∧
    TargetRow { busy with drive := { busy.drive with stop := .ramp none } } 0 0 0 ∧
    TargetRow { busy with drive := { busy.drive with unjam := some ⟨0, ⟨-60, -60⟩⟩ } } 0 (-60) (-60) ∧
    TargetRow (inMode .active) 0 0 0 ∧
    TargetRow (running { context line1 with phase := .waiting } [] 0) 0 0 0 ∧
    TargetRow (running (context spin2) [] 0) 0 (-200) 200 :=
  ⟨by decide, by decide, .stopped (.inl rfl), .backoff (.inl rfl), .rampFree rfl, .unjam ⟨0, ⟨-60, -60⟩⟩ rfl rfl,
    .idle rfl rfl rfl, .still _ rfl rfl rfl (.inl rfl),
    .spin (context spin2) 1024 200 200 rfl rfl rfl rfl rfl (by decide +kernel)⟩

/-- The rows with a hold target: a held LINE at heading 4060, and its ramp at base 75 (R106, R107). -/
theorem witness_WheelTargets_held :
    TargetRow { running { context line1 with holdTarget := some 0 } [] 300 with
      clearance := { freshClearance with allowance := some 300 } } 4060 (1 * 300 - 18) (1 * 300 + 18) ∧
    TargetRow { running { context line1 with holdTarget := some 0 } [] 90 with
      drive := { (running (context line1) [] 90).drive with stop := .ramp (some 90) } } 4060 (75 - 18) (75 + 18) :=
  ⟨.straight { context line1 with holdTarget := some 0 } 300 (1 * 300) 18 rfl rfl rfl rfl rfl rfl rfl
      ⟨36, by decide, by decide, by decide, by decide +kernel⟩,
    .rampHeld 90 75 18 rfl (by decide +kernel) ⟨36, by decide, by decide, by decide, by decide +kernel⟩⟩

/-- Each row of the slew table has a setpoint and a target, a guard that holds and one that does not among them. -/
theorem witness_WheelTargetsFollowTheTable :
    (Instr.controlPeriodExpiry [.slew, .segment, .drive, .monitor]).wellFormed = true ∧
    SlewRow factorySettings none 60 60 60 ∧
    SlewRow factorySettings (some ⟨true, 10, 40⟩) 0 60 (if (0 : Int) < 60 then min 60 (0 + 5) else max 60 (0 - 5)) ∧
    SlewRow factorySettings (some ⟨true, 10, 40⟩) 0 (-60) 0 ∧
    SlewRow factorySettings none 60 0 (if (0 : Int) < 60 then max 0 (60 - 15) else min 0 (60 + 15)) ∧
    SlewRow factorySettings none 60 (-60) (if (0 : Int) < 60 then max 0 (60 - 15) else min 0 (60 + 15)) :=
  ⟨by decide, .equal rfl, .accelerate (by decide) (.inl rfl) (by intro _ gd h; cases h; simp),
    .held ⟨true, 10, 40⟩ rfl rfl (.inl ⟨rfl, by decide⟩), .decelerate (by decide) (.inl rfl), .oppose (by decide)⟩

/-- The order with the slew step first. -/
def slewFirst : Instr := .controlPeriodExpiry [.slew, .segment, .drive, .monitor]

/-- LINE 1 running toward an allowance of 300. -/
def lineUnderWay : State :=
  { running (context line1) [] 60 with clearance := { freshClearance with allowance := some 300 } }

/-- A period that ends nothing and one that ends the SPIN: the targets of the slew step stand, and both are 0 from the RAMP
on (R105, R107). -/
theorem witness_WheelTargets_ends :
    EndsNothing lineUnderWay (after slewFirst lineUnderWay) ∧
    ((after slewFirst lineUnderWay).drive.wheels.left.target, (after slewFirst lineUnderWay).drive.wheels.right.target) =
      (300, 300) ∧
    ((after slewFirst (running { context spin2 with progress := 1024 } [] 60)).drive.stop = .ramp none ∧
      TargetsZero (after slewFirst (running { context spin2 with progress := 1024 } [] 60)).drive) :=
  ⟨⟨by decide +kernel, by decide +kernel, by decide +kernel, by decide +kernel⟩, by decide +kernel, by decide +kernel,
    ⟨by decide +kernel, by decide +kernel⟩⟩

theorem witness_SetpointsMoveByOneStep : DriveOk (running (context line1) [] (-500)) :=
  ⟨by decide +kernel, by decide +kernel, by decide +kernel, fun _ h => by cases h⟩

/-- A change ahead, one back, one of both channels; on a rug and off it; ready and not. -/
theorem witness_EncoderEdgeCountsTheTick :
    quadTick ⟨false, false⟩ ⟨true, false⟩ = 1 ∧ quadTick ⟨true, false⟩ ⟨false, false⟩ = -1 ∧
    quadTick ⟨false, false⟩ ⟨true, true⟩ = 0 ∧ busy.power = .ready ∧ (after .powerLoss busy).power ≠ .ready ∧
    (true = true ↔ (RegionClass.rug = .rug ∨ RegionClass.rug = .darkRug)) ∧
    (false = true ↔ (RegionClass.bare = .rug ∨ RegionClass.bare = .darkRug)) := by decide

/-- The part running a segment with a stall timer on each wheel. -/
def stalling (c : Context) (retries : Nat) : State :=
  { running c [] 60 with drive := { freshDrive with
      retries := retries
      wheels := ⟨{ freshWheel with setpoint := 60, stall := some ⟨200, 200, false⟩ },
        { freshWheel with setpoint := 60, stall := some ⟨10, 200, false⟩ }⟩ } }

/-- No timer; a timer to double on a rug; retries left and none left, for both responses; a BACKOFF move, its result
pending and come; a cause standing while the wheels turn; the modes in which a RELEASE ends the last segment. -/
theorem witness_StallTimerStartsUnjamsThenStops :
    (busy.drive.wheels.get .left).stall = none ∧
    ({ stalling (context line1) 0 with zones := ⟨⟨.rug, none⟩, bareResult, none⟩ } : State).onRug = true ∧
    (stalling (context line1) 0).drive.retries < stallRetries (stalling (context line1) 0).config ∧
    stallRetries (stalling (context line1) 2).config ≤ (stalling (context line1) 2).drive.retries ∧
    (stalling (context line1) 2).atRest = false ∧ stallResponseCode factorySettings ≠ 1 ∧
    stallResponseCode (setItem factorySettings 43 1) = 1 ∧ (stalling (context line1) 2).segments.queue = [line1] ∧
    (stalling (context line1) 2).floor.resultPending = false ∧
    (Stop.backoffReverse 0).moveInProgress = true ∧
    waitingResult.resultPending = true ∧ (freshFloor releasedLines).resultPending = false ∧
    ((stalling { context line1 with cause := some ⟨.cliffStop, none⟩, phase := .stopping } 0).atRest = false ∧
      (stalling { context line1 with cause := some ⟨.cliffStop, none⟩, phase := .stopping } 0).drive.stop.moveInProgress =
        false) ∧
    (({ ending .stopping 60 with modes := ⟨.stopping, .none, true, none, .idle⟩ } : State).modes.haltPending = true ∧
      (ending .stopping 60).modes.haltPending = false ∧ (ending .parking 60).modes.mode = .parking) := by
  decide +kernel

theorem witness_UnjamAndGuardEnd :
    (busy.drive.unjam = none ∧ (busy.drive.wheels.get .left).guard = none) ∧
    ({ busy with drive := { busy.drive with unjam := some ⟨150, ⟨-60, -60⟩⟩ } } : State).drive.unjam.isSome = true ∧
    Settled busy ∧ busy.modes.mode ≠ .parking ∧
    (backoffStop factorySettings busy.drive).wheels.left.guard.isSome = true ∧
    ((inMode .parking).segments.queue = [] ∧ (inMode .parking).segments.running = none ∧
      (inMode .parking).atRest = true) :=
  ⟨by decide, rfl, ⟨by decide, by decide, by decide⟩, by decide, by decide +kernel, by decide⟩

/-- A LINE with nothing ahead, with a post whose gap is 4, and with a KEEPOUT at its probe point; moving, at rest, and with
its cause standing in a BACKOFF move. -/
theorem witness_PoseFixJudgesTheRunningSegment :
    (busy.segments.running = some (context line1) ∧ busy.segments.queue ≠ [] ∧ (context line1).cause = none) ∧
    line1.motion.isStraight = true ∧
    constraining factorySettings freshTable fixedPose (directionOf 0 false) true = none ∧
    (classAt freshTable 1150 500).cls ≠ .keepout ∧ (busy.atRest = false ∧ busy.drive.stop = .none) ∧
    constraining factorySettings postsTable { fixedPose with xUm := 2356000, yUm := 1000000, heading := 0 }
      (directionOf 0 false) true = some ⟨⟨3, 2⟩, 4⟩ ∧ 4 < blockGap factorySettings ∧
    (classAt zoneTable 2000 500).cls = .keepout ∧
    ((running (context line1) [] 0).atRest = true ∧ (running (context line1) [] 0).floor.resultPending = false ∧
      (running (context line1) [] 0).segments.queue = [line1] ∧ jammed.atRest = true) ∧
    (halting.drive.stop.moveInProgress = true ∧ halting.atRest = true) :=
  ⟨⟨rfl, by decide, rfl⟩, rfl, by decide +kernel, by decide +kernel, by decide, by decide +kernel, by decide +kernel,
    by decide +kernel, by decide, by decide⟩

/-! ### Witnesses for the segments -/

/-- An add to an idle part, behind a running segment, behind one that is stopping, and in WAKING; the queue at 7 with 8
records. -/
theorem witness_SegmentAddJoinsTheQueue :
    ((takeMotion factorySettings 0 1 0 1 0).isSome = true ∧ (0xFE : Byte) ≠ 255 ∧ (1 : Half) ≠ 0 ∧
      (∀ x ∈ busy.segments.queue, x.tag ≠ (0xFE : Byte).toNat) ∧ 7 < 8 ∧ 7 + 8 < 16) ∧
    RunsOn busy (context line1) ∧
    ((ending .active 60).segments.running.isSome = true ∧ (ending .active 60).atRest = false) ∧ (inMode .waking).segments.running = none ∧
    ((inMode .active).segments.queue = [] ∧ (inMode .active).atRest = true ∧ (inMode .active).dock.undock ≠ .wait) :=
  ⟨by decide +kernel, ⟨rfl, rfl, by decide⟩, by decide, rfl, by decide⟩

/-- Every refusal of the order: the kinds 3 and 4, the directions 1 and 2, the tag 255, the amount 0, a tag held, both
bounds. -/
theorem witness_SegmentAddRefusalsFollowTheOrder :
    ((inMode .config).modes.mode ≠ .active ∧ (inMode .config).modes.mode ≠ .waking) ∧
    (3 < (4 : Byte).toNat ∧ (3 : Byte).toNat ≤ 3 ∧ 1 < (2 : Byte).toNat ∧ (1 : Byte).toNat ≤ 1) ∧
    (spin2 ∈ busy.segments.queue ∧ spin2.tag = (2 : Byte).toNat) ∧
    (∀ x ∈ busy.segments.queue, x.tag ≠ (9 : Byte).toNat) ∧
    8 ≤ (List.replicate 8 line1).length ∧ 16 ≤ (List.replicate 7 line1).length + 9 := by decide

/-- A SPIN that starts clear of the dock and on it; a LINE clear, blocked and facing a KEEPOUT; a DOCK on its contacts. -/
theorem witness_SegmentStartOpensTheContext :
    ({ inMode .active with segments := ⟨[spin2], none, []⟩ } : State).canStart = true ∧ busy.canStart = false ∧
    spin2.motion.isStraight = false ∧ line1.motion.isStraight = true ∧ dock30.motion.isDock = true ∧
    ({ inMode .active with dock := ⟨true, none, true, .none, none⟩ } : State).dock.docked = true ∧
    constraining factorySettings freshTable fixedPose (directionOf 0 false) true = none ∧
    (classAt freshTable 1150 500).cls ≠ .keepout ∧
    constraining factorySettings postsTable { fixedPose with xUm := 2356000, yUm := 1000000, heading := 0 }
      (directionOf 0 false) true = some ⟨⟨3, 2⟩, 4⟩ ∧ 4 < blockGap factorySettings ∧
    (classAt zoneTable 2000 500).cls = .keepout := by decide +kernel

/-- A LINE with its cause at rest, in ACTIVE, in STOPPING with and without halt pending, and in PARKING with the guards
clear and not; a PAUSE; a PAUSE whose cause waits for its result; no PAUSE. -/
theorem witness_RunningRecordIsWritten :
    busy.canWrite = false ∧
    AtRest (running { context line1 with cause := some ⟨.cancelled, none⟩, phase := .stopping } [] 0) ∧
    (running { context line1 with cause := some ⟨.cancelled, none⟩, phase := .stopping } [] 0).segments.queue = [line1] ∧
    AtRest (running (context pause4) [] 0) ∧ pause4.motion = .pause 500 ∧ line1.motion.isPause = false ∧
    ((inMode .stopping).modes.haltPending = false ∧
      ({ inMode .stopping with modes := ⟨.stopping, .none, true, none, .idle⟩ } : State).modes.haltPending = true) ∧
    (AtRest (ending .parking 0) ∧ (ending .parking 0).guardsClear = true ∧
      AtRest { ending .parking 0 with drive := { freshDrive with
        wheels := ⟨freshWheel, { freshWheel with guard := some ⟨true, 10, 40⟩ }⟩ } } ∧
      ({ ending .parking 0 with drive := { freshDrive with
        wheels := ⟨freshWheel, { freshWheel with guard := some ⟨true, 10, 40⟩ }⟩ } } : State).guardsClear = false) ∧
    (({ running { context pause4 with cause := some ⟨.cliffStop, none⟩, phase := .stopping } [] 0 with
      floor := waitingResult } : State).floor.resultPending = true) :=
  ⟨by decide, ⟨rfl, rfl, rfl, rfl⟩, rfl, ⟨rfl, rfl, rfl, rfl⟩, rfl, rfl, by decide, ⟨atRest_ending _, rfl, ⟨rfl, rfl, rfl, rfl⟩, rfl⟩, rfl⟩

theorem witness_CompletionsAreReadInOrder :
    busy.segments.completions = [] ∧
    (after (.segmentCancel 2) busy).segments.completions = ⟨spin2, .cancelled, true, 0, none, 0, 0⟩ :: [] := by
  decide +kernel

/-- A tag not held; a waiting tag, behind a running segment, behind one that is stopping, in WAKING and while the undock
wait runs on; a running tag, moving and at rest, inside an unjam too, without and with a cause, its result pending and a
BACKOFF move in progress; and no running segment. -/
theorem witness_CancelAndFlushEndSegments :
    SegmentsOk busy.segments ∧ (∀ x ∈ busy.segments.queue, x.tag ≠ (9 : Byte).toNat) ∧
    (spin2 ∈ busy.segments.queue ∧ RunsOn busy (context line1) ∧ line1 ≠ spin2) ∧
    (busy.atRest = false ∧ busy.drive.stop = .none ∧ line1.tag = (1 : Byte).toNat) ∧
    (running { context line1 with cause := some ⟨.stall, none⟩, phase := .stopping } [] 60).atRest = false ∧
    ((inMode .active).segments.running = none ∧ (inMode .active).modes.mode ≠ .parking) ∧
    ((inMode .waking).modes.mode ≠ .parking ∧ (inMode .waking).modes.mode ≠ .active ∧
      ({ inMode .active with dock := ⟨true, none, true, .wait, some 4⟩ } : State).dock.undock = .wait) ∧
    (AtRest (running (context pause4) [line1] 0) ∧ (running (context pause4) [line1] 0).drive.stop = .none ∧
      pause4.tag = (4 : Byte).toNat) ∧
    ({ ending .active 0 with floor := waitingResult } : State).floor.resultPending = true ∧
    (spin2 ∈ halting.segments.queue ∧ line1 ≠ spin2 ∧ ¬ AtRest halting) ∧
    (jammed.atRest = true ∧ jammed.floor.resultPending = false ∧ jammed.drive.stop = .none) :=
  ⟨busy_segments_ok, by decide, ⟨by decide, ⟨rfl, rfl, by decide⟩, by decide⟩, by decide, by decide, by decide, by decide,
    ⟨⟨rfl, rfl, rfl, rfl⟩, rfl, rfl⟩, rfl, ⟨by decide, by decide, not_atRest_halting⟩, by decide⟩

/-! ### Witnesses for the floor sensors -/

/-- A LINE that waits in WAKING. -/
def wakingUp : State := { inMode .waking with segments := ⟨[line1], none, []⟩ }

/-- A LINE that waits for the end of an undock wait whose segment is written already. -/
def undocking : State :=
  { inMode .active with segments := ⟨[line1], none, []⟩, dock := ⟨true, none, true, .wait, some 19⟩ }

/-- PARKING with an empty queue, waiting for a guard. -/
def parkingOn : State :=
  { inMode .parking with drive := { freshDrive with
      wheels := ⟨freshWheel, { freshWheel with guard := some ⟨true, 10, 40⟩ }⟩ } }

theorem wakingUp_settled : Settled wakingUp := ⟨by decide, by decide, by decide⟩

theorem undocking_settled : Settled undocking := ⟨by decide, by decide, by decide⟩

theorem parkingOn_settled : Settled parkingOn := ⟨by decide, by decide, by decide⟩

/-- The bands of a sample at the factory thresholds 40 and 12: 40, 39, 12 and 11; a sample that trips; the conditions on the
part, idle, waiting and running. -/
theorem witness_CliffSamplesAreJudged :
    (floorThreshold factorySettings ≤ (40 : Byte).toNat ∧ (39 : Byte).toNat < floorThreshold factorySettings ∧
      min (rugThreshold factorySettings) (floorThreshold factorySettings - 1) ≤ (12 : Byte).toNat ∧
      (11 : Byte).toNat < min (rugThreshold factorySettings) (floorThreshold factorySettings - 1)) ∧
    ((inMode .active).zones.centre.cls = .bare ∧
      judge factorySettings false 39 ⟨.clear, 1⟩ = ⟨.tripped, 2⟩ ∧ judge factorySettings true 11 ⟨.suspect, 7⟩ = ⟨.tripped, 8⟩) ∧
    (isTaking (inMode .config).modes.mode = false ∧ isTaking busy.modes.mode = true) ∧ Settled (inMode .active) ∧
    RunsOn busy (context line1) ∧ busy.drive.stop = .none ∧ busy.drive.unjam = none ∧
    (Settled wakingUp ∧ wakingUp.segments.running = none) ∧ (Settled undocking ∧ undocking.segments.running = none) ∧
    (Settled parkingOn ∧ parkingOn.segments.running = none) :=
  ⟨by decide +kernel, by decide +kernel, by decide, settled_of_idle _ (idle_in _ (by decide)), ⟨rfl, rfl, by decide⟩, rfl,
    rfl, ⟨wakingUp_settled, rfl⟩, ⟨undocking_settled, rfl⟩, parkingOn_settled, rfl⟩

/-- The lenient criteria hold where the centre is on a DARK_RUG and no DROP record lives. -/
theorem witness_CliffSamples_lenient :
    RegionClass.darkRug = .darkRug ∧ ∀ l c, IsLive freshTable l → l.record.hazard = .drop c →
      (l.record.source = .host ∨ confirmLevel factorySettings ≤ l.record.confidence) →
      c.r + mergeDistance factorySettings < max (c.cx - 3165).natAbs (c.cy - 1200).natAbs :=
  ⟨rfl, fun l c h => by simp [IsLive] at h⟩

/-- Each row that a trigger asks by: WAITING, an unjam, a BACKOFF move, an earlier stop; with no cause and with one, the
wheels moving and at rest with nothing pending. -/
theorem witness_Triggers :
    ((running { context line1 with phase := .waiting } [] 0).segments.queue ≠ [] ∧
      ({ context line1 with phase := .waiting } : Context).cause = none) ∧
    ({ busy with drive := { busy.drive with unjam := some ⟨0, ⟨-60, -60⟩⟩ } } : State).drive.unjam ≠ none ∧
    (Stop.backoffReverse 0).moveInProgress = true ∧ (ending .active 60).drive.wheels.left.setpoint ≠ 0 ∧
    (ending .active 0).segments.running.map Context.cause = some (some ⟨.cancelled, none⟩) ∧
    (stopAsked factorySettings (context line1) (some .ramp) { busy.drive with stop := .hard }).stop = .hard ∧
    (stopAsked factorySettings (context line1) (some .backoff) { busy.drive with stop := .ramp none }).stop = .backoffHalt ∧
    (stopAsked factorySettings (context line1) (some .hard) { busy.drive with stop := .backoffClose }).stop = .hard ∧
    (freshFloor releasedLines).resultPending = false := by decide +kernel

/-- A line away from its level, a debounce running for a press and for a release, in a taking mode and outside. -/
theorem witness_SwitchesAreDebounced :
    ((inMode .active).floor.bumpers.get .left).switch.raw ≠ true ∧ ((inMode .active).floor.lifts.get .right).raw ≠ true ∧
    ((inMode .active).floor.bumpers.get .left).switch.timer = none ∧
    ((⟨true, false, some 3⟩ : Switch).timer ≠ none ∧ (⟨true, false, some 3⟩ : Switch).raw = true) ∧
    ((⟨false, true, some 3⟩ : Switch).timer ≠ none ∧ (⟨false, true, some 3⟩ : Switch).raw = false) ∧
    isTaking (inMode .config).modes.mode = false := by decide

/-- A press that completes with and without the other's, idle, in a DOCK in any phase and in a LINE; a lift, idle and
running. -/
theorem witness_BumpsAndLiftsTrigger :
    (isTaking (inMode .active).modes.mode = true ∧
      (⟨⟨true, false, some 3⟩, false⟩ : Bumper).pressRunning = true ∧ (settledBumper false).pressRunning = false) ∧
    (Settled (inMode .active) ∧ Settled wakingUp ∧ Settled undocking ∧ Settled parkingOn) ∧
    RunsOn (running (context dock30) [] 60) (context dock30) ∧ dock30.motion.isDock = true ∧
    RunsOn busy (context line1) ∧ line1.motion.isDock = false ∧
    (busy.lifted = false ∧ busy.drive.stop ≠ .release ∧ (⟨true, false, some 20⟩ : Switch).timer ≠ none) ∧
    (context line1).cause = none ∧ isTaking (inMode .config).modes.mode = false ∧
    (running { context dock30 with cause := some ⟨.blocked, none⟩, phase := .stopping } [] 60).canWrite = false :=
  ⟨by decide, ⟨settled_of_idle _ (idle_in _ (by decide)), wakingUp_settled, undocking_settled, parkingOn_settled⟩,
    ⟨rfl, rfl, by decide⟩, rfl, ⟨rfl, rfl, by decide⟩, rfl, by decide, rfl, by decide, by decide⟩

/-! ### Witnesses for the observations and the dock -/

/-- A record that is nearest, at `merge_distance` exactly; its place in the table. -/
theorem witness_ObservationsEnterTheTable_merge :
    edgeState.ageing.observations = [⟨true, 3152, 1213⟩] ∧
    IsLive edgeState.table ⟨⟨20, 3⟩, ⟨.drop ⟨3165, 1200, 30⟩, .cliff, false, 4, 0, 1, false⟩⟩ ∧
    max ((3165 : Int) - 3152).natAbs ((1200 : Int) - 1213).natAbs ≤ mergeDistance factorySettings ∧
    max ((3165 : Int) - 3105).natAbs ((1200 : Int) - 1200).natAbs ≤ mergeDistance factorySettings ∧
    (∀ l, IsLive edgeState.table l → l.ref = ⟨20, 3⟩ ∧ l.record.hazard.rect? = none) := by
  refine ⟨rfl, ⟨by decide, by decide +kernel⟩, by decide +kernel, by decide +kernel, ?_⟩
  intro l h
  have key : ∀ l ∈ liveRecords edgeState.table, l.ref = ⟨20, 3⟩ ∧ l.record.hazard.rect? = none := by decide +kernel
  exact key l ((mem_liveRecords _ _).mpr h)

/-- No record near: slot 0 free; a full table with a victim, of age 255; a full table of HOST records. -/
theorem witness_ObservationsEnterTheTable_create :
    (slotAt freshTable 0).record = none ∧ (∀ k, k < 96 → (slotAt fullTable k).record ≠ none) ∧
    (∀ l, IsLive fullTable l → l.record.source = .host) ∧
    (∀ k, k < 96 → (slotAt (setSlot fullTable 55 ⟨4, some ⟨.post ⟨1400, -600, 40⟩, .bump, false, 2, 255, 1, false⟩⟩) k).record ≠
      none) ∧
    (∀ w, IsLive (setSlot fullTable 55 ⟨4, some ⟨.post ⟨1400, -600, 40⟩, .bump, false, 2, 255, 1, false⟩⟩) w →
      w.record.age ≤ 255 ∧ (w.record.source ≠ .host → w.ref.slot = 55)) := by
  refine ⟨by decide +kernel, by decide +kernel, ?_, by decide +kernel, ?_⟩
  · intro l h
    have key : ∀ l ∈ liveRecords fullTable, l.record.source = .host := by decide +kernel
    exact key l ((mem_liveRecords _ _).mpr h)
  · intro w h
    have key : ∀ w ∈ liveRecords (setSlot fullTable 55 ⟨4, some ⟨.post ⟨1400, -600, 40⟩, .bump, false, 2, 255, 1, false⟩⟩),
        w.record.age ≤ 255 ∧ (w.record.source ≠ .host → w.ref.slot = 55) := by decide +kernel
    exact key w ((mem_liveRecords _ _).mpr h)

/-- The centre as classified, room for the notices, and a response that waits, moving and at rest; an idle part with no
result pending, and a running LINE, without a cause and with one whose result waits. -/
theorem witness_ObservationsEnterTheTable :
    edgeState.power = .ready ∧ edgeState.zones.centre = classAt edgeState.table edgeState.pose.px edgeState.pose.py ∧
    edgeState.link.notices.length + 2 ≤ 16 ∧
    ({ freshFloor releasedLines with response := some ⟨⟨true, 3165, 1200⟩, .pending 0⟩ } : Floor).resultPending = true ∧
    (busy.segments.queue ≠ [] ∧ busy.atRest = false) ∧
    (running { context line1 with cause := some ⟨.cliffStop, none⟩, phase := .stopping } [] 0).atRest = true ∧
    (edgeState.straightRunning = none ∧ Settled edgeState ∧ edgeState.floor.resultPending = false) ∧
    ((context line1).cause = none ∧ busy.floor.resultPending = false ∧ line1.motion.isStraight = true) ∧
    (halting.segments.running.bind Context.cause ≠ none ∧ halting.floor.resultPending = true) :=
  ⟨rfl, by decide +kernel, by decide, rfl, by decide, by decide, ⟨rfl, ⟨by decide, by decide, by decide⟩, rfl⟩, by decide,
    by decide⟩

/-- The modes ACTIVE, PARKING and CONFIG, a record that fades, and room for its notice; a table with no sensed record; a
running LINE. -/
theorem witness_AgeingPassFadesSensedRecords :
    ((inMode .config).modes.mode ≠ .active ∧ (inMode .config).modes.mode ≠ .parking) ∧
    (inMode .active).modes.mode = .active ∧
    edgeState.zones.centre = classAt edgeState.table edgeState.pose.px edgeState.pose.py ∧
    (∀ l, IsLive edgeState.table l → l.record.source ≠ .host → l.record.hazard.rect? = none) ∧
    edgeState.link.notices.length + 1 ≤ 16 ∧
    (∀ l, IsLive (inMode .active).table l → l.record.source = .host) ∧ Settled (inMode .active) ∧
    (∃ l, IsLive edgeState.table l ∧ l.record.source ≠ .host) ∧ edgeState.straightRunning = none ∧ Settled edgeState ∧
    (busy.segments.running = some (context line1) ∧ busy.segments.queue ≠ [] ∧ line1.motion.isStraight = true) :=
  ⟨by decide, rfl, by decide +kernel, fun l h _ => (witness_ObservationsEnterTheTable_merge.2.2.2.2 l h).2, by decide,
    fun l h => by simp [inMode, State.reset, IsLive] at h, settled_of_idle _ (idle_in _ (by decide)),
    ⟨_, witness_ObservationsEnterTheTable_merge.2.1, by decide⟩, rfl, ⟨by decide, by decide, by decide⟩, rfl, by decide, rfl⟩

/-- Both contact levels, docked and not, both ends of the notice queue, a settle and an undock wait that run; a segment that
is stopping in the wait, and none running, with the next head free to start and not. -/
theorem witness_DockContactIsFollowed :
    ((inMode .active).dock.contact = false ∧ (⟨true, none, true, .none, none⟩ : Dock).contact = true ∧
      (inMode .active).dock.settle = none ∧ (inMode .active).dock.undockTimer = none) ∧
    ((inMode .active).link.notices.length < 16 ∧
      16 ≤ (List.replicate 16 (dockNotice .dockLost (inMode .active))).length) ∧
    (⟨true, some ⟨100, 100⟩, false, .none, none⟩ : Dock).settle = some ⟨100, 100⟩ ∧ Settled busy ∧
    line1.motion.isDock = false ∧ RunsOn (running (context dock30) [] 60) (context dock30) ∧
    (running (context dock30) [] 60).atRest = false ∧
    (⟨true, none, true, .wait, some 20⟩ : Dock).undockTimer = some 20 ∧
    RunsOn (running { context line1 with phase := .waiting } [] 0) { context line1 with phase := .waiting } ∧
    Settled (inMode .active) ∧
    ((halting.segments.queue ≠ [] ∧ ¬ AtRest halting) ∧ undocking.segments.running = none ∧ Settled wakingUp) ∧
    (SegmentsOk ⟨[spin2], none, []⟩ ∧ spin2.motion.isStraight = false ∧ undocking.modes.mode = .active ∧
      undocking.atRest = true ∧ undocking.floor.resultPending = false) :=
  ⟨by decide, by decide, rfl, ⟨by decide, by decide, by decide⟩, rfl, ⟨rfl, rfl, by decide⟩, by decide, rfl,
    ⟨rfl, rfl, by decide⟩, settled_of_idle _ (idle_in _ (by decide)), ⟨⟨by decide, not_atRest_halting⟩, rfl, wakingUp_settled⟩,
    ⟨by decide, by decide, by decide, by decide⟩, rfl, rfl, rfl, rfl⟩

/-- NOP, STATUS, and the unknown code 0x18; an event that is no request; transactions of 19 and 20 bytes. -/
theorem witness_RequestFramesComeBack :
    (requestCode .nop = some 0 ∧ requestCode .status = some 1 ∧ requestCode (.unknownRequest 0x18) = some 0x18) ∧
    (Instr.unknownRequest 0x18).wellFormed = true ∧ (Frame.encode (.unknownRequest 0x18)).isSome = true ∧
    requestCode .powerLoss = none ∧
    (List.replicate 19 (0 : Byte)).length < 20 ∧ ¬ (List.replicate 20 (0 : Byte)).length < 20 := by decide

end Sys2Proof.Tests
end

section
/-! The Hazard Table's read requests, RECORD_GET (R17) and RECORD_NEXT (R18): the layout of a record body, what each of
the two effects does in each of its cases, and the two statements about them. -/

namespace Sys2Proof.Machine

/-! ### Requests that only answer -/

/-- A request whose effect is a response alone leaves the state `answered` (R176, R178). -/
theorem onRequest_answered {act : State → State} {code : Byte} {result : ResultCode} {body : List Byte} {s : State}
    (ready : s.power = .ready) (hact : act (acceptFrame s) = respond code result body (acceptFrame s)) :
    onRequest act s = .next (answered code result body s) := by
  rw [onRequest_ready act s ready, hact, answered]

theorem exec_recordGet_eq (slot : Byte) (s : State) :
    exec (.recordGet slot) s = onRequest (recordGetEffect slot) s := rfl

theorem exec_recordNext_eq (start : Byte) (s : State) :
    exec (.recordNext start) s = onRequest (recordNextEffect start) s := rfl

/-! ### The record body -/

theorem toByte_toNat (b : Byte) : toByte b.toNat = b := by simp [toByte]

@[simp] theorem toByte_zero : toByte 0 = 0 := rfl

@[simp] theorem int16_zero : int16 0 = [0, 0] := by decide

/-- The derived state of a record as its code (R6, R179). -/
theorem recordState_byte (cfg : Settings) (r : Record) :
    (recordState cfg r).byte =
      match r.source with
      | .host => 0
      | _ => if r.confidence < confirmLevel cfg then 1 else 2 := by
  unfold recordState
  cases r.source with
  | host => rfl
  | bump | cliff => exact apply_ite RecordState.byte _ _ _

/-- Offsets 7 to 17 of the record body, kind by kind: fields that a kind does not have read 0 (R3, R179). -/
theorem hazardBytes_by_kind (h : Hazard) :
    [toByte h.order] ++ geometryBytes h ++ int16 (h.limit?.getD 0) =
      match h with
      | .post c | .drop c => [0] ++ int16 c.cx ++ int16 c.cy ++ int16 c.r ++ [0, 0] ++ [0, 0]
      | .dock c heading => [0] ++ int16 c.cx ++ int16 c.cy ++ int16 c.r ++ int16 heading ++ [0, 0]
      | .keepout b | .clear b =>
        [toByte b.order] ++ int16 b.x0 ++ int16 b.y0 ++ int16 b.x1 ++ int16 b.y1 ++ [0, 0]
      | .slow b l | .rug b l | .darkRug b l =>
        [toByte b.order] ++ int16 b.x0 ++ int16 b.y0 ++ int16 b.x1 ++ int16 b.y1 ++ int16 (l.getD 0) := by
  cases h with
  | post c | drop c | dock c heading | keepout b | clear b =>
    simp [geometryBytes, Hazard.order, Hazard.circle?, Hazard.rect?, Hazard.limit?, Hazard.dockHeading]
  | slow b l | rug b l | darkRug b l => rfl

/-- The record body from its two parts that depend on more than one field: the code of the derived state, and the bytes
from offset 7 on. -/
theorem recordBody_of_parts {cfg : Settings} {ref : Ref} {r : Record} {state : Byte} {tail : List Byte}
    (hstate : (recordState cfg r).byte = state)
    (htail : [toByte r.hazard.order] ++ geometryBytes r.hazard ++ int16 (r.hazard.limit?.getD 0) = tail) :
    recordBody cfg ref r =
      [toByte ref.slot, ref.generation, r.hazard.kind.byte,
        r.source.byte + (if r.pinned then 4 else 0) + 8 * state,
        toByte r.confidence, toByte r.age, toByte r.hits] ++ tail := by
  subst hstate htail
  rfl

/-! ### RECORD_GET -/

theorem slotBody_live {cfg : Settings} {t : Table} {k : Nat} {r : Record} (live : (slotAt t k).record = some r) :
    slotBody cfg t k = recordBody cfg ⟨k, (slotAt t k).generation⟩ r := by
  simp [slotBody, live]

theorem recordGetEffect_live {slot : Byte} {s : State} {r : Record} (inside : slot.toNat < 96)
    (live : (slotAt s.table slot.toNat).record = some r) :
    recordGetEffect slot s =
      respond 0x0C .ok (recordBody s.config ⟨slot.toNat, (slotAt s.table slot.toNat).generation⟩ r) s := by
  simp [recordGetEffect, Nat.not_le.mpr inside, live, slotBody_live live]

theorem recordGetEffect_free {slot : Byte} {s : State} (inside : slot.toNat < 96)
    (free : (slotAt s.table slot.toNat).record = none) :
    recordGetEffect slot s = respond 0x0C .notLive [slot, (slotAt s.table slot.toNat).generation] s := by
  simp [recordGetEffect, Nat.not_le.mpr inside, free]

theorem recordGetEffect_outside {slot : Byte} {s : State} (outside : 96 ≤ slot.toNat) :
    recordGetEffect slot s = respond 0x0C .badField [] s := by
  simp [recordGetEffect, outside]

/-! ### RECORD_NEXT -/

theorem isLive_of_record {t : Table} {k : Nat} {r : Record} (inside : k < 96)
    (live : (slotAt t k).record = some r) : IsLive t ⟨⟨k, (slotAt t k).generation⟩, r⟩ :=
  ⟨inside, by rw [← live]⟩

theorem record_of_isLive {t : Table} {l : Live} (h : IsLive t l) : (slotAt t l.ref.slot).record = some l.record := by
  rw [h.2]

/-- A live record with only free slots between the start slot and its own is the one found: the records that stand
before it in slot order lie below the start slot. -/
theorem firstLive_eq_some {t : Table} {start : Nat} {l : Live} (live : IsLive t l) (above : start ≤ l.ref.slot)
    (free : ∀ j, start ≤ j → j < l.ref.slot → (slotAt t j).record = none) : firstLive t start = some l := by
  obtain ⟨before, after, split⟩ := List.append_of_mem ((mem_liveRecords t l).mpr live)
  refine List.find?_eq_some_iff_append.mpr ⟨by simpa using above, before, after, split, fun a ha => ?_⟩
  have lower : a.ref.slot < l.ref.slot := by
    have sorted := liveRecords_slots t
    rw [split] at sorted
    exact (List.pairwise_append.mp sorted).2.2 a ha l (by simp)
  have record : (slotAt t a.ref.slot).record = some a.record :=
    record_of_isLive ((mem_liveRecords t a).mp (by simp [split, ha]))
  have below : ¬ start ≤ a.ref.slot := fun h => by simp [free _ h lower] at record
  simpa using below

theorem firstLive_eq_none {t : Table} {start : Nat}
    (free : ∀ j, start ≤ j → j < 96 → (slotAt t j).record = none) : firstLive t start = none := by
  refine List.find?_eq_none.mpr fun l hl => ?_
  have live : IsLive t l := (mem_liveRecords t l).mp hl
  have below : ¬ start ≤ l.ref.slot := fun h => by simpa [free _ h live.1] using record_of_isLive live
  simpa using below

theorem recordNextEffect_found {start : Byte} {s : State} {l : Live} (h : firstLive s.table start.toNat = some l) :
    recordNextEffect start s = respond 0x0E .ok (recordBody s.config l.ref l.record) s := by
  simp [recordNextEffect, h]

theorem recordNextEffect_notFound {start : Byte} {s : State} (h : firstLive s.table start.toNat = none) :
    recordNextEffect start s = respond 0x0E .notFound [] s := by
  simp [recordNextEffect, h]

/-! ### The statements -/

/-- Settles O32, by the three cases of R17: a live slot, a free slot, a slot field of 96 or more. -/
theorem recordGetReturnsTheSlot : Obligations.RecordGetReturnsTheSlot := by
  unfold Obligations.RecordGetReturnsTheSlot
  intro slot s ready
  rw [exec_recordGet_eq]
  refine ⟨fun r inside live => ?_, fun inside free => ?_, fun outside => ?_⟩
  · have response := onRequest_answered ready (recordGetEffect_live inside live)
    rw [acceptFrame_config, acceptFrame_table,
      recordBody_of_parts (recordState_byte s.config r) (hazardBytes_by_kind r.hazard), toByte_toNat] at response
    exact response
  · exact onRequest_answered ready (recordGetEffect_free inside free)
  · exact onRequest_answered ready (recordGetEffect_outside outside)

/-- Settles O33: what the scan of R18 finds is fixed by the ascending slot order of the live records. -/
theorem recordNextFindsTheFirstLive : Obligations.RecordNextFindsTheFirstLive := by
  unfold Obligations.RecordNextFindsTheFirstLive
  intro start s ready
  rw [exec_recordNext_eq]
  refine ⟨fun k r above inside live free => ?_, fun free => ?_⟩
  · have found : firstLive (acceptFrame s).table start.toNat = some ⟨⟨k, (slotAt s.table k).generation⟩, r⟩ :=
      firstLive_eq_some (isLive_of_record inside live) above free
    exact onRequest_answered ready (recordNextEffect_found found)
  · exact onRequest_answered ready (recordNextEffect_notFound (firstLive_eq_none free))

end Sys2Proof.Machine
end

section
/-! The Region Classifier's scan (R23): the live rectangles that contain a point, the one of them that comes first by order
and then by slot, and the class that it gives (R22). -/

namespace Sys2Proof.Machine

/-! ### The first of the least, as an equivalence -/

/-- In a list whose ranks rise, the element selected is the one that comes first by key and then by rank: two elements that
both come first have the same rank, and so are the same. -/
theorem leastBy_eq_some_iff {α : Type} {key rank : α → Nat} {l : List α} (rising : l.Pairwise fun a c => rank a < rank c)
    (x : α) :
    leastBy key l = some x ↔ x ∈ l ∧ ∀ y ∈ l, key x < key y ∨ (key x = key y ∧ rank x ≤ rank y) := by
  refine ⟨leastBy_first key rank l rising x, fun ⟨hx, first⟩ => ?_⟩
  obtain ⟨z, hz⟩ : ∃ z, leastBy key l = some z :=
    Option.ne_none_iff_exists'.mp fun h => List.ne_nil_of_mem hx ((leastBy_none_iff key l).mp h)
  obtain ⟨hzl, firstz⟩ := leastBy_first key rank l rising z hz
  have same_rank : rank x = rank z := by
    have x_first := first z hzl
    have z_first := firstz x hx
    omega
  have distinct : (l.map rank).Nodup := List.pairwise_map.mpr (rising.imp fun h => h.ne)
  have same : x = z := List.inj_on_of_nodup_map distinct hx hzl same_rank
  rw [same, hz]

/-! ### The live rectangles that contain a point -/

/-- A point on an edge is inside (R23). -/
theorem contains_iff (b : Rect) (x y : Int) :
    b.contains x y = true ↔ b.x0 ≤ x ∧ x ≤ b.x1 ∧ b.y0 ≤ y ∧ y ≤ b.y1 := by
  simp [Rect.contains, and_assoc]

/-- The live rectangles that contain a point, in ascending slot order: what the scan selects from. -/
def coveringRecords (t : Table) (x y : Int) : List Live :=
  (liveRecords t).filter fun l => (l.record.hazard.rect?.map (fun b => b.contains x y)).getD false

theorem order_eq_getD (h : Hazard) : h.order = (h.rect?.map Rect.order).getD 0 := by
  unfold Hazard.order
  cases h.rect? <;> rfl

theorem scan_eq_leastBy (t : Table) (x y : Int) :
    scan t x y = leastBy (fun l => l.record.hazard.order) (coveringRecords t x y) := by
  simp only [scan, coveringRecords, order_eq_getD]

theorem coveringRecords_slots (t : Table) (x y : Int) :
    (coveringRecords t x y).Pairwise fun a c => a.ref.slot < c.ref.slot :=
  (liveRecords_slots t).filter _

theorem mem_coveringRecords {t : Table} {x y : Int} {l : Live} :
    l ∈ coveringRecords t x y ↔ IsLive t l ∧ ∃ b, l.record.hazard.rect? = some b ∧
      b.contains x y = true := by
  unfold coveringRecords
  rw [List.mem_filter, mem_liveRecords]
  cases l.record.hazard.rect? with
  | none => simp
  | some b => simp

theorem order_of_rect {h : Hazard} {b : Rect} (hb : h.rect? = some b) : h.order = b.order := by
  simp [order_eq_getD, hb]

/-! ### What the scan finds -/

/-- The scan's result is the live rectangle around the point that no other precedes, by order and then by slot (R23). -/
theorem scan_eq_some_iff (t : Table) (x y : Int) (l : Live) :
    scan t x y = some l ↔ IsLive t l ∧ ∃ b, l.record.hazard.rect? = some b ∧
      b.contains x y = true ∧
      ∀ l' b', IsLive t l' → l'.record.hazard.rect? = some b' →
        b'.contains x y = true →
        b.order < b'.order ∨ (b.order = b'.order ∧ l.ref.slot ≤ l'.ref.slot) := by
  rw [scan_eq_leastBy, leastBy_eq_some_iff (coveringRecords_slots t x y)]
  constructor
  · rintro ⟨hl, first⟩
    obtain ⟨live, b, hb, inside⟩ := mem_coveringRecords.mp hl
    refine ⟨live, b, hb, inside, fun l' b' live' hb' inside' => ?_⟩
    have before := first l' (mem_coveringRecords.mpr ⟨live', b', hb', inside'⟩)
    rwa [order_of_rect hb, order_of_rect hb'] at before
  · rintro ⟨live, b, hb, inside, first⟩
    refine ⟨mem_coveringRecords.mpr ⟨live, b, hb, inside⟩, fun l' hl' => ?_⟩
    obtain ⟨live', b', hb', inside'⟩ := mem_coveringRecords.mp hl'
    rw [order_of_rect hb, order_of_rect hb']
    exact first l' b' live' hb' inside'

/-- The scan finds none only where no live rectangle contains the point (R23). -/
theorem scan_eq_none_iff (t : Table) (x y : Int) :
    scan t x y = none ↔ ∀ l b, IsLive t l → l.record.hazard.rect? = some b →
      ¬ b.contains x y = true := by
  rw [scan_eq_leastBy, leastBy_none_iff, List.eq_nil_iff_forall_not_mem]
  constructor
  · intro empty l b live hb inside
    exact empty l (mem_coveringRecords.mpr ⟨live, b, hb, inside⟩)
  · intro outside l hl
    obtain ⟨live, b, hb, inside⟩ := mem_coveringRecords.mp hl
    exact outside l b live hb inside

/-! ### The class that the scan gives -/

theorem classAt_of_scan_none {t : Table} {x y : Int} (h : scan t x y = none) : classAt t x y = ⟨.bare, none⟩ := by
  simp [classAt, h, bareResult]

theorem classAt_of_scan_some {t : Table} {x y : Int} {l : Live} (h : scan t x y = some l) :
    classAt t x y = ⟨l.record.hazard.regionClass, some l.ref⟩ := by
  simp [classAt, h]

/-- The class of a rectangle as its code; a circle has no rectangle (R3, R22). -/
theorem regionClass_byte_of_rect (h : Hazard) (b : Rect) : h.rect? = some b →
    some h.regionClass.byte =
      match h with
      | .clear _ => some 1
      | .slow _ _ => some 2
      | .rug _ _ => some 3
      | .darkRug _ _ => some 4
      | .keepout _ => some 5
      | _ => none := by
  cases h with
  | clear b | slow b l | rug b l | darkRug b l | keepout b => intro; rfl
  | post c | drop c | dock c heading => intro hb; cases hb

/-- Settles O35: the scan selects, from the live rectangles around the point in slot order, the first of least order, and
the class is that rectangle's. -/
theorem regionScanTakesTheFirst : Obligations.RegionScanTakesTheFirst := by
  unfold Obligations.RegionScanTakesTheFirst
  intro t x y
  simp only [← contains_iff]
  refine ⟨scan_eq_some_iff t x y, scan_eq_none_iff t x y, classAt_of_scan_none, fun l found => ?_⟩
  obtain ⟨-, b, hb, -⟩ := (scan_eq_some_iff t x y l).mp found
  rw [classAt_of_scan_some found]
  exact ⟨rfl, regionClass_byte_of_rect _ b hb⟩

end Sys2Proof.Machine
end

section
/-! The host's POSE_GET (R49): the units of the response's body, and the statement about it. -/

namespace Sys2Proof.Machine

theorem exec_poseGet_eq (s : State) : exec .poseGet s = onRequest poseGetEffect s := rfl

/-- Whole millimetres round towards minus infinity, as the quotient by a positive number does (R49). -/
theorem px_eq_div (p : Pose) : p.px = p.xUm / 1000 := rfl

theorem py_eq_div (p : Pose) : p.py = p.yUm / 1000 := rfl

/-- The distance since fix, in whole millimetres, stops at 65535 (R49). -/
theorem min_65535_eq_ite (d : Nat) : ((min d 65535 : Nat) : Int) = if 65535 ≤ d then 65535 else (d : Int) := by
  split
  case isTrue reached => rw [Nat.min_eq_right reached, Nat.cast_ofNat]
  case isFalse below => rw [Nat.min_eq_left (Nat.le_of_not_le below)]

/-- The body of POSE_GET, offset by offset (R49, R179). -/
theorem poseBody_eq (s : State) :
    poseBody s =
      int16 (s.pose.xUm / 1000) ++ int16 (s.pose.yUm / 1000) ++ int16 s.pose.heading ++ [toByte s.pose.u] ++
        int16 (if 65535 ≤ s.pose.distance / 1000 then 65535 else (s.pose.distance / 1000 : Nat)) ++
        [if s.dock.docked then 1 else 0] := by
  rw [poseBody, px_eq_div, py_eq_div, min_65535_eq_ite, flagByte]

/-- The acceptance of a frame touches the link alone, and the body reads the pose and the docked flag (R176). -/
theorem poseBody_acceptFrame (s : State) : poseBody (acceptFrame s) = poseBody s := by
  rw [poseBody, acceptFrame_pose, acceptFrame_dock, poseBody]

/-- Settles O39: POSE_GET does nothing but answer, and the body of its answer reads the pose as it stands when the request
is taken. -/
theorem poseGetReturnsThePose : Obligations.PoseGetReturnsThePose := by
  unfold Obligations.PoseGetReturnsThePose
  intro s ready
  rw [exec_poseGet_eq, ← poseBody_eq]
  refine onRequest_answered ready ?_
  rw [poseGetEffect, poseBody_acceptFrame]

end Sys2Proof.Machine
end

section
/-! The host's COMPLETION_READ (R98): what its effect does on an empty queue and on one that holds a record, the fields of
the completion body (R179), and the statement about it. -/

namespace Sys2Proof.Machine

theorem exec_completionRead_eq (s : State) : exec .completionRead s = onRequest completionReadEffect s := rfl

/-! ### The completion body -/

/-- Offset 1 of the completion body: the kind of the segment as its code (R179). -/
theorem kindByte_by_kind (m : Motion) :
    m.kindByte =
      match m with
      | .line .. => 0
      | .spin .. => 1
      | .dock .. => 2
      | .pause _ => 3 := by
  cases m <;> rfl

/-- Offsets 6 and 7 of the completion body: the record that the end refers to, or none (R179). -/
theorem refBytes_by_ref (r : Option Ref) :
    refBytes r =
      match r with
      | none => [255, 0]
      | some ref => [toByte ref.slot, ref.generation] := by
  cases r <;> rfl

/-! ### The two cases of the effect -/

theorem completionReadEffect_empty {s : State} (empty : s.segments.completions = []) :
    completionReadEffect s = respond 0x16 .empty [0] s := by
  simp [completionReadEffect, empty]

theorem completionReadEffect_oldest {s : State} {r : Completion} {rest : List Completion}
    (held : s.segments.completions = r :: rest) :
    completionReadEffect s =
      respond 0x16 .ok (completionBody r rest.length)
        { s with segments := { s.segments with completions := rest } } := by
  simp [completionReadEffect, held]

/-- A request that answers and changes the segments besides: the acceptance and the response both stand in the link block
(R176, R178). -/
theorem respond_acceptFrame_segments (code : Byte) (result : ResultCode) (body : List Byte) (g : Segments) (s : State) :
    respond code result body { acceptFrame s with segments := g } =
      { s with segments := g, link := answerLink code result body s } := rfl

/-- COMPLETION_READ with a record held: the oldest leaves, and its body is the answer (R98). -/
theorem exec_completionRead_oldest {s : State} {r : Completion} {rest : List Completion} (ready : s.power = .ready)
    (held : s.segments.completions = r :: rest) :
    exec .completionRead s = .next (refresh { s with
      segments := { s.segments with completions := rest }
      link := answerLink 0x16 .ok (completionBody r rest.length) s }) := by
  have accepted : (acceptFrame s).segments.completions = r :: rest := held
  rw [exec_completionRead_eq, onRequest_ready _ s ready, completionReadEffect_oldest accepted, acceptFrame_segments,
    respond_acceptFrame_segments]

/-- Settles O52, by the two cases of R98: no record held, and an oldest record with the rest behind it, whose body is then
read field by field. -/
theorem completionsAreReadInOrder : Obligations.CompletionsAreReadInOrder := by
  unfold Obligations.CompletionsAreReadInOrder
  intro s ready
  refine ⟨fun empty => ?_, fun r rest held => ?_⟩
  · rw [exec_completionRead_eq]
    exact onRequest_answered ready (completionReadEffect_empty empty)
  · have read := exec_completionRead_oldest ready held
    rw [completionBody, kindByte_by_kind, refBytes_by_ref, flagByte] at read
    exact read

end Sys2Proof.Machine
end

section
/-! How every command runs, said once: its effect on a part that is ready, what it does on one that is not, and what is
enough for a property to be kept by every step. -/

namespace Sys2Proof.Machine

/-! ### The effect of each command -/

/-- What a command does to a part whose start-up has ended, before the output lines follow: a request acts on the state
that its acceptance leaves, a change of a line on the state with its new level. The rows of the power and the transactions
that are no request frames have no effect of this form. -/
def readyEffect : Instr → Option (State → State)
  | .nop => some acceptFrame
  | .unknownRequest code => some fun s => respond code .unknown [] (acceptFrame s)
  | .status => some fun s => statusEffect (acceptFrame s)
  | .configSet it value => some fun s => configSetEffect it value (acceptFrame s)
  | .configGet it => some fun s => configGetEffect it (acceptFrame s)
  | .modeActive => some fun s => modeActiveEffect (acceptFrame s)
  | .modeConfig => some fun s => modeConfigEffect (acceptFrame s)
  | .park => some fun s => parkEffect (acceptFrame s)
  | .wake => some fun s => wakeEffect (acceptFrame s)
  | .resume => some fun s => resumeEffect (acceptFrame s)
  | .restart => some fun s => restartEffect (acceptFrame s)
  | .store => some fun s => storeEffect (acceptFrame s)
  | .storeEnd readBack => some (storeEndEffect readBack)
  | .recordPut slot generation kind flags order g8 g10 g12 g14 limit =>
    some fun s => recordPutEffect slot generation kind flags order g8 g10 g12 g14 limit (acceptFrame s)
  | .recordGet slot => some fun s => recordGetEffect slot (acceptFrame s)
  | .recordRetire slot generation => some fun s => recordRetireEffect slot generation (acceptFrame s)
  | .recordNext start => some fun s => recordNextEffect start (acceptFrame s)
  | .pointQuery x y => some fun s => pointQueryEffect x y (acceptFrame s)
  | .pathQuery heading direction => some fun s => pathQueryEffect heading direction (acceptFrame s)
  | .poseSet x y heading u => some fun s => poseSetEffect x y heading u (acceptFrame s)
  | .poseGet => some fun s => poseGetEffect (acceptFrame s)
  | .segmentAdd tag kind direction hold amount speed =>
    some fun s => segmentAddEffect tag kind direction hold amount speed (acceptFrame s)
  | .segmentCancel tag => some fun s => segmentCancelEffect tag (acceptFrame s)
  | .segmentFlush => some fun s => segmentFlushEffect (acceptFrame s)
  | .completionRead => some fun s => completionReadEffect (acceptFrame s)
  | .noticeRead => some fun s => noticeReadEffect (acceptFrame s)
  | .controlPeriodExpiry order => some (controlPeriodEffect order)
  | .encoderEdge wheel a b =>
    some fun s => encoderEffect wheel ⟨a, b⟩ { s with lines := setEncoder wheel ⟨a, b⟩ s.lines }
  | .stallTimerExpiry wheel => some (stallTimerEffect wheel)
  | .unjamEnd => some unjamEndEffect
  | .reversalGuardExpiry wheel => some (guardEffect wheel)
  | .cliffSample sensor reflectance => some (cliffEffect sensor reflectance)
  | .bumperLineChange side pressed =>
    some fun s => bumperLineEffect side pressed { s with lines := setBumperLine side pressed s.lines }
  | .bumperDebounceExpiry side => some (bumperDebounceEffect side)
  | .liftLineChange side active =>
    some fun s => liftLineEffect side active { s with lines := setLiftLine side active s.lines }
  | .liftDebounceExpiry side => some (liftDebounceEffect side)
  | .observation => some observationEffect
  | .ageingTimerExpiry => some ageingEffect
  | .dockContactMake => some fun s => contactMakeEffect { s with lines := setContactLine true s.lines }
  | .dockContactBreak => some fun s => contactBreakEffect { s with lines := setContactLine false s.lines }
  | .dockSettleExpiry => some dockSettleEffect
  | .undockWaitExpiry => some undockWaitEffect
  | .pauseTimerExpiry => some pauseTimerEffect
  | .wakeTimerExpiry => some wakeTimerEffect
  | .linkSilenceExpiry => some linkSilenceEffect
  | .noticeTimerExpiry => some noticeTimerEffect
  | .segmentStart => some segmentStartEffect
  | .completionRecordWrite => some completionWriteEffect
  | .powerOn | .resetPinFall | .startUpEnd | .startupTransaction _ | .shortTransaction _ | .powerLoss => none

/-- A command that has an effect on a ready part answers with it, and with the output lines that follow. -/
theorem exec_ready {c : Instr} {act : State → State} {s : State} (effect : readyEffect c = some act)
    (ready : s.power = .ready) : exec c s = .next (refresh (act s)) := by
  cases c <;> first
    | cases effect <;> done
    | (obtain rfl := Option.some.inj effect; exact onRequest_ready _ s ready)
    | (obtain rfl := Option.some.inj effect; exact onEvent_ready _ s ready)
    | (obtain rfl := Option.some.inj effect; exact onLine_ready _ _ s ready)

theorem exec_effect {c : Instr} {act : State → State} {s u : State} (effect : readyEffect c = some act)
    (ready : s.power = .ready) (h : act s = u) : exec c s = .next (refresh u) := by
  rw [exec_ready effect ready, h]

/-- What a command with such an effect does on a part that is not ready: nothing, a discarded transaction, or a line that
takes its level unwatched (R176, section 10.4; log 4, log 5). -/
inductive Unready (s : State) : State → Prop where
  | unchanged : Unready s s
  | discarded (n : Nat) : s.power = .startUp n → Unready s (discardInStartUp 20 s)
  | line (l : Lines) : Unready s { s with lines := l }

theorem onRequest_unready (act : State → State) {s : State} (unready : s.power ≠ .ready) :
    ∃ t, onRequest act s = .next t ∧ Unready s t := by
  cases hp : s.power with
  | off => exact ⟨s, onRequest_off act s hp, .unchanged⟩
  | startUp n => exact ⟨_, onRequest_startUp act s n hp, .discarded n hp⟩
  | ready => exact absurd hp unready

theorem exec_unready {c : Instr} {act : State → State} {s : State} (effect : readyEffect c = some act)
    (unready : s.power ≠ .ready) : ∃ t, exec c s = .next t ∧ Unready s t := by
  cases c <;> first
    | cases effect <;> done
    | exact onRequest_unready _ unready
    | exact ⟨s, onEvent_unready _ s unready, .unchanged⟩
    | exact ⟨_, onLine_unready _ _ s unready, .line _⟩

/-! ### What is enough for a property to be kept -/

/-- The state that a loss of power leaves (R171; log 38). -/
def lostState (s : State) : State :=
  { State.reset with
    pending := s.pending
    choices := s.choices
    power := .off
    lines := s.lines
    nv := nvAfterCut s
    latches := freshLatches false
    link := freshLink .stopped
    outputs := restOutputs }

theorem exec_powerLoss_eq (s : State) : exec .powerLoss s = .next (lostState s) := rfl

theorem exec_startUpEnd_eq {s : State} {n : Nat} (h : s.power = .startUp n) :
    exec .startUpEnd s = .next (refresh (endStartUp s)) := by simp [exec, execStartUpEnd, h]

/-- The parts of a step, each of which keeps a property. -/
structure KeptByParts (p : State → Prop) : Prop where
  pending : ∀ s l, p s → p { s with pending := l }
  choices : ∀ s n, p s → p { s with choices := n }
  lines : ∀ s l, s.power ≠ .ready → p s → p { s with lines := l }
  discard : ∀ s n k, s.power = .startUp k → p s → p (discardInStartUp n s)
  shift : ∀ s n, p s → p (shiftOut n s)
  start : ∀ s, p s → p (beginStartUp s)
  finish : ∀ s n, s.power = .startUp n → p s → p (refresh (endStartUp s))
  loss : ∀ s, p s → p (lostState s)
  tick : ∀ s, p s → p (tick s)
  effect : ∀ c act s, readyEffect c = some act → s.power = .ready → p s → p (refresh (act s))

theorem KeptByParts.unready {p : State → Prop} (h : KeptByParts p) {s t : State} (hp : s.power ≠ .ready) (hs : p s)
    (ht : Unready s t) : p t := by
  cases ht with
  | unchanged => exact hs
  | discarded n hn => exact h.discard s 20 n hn hs
  | line l => exact h.lines s l hp hs

theorem KeptByParts.byEffect {p : State → Prop} (h : KeptByParts p) {c : Instr} {act : State → State} {s t : State}
    (effect : readyEffect c = some act) (hs : p s) (ht : exec c s = .next t) : p t := by
  by_cases ready : s.power = .ready
  · rw [exec_ready effect ready] at ht
    cases ht
    exact h.effect c act s effect ready hs
  · obtain ⟨u, hu, run⟩ := exec_unready effect ready
    rw [hu] at ht
    cases ht
    exact h.unready ready hs run

theorem KeptByParts.byExec {p : State → Prop} (h : KeptByParts p) (c : Instr) (s t : State) (hs : p s)
    (ht : exec c s = .next t) : p t := by
  cases effect : readyEffect c with
  | some act => exact h.byEffect effect hs ht
  | none =>
    cases c <;> first
      | cases effect <;> done
      | skip
    case powerOn => cases ht; exact h.start s hs
    case resetPinFall =>
      simp only [exec, execResetPinFall] at ht
      split at ht <;> cases ht
      · exact hs
      · exact h.start s hs
    case startUpEnd =>
      simp only [exec, execStartUpEnd] at ht
      split at ht <;> cases ht
      next n hp => exact h.finish s n hp hs
      · exact hs
    case startupTransaction b =>
      simp only [exec, execStartupTransaction] at ht
      split at ht <;> cases ht
      next n hp => exact h.discard s b n hp hs
      · exact hs
    case shortTransaction b =>
      simp only [exec, execShortTransaction] at ht
      split at ht <;> cases ht
      · exact h.shift s b hs
      next n hp => exact h.discard s b n hp hs
      · exact hs
    case powerLoss => cases ht; exact h.loss s hs

theorem KeptByParts.byStep {p : State → Prop} (h : KeptByParts p) : KeptByStep p :=
  keptByStep_of_exec h.pending h.choices h.byExec h.tick

end Sys2Proof.Machine
end

section
/-! The step and the power: the front command and the empty queue (log 2), the commands that answer in every state, the
loss of power and the start-up (R171), and the transactions that change nothing (R176). -/

namespace Sys2Proof.Machine

/-! ### The step -/

/-- Settles O1, by the definition of a step on a queue that holds a command. -/
theorem stepRunsTheFrontCommand : Obligations.StepRunsTheFrontCommand := by
  unfold Obligations.StepRunsTheFrontCommand
  intro c rest s h
  simp [step, h]

theorem step_empty {s : State} (h : s.pending = []) : step s = idleStep s := by simp [step, h]

/-- The own event taken is one of those that are due; none is taken only where none is due. -/
theorem ownEvent_spec (s : State) :
    (ownEvent s = none ∧ dueEvents s = []) ∨ ∃ c, ownEvent s = some c ∧ c ∈ dueEvents s := by
  unfold ownEvent
  cases h : dueEvents s with
  | nil => exact .inl ⟨rfl, rfl⟩
  | cons e es =>
    refine .inr ⟨_, rfl, ?_⟩
    have inside : Config.ownChoice s.choices % (es.length + 1) < (e :: es).length :=
      Nat.mod_lt _ (Nat.succ_pos _)
    rw [List.getD_eq_getElem _ _ inside]
    exact List.getElem_mem inside

theorem idleStep_of_none_due {s : State} (h : ∀ c, ¬ DueNow s c) : idleStep s = .next (tick s) := by
  rcases ownEvent_spec s with ⟨none_taken, -⟩ | ⟨c, -, due⟩
  · simp [idleStep, none_taken]
  · exact absurd ((mem_dueEvents s c).mp due) (h c)

theorem not_due_off {s : State} (h : s.power = .off) (c : Instr) : ¬ DueNow s c := by
  intro due
  have := (mem_dueEvents s c).mpr due
  simp [dueEvents, h] at this

theorem not_due_startUp {s : State} {n : Nat} (h : s.power = .startUp n) (early : n < 10) (c : Instr) :
    ¬ DueNow s c := by
  intro due
  have := (mem_dueEvents s c).mpr due
  simp [dueEvents, h, dueIf, Nat.not_le.mpr early] at this

/-- Settles O2, by the events that are due: where none is, the step is a millisecond at the part's power phase; where one
is, the step takes one of them. -/
theorem emptyQueueLetsTimePass : Obligations.EmptyQueueLetsTimePass := by
  unfold Obligations.EmptyQueueLetsTimePass
  intro s empty
  rw [step_empty empty]
  refine ⟨fun off => ?_, fun n startUp early => ?_, fun ready none_due => ?_, fun ⟨c, due⟩ => ?_⟩
  · rw [idleStep_of_none_due (not_due_off off)]
    simp [tick, off]
  · rw [idleStep_of_none_due (not_due_startUp startUp early)]
    simp [tick, startUp]
  · exact ⟨tick s, idleStep_of_none_due none_due, tick_later s ready⟩
  · rcases ownEvent_spec s with ⟨-, none_due⟩ | ⟨e, taken, e_due⟩
    · have := (mem_dueEvents s c).mpr due
      simp [none_due] at this
    · exact ⟨e, (mem_dueEvents s e).mp e_due, by simp [idleStep, taken]⟩

/-! ### Every command answers -/

theorem onRequest_answers (act : State → State) (s : State) (hp : (act (acceptFrame s)).pending = s.pending)
    (hc : (act (acceptFrame s)).choices = s.choices) :
    ∃ t, onRequest act s = .next t ∧ t.pending = s.pending ∧ t.choices = s.choices := by
  cases h : s.power with
  | off => exact ⟨s, onRequest_off act s h, rfl, rfl⟩
  | startUp n => exact ⟨_, onRequest_startUp act s n h, rfl, rfl⟩
  | ready => exact ⟨_, onRequest_ready act s h, hp, hc⟩

theorem onEvent_answers (act : State → State) (s : State) (hp : (act s).pending = s.pending)
    (hc : (act s).choices = s.choices) :
    ∃ t, onEvent act s = .next t ∧ t.pending = s.pending ∧ t.choices = s.choices := by
  by_cases h : s.power = .ready
  · exact ⟨_, onEvent_ready act s h, hp, hc⟩
  · exact ⟨s, onEvent_unready act s h, rfl, rfl⟩

/-- Settles O3: a request and an event answer whatever the power, and no effect touches the queue of commands or the
count of free values. -/
theorem everyCommandAnswersNext : Obligations.EveryCommandAnswersNext := by
  unfold Obligations.EveryCommandAnswersNext
  intro c s
  cases c
  case powerOn => exact ⟨_, rfl, rfl, rfl⟩
  case powerLoss => exact ⟨_, rfl, rfl, rfl⟩
  case resetPinFall =>
    simp only [exec, execResetPinFall]
    split <;> exact ⟨_, rfl, rfl, rfl⟩
  case startUpEnd =>
    simp only [exec, execStartUpEnd]
    split <;> exact ⟨_, rfl, rfl, rfl⟩
  case startupTransaction b =>
    simp only [exec, execStartupTransaction]
    split <;> exact ⟨_, rfl, rfl, rfl⟩
  case shortTransaction b =>
    simp only [exec, execShortTransaction]
    split <;> exact ⟨_, rfl, rfl, rfl⟩
  all_goals first
    | exact onRequest_answers _ s (by simp) (by simp)
    | exact onEvent_answers _ s (by simp) (by simp)
    | exact onEvent_answers _ { s with lines := _ } (by simp) (by simp)

/-! ### Start-up and the loss of power -/

theorem exec_powerOn_eq (s : State) : exec .powerOn s = .next (beginStartUp s) := rfl

/-- A fall of the reset pin on a part that has power begins start-up as POWER_ON does (R171). -/
theorem exec_resetPinFall_eq {s : State} (h : s.power ≠ .off) : exec .resetPinFall s = .next (beginStartUp s) := by
  cases hp : s.power with
  | off => exact absurd hp h
  | startUp n | ready => simp [exec, execResetPinFall, hp]

theorem nvAfterCut_idle {s : State} (h : s.modes.store = .idle) : nvAfterCut s = s.nv := by simp [nvAfterCut, h]

theorem nvAfterCut_writing {s : State} {image : List Byte} {n : Nat} (h : s.modes.store = .writing image n) :
    nvAfterCut s = .torn := by simp [nvAfterCut, h]

/-- Settles O12: both commands run `beginStartUp`, whose configuration and table are those of the image where it is good
and the factory's where it is not. -/
theorem powerOnAndPinFallBeginStartUp : Obligations.PowerOnAndPinFallBeginStartUp := by
  unfold Obligations.PowerOnAndPinFallBeginStartUp
  intro c s hc
  have run : exec c s = .next (beginStartUp s) := by
    rcases hc with rfl | ⟨rfl, power⟩
    · exact exec_powerOn_eq s
    · exact exec_resetPinFall_eq power
  refine ⟨beginStartUp s, run, rfl, rfl, rfl, rfl, rfl, rfl, rfl, rfl, rfl, rfl, rfl, rfl, rfl, rfl, rfl,
    fun idle => nvAfterCut_idle idle, fun image n writing => ?_, fun bad => ?_, fun bytes good => ?_⟩
  · simp [beginStartUp, nvAfterCut_writing writing, goodImage, freshLatches]
  · have bad' : goodImage (nvAfterCut s) = none := bad
    simp [beginStartUp, startUpSettings, startUpTable, bad']
  · have good' : goodImage (nvAfterCut s) = some bytes := good
    simp [beginStartUp, startUpSettings, startUpTable, good']

/-- Settles O13: the end of start-up takes the lines, loads the timer and classifies; with no segment running the probe
point is the centre. -/
theorem startUpEndReadiesThePart : Obligations.StartUpEndReadiesThePart := by
  unfold Obligations.StartUpEndReadiesThePart
  intro n s startUp
  refine ⟨_, exec_startUpEnd_eq startUp, rfl, rfl, rfl, rfl, rfl, fun idle => ?_, rfl, rfl, rfl, rfl, rfl, rfl, rfl, rfl,
    rfl, rfl, rfl, rfl, fun mode => ?_⟩
  · obtain ⟨centre, probe, limit⟩ := classifySilently_centre
      { s with
        power := .ready
        pose := { s.pose with levels := s.lines.encoders }
        floor := freshFloor s.lines
        dock := freshDock s.lines.dockContact (dockSettle s.config)
        link := { s.link with silence := silenceLoad s.config } }
      (straightRunning_none _ fun c hc => by simp [idle] at hc)
    exact ⟨probe, limit⟩
  · have off : (endStartUp s).bridgeOn = false := by
      simp [endStartUp, State.bridgeOn, isRestMode, mode]
    refine ⟨?_, ?_, ?_⟩
    · simp [outputsOf, State.sensorPowerOn, State.isReady, refresh, endStartUp, mode]
    · simp [refresh, outputsOf, Pair.map, motorOut, off]
    · simp [refresh, outputsOf, Pair.map, motorOut, off]

/-- Settles O14: what a loss of power leaves is made of the lines, the memory, the queue and the count alone. -/
theorem powerLossLeavesTheMemory : Obligations.PowerLossLeavesTheMemory := by
  unfold Obligations.PowerLossLeavesTheMemory
  refine ⟨fun s => ⟨lostState s, exec_powerLoss_eq s, rfl, rfl, rfl, rfl, nvAfterCut_idle,
    fun image n => nvAfterCut_writing, rfl, rfl, rfl, rfl, rfl, rfl, rfl, rfl, rfl, rfl, rfl, rfl, rfl⟩,
    fun s s' t t' ht ht' pending choices lines nv => ?_⟩
  rw [exec_powerLoss_eq] at ht ht'
  cases ht
  cases ht'
  have nv' : nvAfterCut s = nvAfterCut s' := nv
  simp only [lostState, pending, choices, lines, nv']

/-! ### Transactions -/

/-- A command that has a frame is a request (R177). -/
theorem exec_request_startUp {c : Instr} {f : List Byte} {s : State} {n : Nat} (startUp : s.power = .startUp n)
    (hf : Frame.encode c = some f) : exec c s = .next (discardInStartUp 20 s) := by
  cases c <;> first
    | exact onRequest_startUp _ s n startUp
    | cases hf

/-- Settles O15, by the power phase: start-up shifts out the STARTING frame, whose 20 bytes a request takes whole. -/
theorem discardedTransactionsChangeNothing : Obligations.DiscardedTransactionsChangeNothing := by
  unfold Obligations.DiscardedTransactionsChangeNothing
  refine ⟨fun n b s startUp => ?_, fun n c f s startUp hf => ?_, fun b s ready _ => ?_⟩
  · simp [exec, execStartupTransaction, startUp, discardInStartUp]
  · exact exec_request_startUp startUp hf
  · simp [exec, execShortTransaction, ready, shiftOut]

/-- Settles O16: both are accepted, and the second answers besides. -/
theorem nopAndUnknownRequestsAreAccepted : Obligations.NopAndUnknownRequestsAreAccepted := by
  unfold Obligations.NopAndUnknownRequestsAreAccepted
  exact fun s ready => ⟨onRequest_ready id s ready, fun code _ => onRequest_answered ready rfl⟩

end Sys2Proof.Machine
end

section
/-! The state after reset (log 1): it meets every invariant, and start-up with a memory never written leaves it. -/

namespace Sys2Proof.Machine

/-! ### A fresh part -/

theorem factorySettings_ok : ConfigOk factorySettings where
  items := by decide
  link_timeout := by decide

theorem freshTable_ok : TableOk freshTable where
  records := by
    intro x hx r hr
    have free : x = freshSlot := by
      simpa [freshTable] using hx
    simp [free, freshSlot] at hr
  pinned_le := by simp [pinnedCount, freshTable, freshSlot]

/-- No live record stands in a fresh table, and so no point lies in one (R20, R23). -/
theorem scan_freshTable (x y : Int) : scan freshTable x y = none :=
  (scan_eq_none_iff _ x y).mpr fun l b live => by
    have := record_of_isLive live
    simp at this

/-- An item of a configuration in its ranges, by its row of the table (R175). -/
theorem ConfigOk.item_range {cfg : Settings} (h : ConfigOk cfg) {n : Nat} (inside : n < 47) {row : ItemRow}
    (hrow : itemRows.getD n ⟨0, 0, 0⟩ = row) : row.lo ≤ item cfg (n + 1) ∧ item cfg (n + 1) ≤ row.hi :=
  hrow ▸ h.items n inside

theorem ConfigOk.spinTicks_pos {cfg : Settings} (h : ConfigOk cfg) : 0 < spinTicks cfg := by
  have range : 1000 ≤ item cfg 9 ∧ item cfg 9 ≤ 65535 := h.item_range (row := ⟨1000, 65535, 7226⟩) (by decide) rfl
  simp only [spinTicks, itemNat]
  omega

theorem freshPose_ranges (levels : Pair Levels) (cfg : Settings) (h : ConfigOk cfg) :
    PoseRanges cfg (freshPose levels) where
  x_range := by simp [freshPose]
  y_range := by simp [freshPose]
  heading_range := by simp [freshPose]
  remainder_range := h.spinTicks_pos
  fix_range := by simp [freshPose]
  distance_range := by simp [freshPose]
  u_range := by simp [freshPose]

theorem freshDrive_levels {s : State} (h : s.drive = freshDrive) : LevelsFollow s := by
  constructor <;> simp [h, freshDrive, freshWheel]

theorem freshDrive_driveOk {s : State} (hd : s.drive = freshDrive) (hm : s.modes.mode = .config) : DriveOk s where
  left_le := by simp [hd, freshDrive, freshWheel]
  right_le := by simp [hd, freshDrive, freshWheel]
  held := by simp [State.atRest, hd, freshDrive, freshWheel]
  start_up := fun _ _ => hm

theorem freshDrive_targetsZero : TargetsZero freshDrive := ⟨rfl, rfl⟩

theorem freshDrive_targetsOk {s : State} (hd : s.drive = freshDrive) : TargetsOk s where
  left_le := by simp [hd, freshDrive, freshWheel]
  right_le := by simp [hd, freshDrive, freshWheel]
  held := fun _ => hd ▸ freshDrive_targetsZero
  stopped := fun _ => hd ▸ freshDrive_targetsZero

theorem reset_outputs : State.reset.outputs = outputsOf State.reset := by decide

/-- The whole of start-up on a part that is idle, with a memory never written and every line released (log 1). -/
theorem startUp_leaves_reset {s : State} (pending : s.pending = []) (choices : s.choices = 0)
    (nv : s.nv = .unwritten) (idle : s.modes.store = .idle) (lines : s.lines = releasedLines) :
    refresh (endStartUp (beginStartUp s)) = State.reset := by
  have cut : nvAfterCut s = .unwritten := by rw [nvAfterCut_idle idle, nv]
  have zones : ∀ t : State, t.table = freshTable → t.segments = freshSegments → classification t = freshZones := by
    intro t table segments
    simp [classification, State.probePoint, State.straightRunning, segments, freshSegments, table, classAt, limitAt,
      scan_freshTable, minLimit, freshZones]
  have started : endStartUp (beginStartUp s) = { State.reset with outputs := restOutputs } := by
    simp only [endStartUp, classifySilently]
    rw [zones _ (by simp [beginStartUp, cut, startUpTable, goodImage]) rfl]
    simp only [beginStartUp, cut, pending, choices, lines]
    rfl
  rw [started]
  rfl

/-- Settles O11: each invariant holds of the fresh blocks of reset, and the start-up of log 1 leaves them. -/
theorem resetIsSoundAndReached : Obligations.ResetIsSoundAndReached := by
  unfold Obligations.ResetIsSoundAndReached
  refine ⟨⟨queuesOk_of_fresh _ rfl, Nat.zero_le _, ⟨factorySettings_ok, freshPose_ranges _ _ factorySettings_ok⟩,
    freshTable_ok, freshDrive_driveOk rfl rfl, freshDrive_targetsOk rfl,
    outputsOk_of_eq reset_outputs (freshDrive_levels rfl)⟩, fun s pending choices nv idle lines => ?_⟩
  refine ⟨_, exec_powerOn_eq s, ?_⟩
  rw [exec_startUpEnd_eq (n := 0) rfl, startUp_leaves_reset pending choices nv idle lines]

end Sys2Proof.Machine
end

section
/-! Settling (log 6): it ends with nothing due, and leaves the mode and the latched causes but where it leaves STOPPING or
PARKING. -/

namespace Sys2Proof.Machine

/-! ### The fuel of settling -/

/-- What settling has still to do at most: two steps for each segment in the queue, a start and a record, and one where the
head has not started. -/
def settlingLeft (s : State) : Nat := 2 * s.segments.queue.length + if s.segments.running.isNone then 1 else 0

/-- A segment of a sound queue that is due a record stands at the head of the queue. -/
theorem queue_of_canWrite {s : State} (hs : SegmentsOk s.segments) (h : s.canWrite = true) :
    ∃ c rest, s.segments.running = some c ∧ s.segments.queue = c.segment :: rest := by
  obtain ⟨c, hc⟩ := running_of_canWrite s h
  obtain ⟨rest, hq⟩ := hs.queue_of_running hc
  exact ⟨c, rest, hc, hq⟩

theorem settleOnce_write {s : State} (h : s.canWrite = true) : settleOnce s = leaveStopping (writeRecord s) := by
  simp [settleOnce, h]

theorem settleOnce_start {s : State} (hw : s.canWrite = false) (h : s.canStart = true) :
    settleOnce s = startSegment s := by
  simp [settleOnce, hw, h]

/-- Each step of settling that has something to do leaves less of it. -/
theorem settleOnce_left {s : State} (hs : SegmentsOk s.segments) (due : (s.canWrite || s.canStart) = true) :
    settlingLeft (settleOnce s) < settlingLeft s := by
  by_cases hw : s.canWrite = true
  · obtain ⟨c, rest, hc, hq⟩ := queue_of_canWrite hs hw
    simp [settleOnce_write hw, settlingLeft, writeRecord_running s hw, writeRecord_queue s hw, hc, hq]
    omega
  · rw [Bool.not_eq_true] at hw
    have start : s.canStart = true := by simpa [hw] using due
    obtain ⟨hq, idle, -⟩ := (canStart_iff s).mp start
    obtain ⟨g, rest, hq⟩ := List.exists_cons_of_ne_nil hq
    have started : (startSegment s).segments.running.isNone = false := by
      have := startSegment_segment s g rest hq
      cases hr : (startSegment s).segments.running <;> simp [hr] at this ⊢
    simp [settleOnce_start hw start, settlingLeft, started, idle]

theorem settleLoop_done {n : Nat} {s : State} (hs : SegmentsOk s.segments) (enough : settlingLeft s ≤ n) :
    (settleLoop n s).canWrite = false ∧ (settleLoop n s).canStart = false := by
  induction n generalizing s with
  | zero =>
    have hq : s.segments.queue = [] := by
      have : 2 * s.segments.queue.length ≤ 0 := le_trans (Nat.le_add_right _ _) enough
      exact List.eq_nil_of_length_eq_zero (by omega)
    have idle : s.segments.running = none := by
      cases hr : s.segments.running with
      | none => rfl
      | some c =>
        obtain ⟨rest, hq'⟩ := hs.queue_of_running hr
        simp [hq] at hq'
    exact ⟨canWrite_of_no_running s idle, canStart_of_no_queue s hq⟩
  | succ n ih =>
    simp only [settleLoop]
    split
    case isTrue due => exact ih (settleOnce_ok s hs) (by have := settleOnce_left hs due; omega)
    case isFalse none_due => simpa using none_due

theorem idle_of_drained {s : State} (hs : SegmentsOk s.segments) (h : s.drained = true) :
    s.segments.queue = [] ∧ s.segments.running = none := by
  have hq : s.segments.queue = [] := by
    simp only [State.drained, Bool.and_eq_true, List.isEmpty_iff] at h
    exact h.1.1
  refine ⟨hq, ?_⟩
  cases hr : s.segments.running with
  | none => rfl
  | some c =>
    obtain ⟨rest, hq'⟩ := hs.queue_of_running hr
    simp [hq] at hq'

/-- The end of PARKING leaves nothing due where nothing else was. -/
theorem parkIfDrained_settled {s : State} (hs : SegmentsOk s.segments) (hw : s.canWrite = false)
    (hst : s.canStart = false) : Settled (parkIfDrained s) := by
  by_cases park : s.modes.mode = .parking ∧ s.drained = true
  · obtain ⟨hq, idle⟩ := idle_of_drained hs park.2
    refine settled_of_idle _ ⟨by simpa using idle, by simpa using hq, ?_⟩
    simp [parkIfDrained, park, latchModeReached, enterMode_mode]
  · rw [parkIfDrained_of_not s park]
    exact ⟨hw, hst, park⟩

theorem settle_settled {s : State} (hs : SegmentsOk s.segments) : Settled (settle s) := by
  have enough : settlingLeft s ≤ 2 * s.segments.queue.length + 2 := by
    unfold settlingLeft
    split <;> omega
  obtain ⟨hw, hst⟩ := settleLoop_done hs enough
  exact parkIfDrained_settled (settleLoop_ok _ s hs) hw hst

/-- Settles O10: a sound queue gives settling fuel enough to end with no record and no start due, and the end of PARKING
comes last. -/
theorem settlingLeavesNothingDue : Obligations.SettlingLeavesNothingDue := by
  unfold Obligations.SettlingLeavesNothingDue
  exact fun s hs => settle_settled hs

/-! ### The mode and the latched causes through settling -/

theorem settleOnce_modes {s : State} (h : s.modes.mode ≠ .stopping) :
    (settleOnce s).modes = s.modes ∧ (settleOnce s).latches = s.latches := by
  unfold settleOnce
  split
  · rw [leaveStopping_stays _ (.inl (by simpa using h))]
    simp
  · split <;> simp

theorem settleLoop_modes (n : Nat) {s : State} (h : s.modes.mode ≠ .stopping) :
    (settleLoop n s).modes = s.modes ∧ (settleLoop n s).latches = s.latches := by
  induction n generalizing s with
  | zero => exact ⟨rfl, rfl⟩
  | succ n ih =>
    simp only [settleLoop]
    split
    · obtain ⟨modes, latches⟩ := settleOnce_modes h
      obtain ⟨modes', latches'⟩ := ih (s := settleOnce s) (by rw [modes]; exact h)
      exact ⟨modes'.trans modes, latches'.trans latches⟩
    · exact ⟨rfl, rfl⟩

/-- Outside STOPPING and PARKING settling makes no transition and latches nothing (R165, R167 to R169). -/
theorem settle_modes {s : State} (h1 : s.modes.mode ≠ .stopping) (h2 : s.modes.mode ≠ .parking) :
    (settle s).modes = s.modes ∧ (settle s).latches = s.latches := by
  obtain ⟨modes, latches⟩ := settleLoop_modes (2 * s.segments.queue.length + 2) h1
  unfold settle
  rw [parkIfDrained_of_not _ (by rw [modes]; exact fun h => h2 h.1)]
  exact ⟨modes, latches⟩

end Sys2Proof.Machine
end

section
/-! The requests of the link and of the Mode Controller that start no segment: STATUS (R182), NOTICE_READ (R180), the
refusals and the entries of the mode requests (R166), WAKE (R169), RESTART (R174), the store (R173) and the configuration
items (R175). -/

namespace Sys2Proof.Machine

/-! ### STATUS -/

/-- The latched causes stand in their bits of the status body (R179). -/
theorem latchesByte_bits (l : Latches) :
    l.toByte.getLsbD 0 = l.modeReached ∧ l.toByte.getLsbD 1 = l.halt ∧ l.toByte.getLsbD 2 = l.storeDone ∧
      l.toByte.getLsbD 3 = (l.storeDone && l.storeFailed) ∧ l.toByte.getLsbD 4 = l.noticeOverflow ∧
      l.toByte.getLsbD 5 = l.storeBad ∧ l.toByte.getLsbD 6 = false ∧ l.toByte.getLsbD 7 = false := by
  obtain ⟨a, b, c, d, e, f⟩ := l
  revert a b c d e f
  decide

theorem cliffStateByte_le (x : CliffState) : x.byte.toNat ≤ 2 := by cases x <;> decide

/-- The four cliff states stand two bits each in their byte of the status body (R179). -/
theorem cliffByte_toNat (q : Quad Cliff) :
    (cliffByte q).toNat = q.fl.state.byte.toNat * 64 + q.fc.state.byte.toNat * 16 + q.fr.state.byte.toNat * 4 +
      q.rc.state.byte.toNat := by
  have h1 := cliffStateByte_le q.fl.state
  have h2 := cliffStateByte_le q.fc.state
  have h3 := cliffStateByte_le q.fr.state
  have h4 := cliffStateByte_le q.rc.state
  have weights : (64 : Byte).toNat = 64 ∧ (16 : Byte).toNat = 16 ∧ (4 : Byte).toNat = 4 := by decide
  simp only [cliffByte, BitVec.toNat_add, BitVec.toNat_mul, weights]
  omega

/-- A bumper, a lift switch and docked stand in their bits of the status body (R139, R179). -/
theorem switchByte_bits (a b c d e : Bool) (x : Byte)
    (hx : x = flagByte a + 2 * flagByte b + 4 * flagByte c + 8 * flagByte d + 16 * flagByte e) :
    x.getLsbD 0 = a ∧ x.getLsbD 1 = b ∧ x.getLsbD 2 = c ∧ x.getLsbD 3 = d ∧ x.getLsbD 4 = e ∧
      x.getLsbD 5 = false ∧ x.getLsbD 6 = false ∧ x.getLsbD 7 = false := by
  subst hx
  revert a b c d e
  decide

/-- The response of STATUS, byte by byte (R179). -/
theorem statusEffect_response (s : State) :
    (statusEffect (acceptFrame s)).link.response =
      [0x01, 0x00, s.modes.mode.byte, s.modes.haltReason.byte, s.latches.toByte, toByte s.segments.queue.length,
        toByte s.segments.completions.length, toByte s.link.notices.length,
        (match s.segments.running with
          | some c => toByte c.segment.tag
          | none => 0xFF),
        cliffByte s.floor.cliffs, switchByte s,
        (match s.modes.store with
          | .idle => 0
          | .writing .. => 1), toByte s.pose.u] ++
        halfBytes s.link.timeBase ++ [0, 0, 0, 0, 0] := by
  have tag : (match s.segments.running with
      | some c => toByte c.segment.tag
      | none => 0xFF) = optByte (fun c : Context => toByte c.segment.tag) s.segments.running := by
    cases s.segments.running <;> rfl
  have store : (match s.modes.store with
      | .idle => (0 : Byte)
      | .writing .. => 1) = s.modes.store.byte := by
    cases s.modes.store <;> rfl
  rw [tag, store]
  rfl

/-- The cliff states of the status body, in any numbering that is the table's (R179). -/
theorem cliffByte_by_code (q : Quad Cliff) (code : CliffState → Nat) (clear : code .clear = 0)
    (suspect : code .suspect = 1) (tripped : code .tripped = 2) :
    (cliffByte q).toNat = code q.fl.state * 64 + code q.fc.state * 16 + code q.fr.state * 4 + code q.rc.state := by
  have by_code : ∀ x : CliffState, code x = x.byte.toNat := by
    intro x
    cases x with
    | clear => exact clear
    | suspect => exact suspect
    | tripped => exact tripped
  simp only [by_code]
  exact cliffByte_toNat q

/-- Settles O17, by the layout of the status body: three of its bytes are read bit by bit. -/
theorem statusReportsThenClearsTheLatches : Obligations.StatusReportsThenClearsTheLatches := by
  unfold Obligations.StatusReportsThenClearsTheLatches
  intro s ready
  exact ⟨s.latches.toByte, cliffByte s.floor.cliffs, switchByte s, _, exec_ready rfl ready, statusEffect_response s,
    latchesByte_bits _, cliffByte_by_code _, switchByte_bits _ _ _ _ _ _ rfl, rfl⟩

/-! ### Notices -/

theorem noticeReadEffect_oldest {s : State} {n : Notice} {rest : List Notice} (h : s.link.notices = n :: rest) :
    noticeReadEffect s = { s with link := { s.link with
      response := frame 0x17 .ok (noticeBody n rest.length)
      notices := rest
      noticeTimer := if rest.isEmpty then .stopped else s.link.noticeTimer } } := by
  simp [noticeReadEffect, h, respond]

theorem noticeReadEffect_empty {s : State} (h : s.link.notices = []) :
    noticeReadEffect s = respond 0x17 .empty [0] s := by
  simp [noticeReadEffect, h]

/-- The body of a notice, field by field (R179). -/
theorem noticeBody_by_field (n : Notice) (left : Nat) :
    noticeBody n left =
      [n.kind.byte] ++
        (match n.ref with
          | none => [255, 0]
          | some ref => [toByte ref.slot, ref.generation]) ++
        [match n.recordKind with
          | none => 0xFF
          | some kind => kind.byte,
          match n.cause with
          | none => 0xFF
          | some cause => cause.byte] ++
        int16 n.x ++ int16 n.y ++
        [match n.zone with
          | none => 0xFF
          | some zone => zone.byte] ++ halfBytes n.time ++ [toByte left] := by
  obtain ⟨kind, ref, recordKind, cause, x, y, zone, time⟩ := n
  cases ref <;> cases recordKind <;> cases cause <;> cases zone <;> rfl

theorem noticeTimerEffect_running {s : State} {k : Nat} (h : s.link.noticeTimer = .running k) :
    noticeTimerEffect s = { s with link := { s.link with noticeTimer := .expired } } := by
  simp [noticeTimerEffect, h]

/-- Settles O18: the oldest notice leaves, or there is none; and an expired notice timer is a cause of the attention
line. -/
theorem noticesAreReadInOrder : Obligations.NoticesAreReadInOrder := by
  unfold Obligations.NoticesAreReadInOrder
  refine ⟨fun s n rest ready held => ?_, fun s ready empty => ?_, fun s k ready running => ?_⟩
  · have held' : (acceptFrame s).link.notices = n :: rest := held
    have read := exec_effect (c := .noticeRead) rfl ready (noticeReadEffect_oldest held')
    rw [noticeBody_by_field] at read
    exact read
  · exact onRequest_answered ready (noticeReadEffect_empty empty)
  · refine ⟨_, exec_effect rfl ready (noticeTimerEffect_running running), ?_, rfl⟩
    simp [refresh, outputsOf, State.attentionOn, State.isReady, ready]

/-! ### Mode requests -/

theorem acceptFrame_lifted (s : State) : (acceptFrame s).lifted = s.lifted := rfl

theorem acceptFrame_atRest (s : State) : (acceptFrame s).atRest = s.atRest := rfl

/-- A response on an accepted frame is the link block of `answerLink` (R176, R178). -/
theorem respond_acceptFrame (code : Byte) (result : ResultCode) (body : List Byte) (s : State) :
    respond code result body (acceptFrame s) = { s with link := answerLink code result body s } := rfl

/-- Settles O21: each refusal is a response and nothing else. -/
theorem modeRequestsAreRefusedByTheTable : Obligations.ModeRequestsAreRefusedByTheTable := by
  unfold Obligations.ModeRequestsAreRefusedByTheTable
  intro s ready
  refine ⟨fun h => ?_, fun h => ?_, fun h => ?_, fun h => ?_, fun h => ?_, fun lifted =>
    ⟨fun h => ?_, fun h => ?_, fun h => ?_⟩⟩
  · exact onRequest_answered ready (by simp [modeActiveEffect, h, refuseMode])
  · exact onRequest_answered ready (by simp [modeConfigEffect, h, refuseMode])
  · exact onRequest_answered ready (by simp [parkEffect, h, refuseMode])
  · exact onRequest_answered ready (by simp [wakeEffect, h, refuseMode])
  · exact onRequest_answered ready (by simp [resumeEffect, h, refuseMode])
  · exact onRequest_answered ready (by simp [modeActiveEffect, h, acceptFrame_lifted, lifted, refuseCondition])
  · exact onRequest_answered ready (by simp [wakeEffect, h, acceptFrame_lifted, lifted, refuseCondition])
  · exact onRequest_answered ready (by simp [resumeEffect, h, acceptFrame_lifted, lifted, refuseCondition])

/-- Entry into ACTIVE of an idle part, with its answer (R166). -/
theorem settle_answer_active {code : Byte} {s : State} (hq : s.segments.queue = []) (idle : s.segments.running = none) :
    settle (answerMode code (enterMode .active (acceptFrame s))) = { s with
      modes := { s.modes with mode := .active, wakeTimer := none }
      link := answerLink code .ok [1] s } := by
  rw [enterMode_moving .active _ rfl]
  refine (settle_of_idle _ ⟨?_, ?_, ?_⟩).trans rfl
  · exact idle
  · exact hq
  · simp

/-- Settles O22: both requests enter ACTIVE, where an idle part has nothing due. -/
theorem modeActiveAndResumeEnterActive : Obligations.ModeActiveAndResumeEnterActive := by
  unfold Obligations.ModeActiveAndResumeEnterActive
  intro s ready lifted hq idle
  refine ⟨fun mode => ?_, fun mode => ?_⟩
  · rw [← settle_answer_active (code := 0x04) hq idle]
    exact exec_effect rfl ready (by simp [modeActiveEffect, mode, acceptFrame_lifted, lifted])
  · rw [← settle_answer_active (code := 0x08) hq idle]
    exact exec_effect rfl ready (by simp [resumeEffect, mode, acceptFrame_lifted, lifted])

/-- The part as WAKE leaves it (R169). -/
theorem wakeEffect_parked {s : State} (mode : s.modes.mode = .parked) (lifted : s.lifted = false) :
    wakeEffect (acceptFrame s) = { s with
      modes := { s.modes with mode := .waking, wakeTimer := some 0 }
      link := answerLink 0x07 .ok [6] s } := by
  simp only [wakeEffect, acceptFrame_modes, acceptFrame_lifted, mode, lifted]
  rfl

/-- The part at the end of its wake timer, before settling (R169). -/
def awake (s : State) : State :=
  { s with
    modes := { s.modes with mode := .active, wakeTimer := none }
    latches := { s.latches with modeReached := true } }

theorem wakeTimerEffect_waking {s : State} {n : Nat} (mode : s.modes.mode = .waking)
    (timer : s.modes.wakeTimer = some n) : wakeTimerEffect s = settle (awake s) := by
  have active : latchModeReached (enterMode .active s) = awake s := by
    rw [enterMode_moving .active s rfl]
    rfl
  simp [wakeTimerEffect, mode, timer, active]

/-- Settles O25: WAKE enters WAKING, and the end of its timer enters ACTIVE and settles, which makes no transition
there. -/
theorem wakeLeadsToActive : Obligations.WakeLeadsToActive := by
  unfold Obligations.WakeLeadsToActive
  intro s ready
  refine ⟨fun mode lifted => ?_, fun n mode timer => ?_⟩
  · refine ⟨_, exec_effect rfl ready (wakeEffect_parked mode lifted), ?_, rfl⟩
    simp [refresh, outputsOf, State.sensorPowerOn, State.isReady, ready]
  · obtain ⟨modes, latches⟩ := settle_modes (s := awake s) (by simp [awake]) (by simp [awake])
    refine ⟨_, exec_effect rfl ready (wakeTimerEffect_waking mode timer), ⟨by simp [awake], by simp [awake],
      by simp [awake], by simp [awake], by simp [awake]⟩, ⟨by simp [awake], by simp [awake], by simp [awake],
      by simp [awake]⟩, modes, latches, fun hq idle => ?_⟩
    rw [settle_of_idle (awake s) ⟨idle, hq, by simp [awake]⟩]
    rfl

/-! ### RESTART -/

theorem restartDrive_released (cfg : Settings) (d : Drive) : WheelsReleased cfg d (restartDrive cfg d) :=
  released_of_wheels rfl rfl

/-- Settles O26: a store that is writing refuses the request, and otherwise the state is cleared item by item and classified
without a segment. -/
theorem restartKeepsAndClears : Obligations.RestartKeepsAndClears := by
  unfold Obligations.RestartKeepsAndClears
  intro s ready
  refine ⟨fun storing => ?_, fun idle => ?_⟩
  · exact onRequest_answered ready (by simp [restartEffect, State.storing, storing])
  · have effect : restartEffect (acceptFrame s) = respond 0x09 .ok [] (restartState (acceptFrame s)) := by
      simp [restartEffect, State.storing, idle]
    obtain ⟨centre, probe, limit⟩ : CentreClassified (restartState (acceptFrame s)) :=
      classifySilently_centre _ (straightRunning_none _ fun c hc => by simp [freshSegments] at hc)
    refine ⟨_, exec_effect rfl ready effect, restartDrive_released _ _, rfl, rfl, rfl, rfl, rfl, rfl, centre,
      probe, limit, ?_⟩
    rw [← idle]
    rfl

/-! ### The settings store -/

/-- Settles O27, by the mode, the store state and the bytes that the read-back finds. -/
theorem storeWritesItsSnapshot : Obligations.StoreWritesItsSnapshot := by
  unfold Obligations.StoreWritesItsSnapshot
  intro s ready
  refine ⟨fun config parked => ?_, fun mode => ⟨fun storing => ?_, fun idle => ?_⟩, fun readBack image n writing => ?_,
    fun readBack idle => ?_⟩
  · exact onRequest_answered ready (by simp [storeEffect, config, parked])
  · exact onRequest_answered ready (by rcases mode with mode | mode <;> simp [storeEffect, mode, State.storing, storing])
  · have accepted : storeEffect (acceptFrame s) = { s with
        modes := { s.modes with store := .writing (imageOf s.config s.table) 0 }
        link := answerLink 0x0A .ok [] s } := by
      rcases mode with mode | mode <;> simp [storeEffect, mode, State.storing, idle] <;> rfl
    exact exec_effect rfl ready accepted
  · rw [exec_ready rfl ready]
    cases readBack <;> simp [storeEndEffect, writing]
  · rw [exec_ready rfl ready]
    simp [storeEndEffect, idle]

end Sys2Proof.Machine
end

section
/-! The configuration items (R175): what a request takes for each, and what a write of one leaves. -/

namespace Sys2Proof.Machine

theorem isItem_iff (n : Nat) : isItem n = true ↔ 1 ≤ n ∧ n ≤ 47 := by simp [isItem]

/-- The row of an item, and that its range is no empty one (R175). -/
theorem itemRow_of_inside {n : Nat} (inside : n < 47) :
    ∃ row, itemRows[n]? = some row ∧ itemRows.getD n ⟨0, 0, 0⟩ = row ∧ row.lo ≤ row.hi := by
  have len : itemRows.length = 47 := by decide
  have ordered : ∀ k, k < 47 → (itemRows.getD k ⟨0, 0, 0⟩).lo ≤ (itemRows.getD k ⟨0, 0, 0⟩).hi := by decide
  have there : itemRows[n]? = some (itemRows.getD n ⟨0, 0, 0⟩) := by
    rw [List.getD_eq_getElem _ _ (by omega), List.getElem?_eq_getElem (by omega)]
  exact ⟨_, there, rfl, ordered n inside⟩

/-- The value that a request takes: the nearest of the range, with the two exceptions (R175). -/
theorem takeValue_eq {cfg : Settings} {n : Nat} {row : ItemRow} (hrow : itemRows.getD (n - 1) ⟨0, 0, 0⟩ = row)
    (ordered : row.lo ≤ row.hi) {sent : Int} (unsigned : n = 20 ∨ n = 44 → 0 ≤ sent) :
    takeValue cfg n sent =
      (if n = 44 then (if sent = 0 then 0 else max 50 (min 2000 sent))
        else if n = 20 then min (min sent 254) (item cfg 19 - 1)
        else max row.lo (min row.hi sent)) := by
  simp only [takeValue, hrow, clampTo_eq _ _ _ ordered]
  by_cases h44 : n = 44
  · have range : row = ⟨0, 2000, 500⟩ := by subst h44; exact hrow.symm
    have := unsigned (.inr h44)
    simp only [h44, if_true, range]
    split_ifs <;> omega
  · by_cases h20 : n = 20
    · have range : row = ⟨0, 254, 12⟩ := by subst h20; exact hrow.symm
      have := unsigned (.inl h20)
      simp only [h20, if_true, range, if_neg (show ¬ (20 : Nat) = 44 by decide)]
      split_ifs <;> omega
    · simp [h44, h20]

theorem readValue_eq (n : Nat) (h : Half) :
    readValue n h = if 23 ≤ n ∧ n ≤ 30 then h.toInt else (h.toNat : Int) := by
  by_cases signed : 23 ≤ n ∧ n ≤ 30 <;> simp [readValue, isSignedItem, signed]

theorem readValue_unsigned {n : Nat} (h : Half) (unsigned : n < 23 ∨ 30 < n) : 0 ≤ readValue n h := by
  rw [readValue_eq, if_neg (by omega)]
  exact Int.natCast_nonneg _

/-- A value taken lies in the range of its item (R175). -/
theorem takeValue_range {cfg : Settings} (ok : 1 ≤ item cfg 19) {n : Nat} {row : ItemRow}
    (hrow : itemRows.getD (n - 1) ⟨0, 0, 0⟩ = row) (ordered : row.lo ≤ row.hi) (h : Half) :
    row.lo ≤ takeValue cfg n (readValue n h) ∧ takeValue cfg n (readValue n h) ≤ row.hi := by
  have unsigned : n = 20 ∨ n = 44 → 0 ≤ readValue n h := fun hn => readValue_unsigned h (by omega)
  rw [takeValue_eq hrow ordered unsigned]
  by_cases h44 : n = 44
  · have range : row = ⟨0, 2000, 500⟩ := by subst h44; exact hrow.symm
    simp only [h44, if_true, range]
    split_ifs <;> omega
  · by_cases h20 : n = 20
    · have range : row = ⟨0, 254, 12⟩ := by subst h20; exact hrow.symm
      have := unsigned (.inl h20)
      simp only [h20, if_true, range] at this ⊢
      omega
    · simp only [h44, h20, if_false]
      omega

/-! ### Writing an item -/

theorem writeItem_eq (n : Nat) (v : Int) (s : State) :
    writeItem n v s = { s with
      config := (writeItem n v s).config
      pose := if n = 9 ∧ v ≠ item s.config 9 then { s.pose with remainder := 0 } else s.pose
      ageing := if n = 35 ∧ v ≠ item s.config 35 then { s.ageing with timer := 0 } else s.ageing } := by
  unfold writeItem
  by_cases held : item s.config n = v
  · have h9 : ¬ (n = 9 ∧ v ≠ item s.config 9) := by rintro ⟨rfl, hv⟩; exact hv held.symm
    have h35 : ¬ (n = 35 ∧ v ≠ item s.config 35) := by rintro ⟨rfl, hv⟩; exact hv held.symm
    simp [held, h9, h35]
  · have h9 : (n = 9 ∧ v ≠ item s.config 9) ↔ n = 9 := ⟨And.left, by rintro rfl; exact ⟨rfl, Ne.symm held⟩⟩
    have h35 : (n = 35 ∧ v ≠ item s.config 35) ↔ n = 35 := ⟨And.left, by rintro rfl; exact ⟨rfl, Ne.symm held⟩⟩
    simp [held, h9, h35]

/-- The items after a write: the one written takes its value, the others stay (R175). -/
theorem item_writeItem {n m : Nat} (v : Int) (s : State) (h1 : 1 ≤ n) (h2 : n ≤ 47) (h3 : 1 ≤ m) (h4 : m ≤ 47) :
    item (writeItem n v s).config m = if m = n then v else item s.config m := by
  unfold writeItem
  split
  case isTrue held =>
    split
    · subst m; exact held
    · rfl
  case isFalse => exact item_setItem s.config n m v h1 h2 h3 h4

theorem configSetEffect_taken {it : Byte} {value : Half} {s : State} (mode : s.modes.mode = .config)
    (inside : isItem it.toNat = true) :
    configSetEffect it value s =
      respond 0x02 .ok ([it] ++ int16 (takeValue s.config it.toNat (readValue it.toNat value)))
        (writeItem it.toNat (takeValue s.config it.toNat (readValue it.toNat value)) s) := by
  simp [configSetEffect, mode, inside]

theorem byte_eq_iff (a : Byte) (n : Nat) (h : n < 256) : a = BitVec.ofNat 8 n ↔ a.toNat = n := by
  rw [← BitVec.toNat_inj, BitVec.toNat_ofNat, Nat.mod_eq_of_lt h]

/-- Settles O20: the value taken is the nearest of the range, and a write of it leaves the other items. -/
theorem configItemsAreSetAndRead : Obligations.ConfigItemsAreSetAndRead := by
  unfold Obligations.ConfigItemsAreSetAndRead
  intro it value s ready
  refine ⟨?_, fun mode => ?_, fun mode outside => ?_, fun mode h1 h2 ok => ?_⟩
  · by_cases inside : 1 ≤ it.toNat ∧ it.toNat ≤ 47
    · rw [if_pos inside]
      exact onRequest_answered ready (by simp [configGetEffect, (isItem_iff _).mpr inside])
    · rw [if_neg inside]
      exact onRequest_answered ready (by simp [configGetEffect, Bool.eq_false_iff.mpr (mt (isItem_iff _).mp inside)])
  · exact onRequest_answered ready (by simp [configSetEffect, mode])
  · have not_item : isItem it.toNat = false := Bool.eq_false_iff.mpr (mt (isItem_iff _).mp (by omega))
    exact onRequest_answered ready (by simp [configSetEffect, mode, not_item])
  · obtain ⟨row, hrow, hrow', ordered⟩ := itemRow_of_inside (n := it.toNat - 1) (by omega)
    have floor : 1 ≤ item s.config 19 := (ok.item_range (n := 18) (by decide) rfl).1
    have taken := takeValue_eq (cfg := s.config) (n := it.toNat) hrow' ordered (sent := readValue it.toNat value)
      (fun h => readValue_unsigned value (by omega))
    have range := takeValue_range (n := it.toNat) floor hrow' ordered value
    have b44 : it = 44 ↔ it.toNat = 44 := byte_eq_iff it 44 (by decide)
    have b20 : it = 20 ↔ it.toNat = 20 := byte_eq_iff it 20 (by decide)
    have b9 : it = 9 ↔ it.toNat = 9 := byte_eq_iff it 9 (by decide)
    have b35 : it = 35 ↔ it.toNat = 35 := byte_eq_iff it 35 (by decide)
    have written := writeItem_eq it.toNat (takeValue s.config it.toNat (readValue it.toNat value)) (acceptFrame s)
    simp only [b44, b20, b9, b35]
    refine ⟨takeValue s.config it.toNat (readValue it.toNat value), readValue it.toNat value, row, _,
      exec_effect rfl ready (configSetEffect_taken mode ((isItem_iff _).mpr ⟨h1, h2⟩)), hrow, readValue_eq _ _, taken,
      range.1, range.2, fun n hn1 hn2 => item_writeItem _ _ h1 h2 hn1 hn2, ?_⟩
    simp only [acceptFrame_config]
    rw [written]
    rfl

end Sys2Proof.Machine
end

section
/-! The bounds of the queues (R73, R75, R84, R85, R100) through every command. -/

namespace Sys2Proof.Machine

/-! ### What the requests with many cases come to -/

/-- A put on its slot answers PIN_FULL, or makes the table change with its answer (R9, R11). -/
theorem putAt_cases (k : Nat) (h : Hazard) (pinned : Bool) (s : State) :
    (∃ result body, putAt k h pinned s = respond 0x0B result body s) ∨
    pinRefused s.table k pinned = false ∧
      putAt k h pinned s = settle (tableChanged (respond 0x0B .ok (slotBody s.config (putTable s.table k h pinned) k)
        { s with table := putTable s.table k h pinned })) := by
  unfold putAt
  split
  case isTrue => exact .inl ⟨_, _, rfl⟩
  case isFalse accepted => exact .inr ⟨by simpa using accepted, rfl⟩

/-- RECORD_PUT answers alone, or puts the record that it takes on a slot (R11). -/
theorem recordPutEffect_cases (slot generation kind flags order : Byte) (g8 g10 g12 g14 limit : Half) (s : State) :
    (∃ result body, recordPutEffect slot generation kind flags order g8 g10 g12 g14 limit s =
      respond 0x0B result body s) ∨
    ∃ k h, k < 96 ∧ recordPutEffect slot generation kind flags order g8 g10 g12 g14 limit s =
      putAt k h (pinnedBit flags) s := by
  unfold recordPutEffect
  split
  · exact .inl ⟨_, _, rfl⟩
  next in_range =>
    split
    · exact .inl ⟨_, _, rfl⟩
    next h taken =>
      split
      · split
        · exact .inl ⟨_, _, rfl⟩
        next k free => exact .inr ⟨k, h, ((lowestFree_iff _ _).mp free).1, rfl⟩
      next named =>
        split
        · exact .inr ⟨slot.toNat, h, by by_contra big; exact in_range ⟨by omega, named⟩, rfl⟩
        · exact .inl ⟨_, _, rfl⟩

/-- RECORD_RETIRE answers alone, or frees its slot (R19). -/
theorem recordRetireEffect_cases (slot generation : Byte) (s : State) :
    (∃ result body, recordRetireEffect slot generation s = respond 0x0D result body s) ∨
    slot.toNat < 96 ∧ recordRetireEffect slot generation s = settle (tableChanged
      (respond 0x0D .ok [slot, (slotAt s.table slot.toNat).generation]
        { s with table := freeSlot s.table slot.toNat })) := by
  unfold recordRetireEffect
  dsimp only
  split
  · exact .inl ⟨_, _, rfl⟩
  next in_range =>
    split
    · exact .inl ⟨_, _, rfl⟩
    · split
      · exact .inr ⟨by omega, rfl⟩
      · exact .inl ⟨_, _, rfl⟩

/-- SEGMENT_ADD answers alone, or accepts a segment of a new tag into a queue with room, in ACTIVE or WAKING (R82). -/
theorem segmentAddEffect_cases (tag kind direction hold : Byte) (amount speed : Half) (s : State) :
    (∃ result body, segmentAddEffect tag kind direction hold amount speed s = respond 0x13 result body s) ∨
    ∃ m, (s.modes.mode = .active ∨ s.modes.mode = .waking) ∧ (∀ x ∈ s.segments.queue, x.tag ≠ tag.toNat) ∧
      queueFull s = false ∧
      segmentAddEffect tag kind direction hold amount speed s = acceptSegment ⟨tag.toNat, m⟩ s := by
  unfold segmentAddEffect
  split
  · exact .inl ⟨_, _, rfl⟩
  next mode =>
    split
    · exact .inl ⟨_, _, rfl⟩
    next m taken =>
      split
      · exact .inl ⟨_, _, rfl⟩
      · split
        · exact .inl ⟨_, _, rfl⟩
        next fresh =>
          split
          · exact .inl ⟨_, _, rfl⟩
          next room =>
            refine .inr ⟨m, by tauto, ?_, by simpa using room, rfl⟩
            simpa using fresh

/-- SEGMENT_CANCEL answers alone, cancels the running segment, or removes a waiting one (R94). -/
theorem segmentCancelEffect_cases (tag : Byte) (s : State) :
    (∃ result body, segmentCancelEffect tag s = respond 0x14 result body s) ∨
    segmentCancelEffect tag s = cancelRunning tag s ∨
    ∃ g ∈ s.segments.waiting, segmentCancelEffect tag s =
      settle (respond 0x14 .ok (cancelBody tag 1 (cancelWaiting g s)) (cancelWaiting g s)) := by
  unfold segmentCancelEffect
  split
  · exact .inr (.inl rfl)
  · split
    next g found => exact .inr (.inr ⟨g, List.mem_of_find?_eq_some found, rfl⟩)
    · exact .inl ⟨_, _, rfl⟩

/-! ### The queues -/

theorem queuesOk_settle {s t : State} (h : QueuesOk s) (hq : t.segments.queue = s.segments.queue)
    (hc : t.segments.completions = s.segments.completions)
    (hr : t.segments.running.map Context.segment = s.segments.running.map Context.segment)
    (hm : t.modes.mode = s.modes.mode) : QueuesOk (settle t) :=
  settle_queuesOk t (queuesOk_of_same h hq hc hr hm)

/-- A segment of a new tag joins a queue with room (R73, R84, R85). -/
theorem joinQueue_queuesOk {g : Segment} {s : State} (h : QueuesOk s)
    (mode : s.modes.mode = .active ∨ s.modes.mode = .waking) (fresh : ∀ x ∈ s.segments.queue, x.tag ≠ g.tag)
    (room : queueFull s = false) : QueuesOk (joinQueue g s) := by
  simp only [queueFull, Bool.or_eq_false_iff, decide_eq_false_iff_not, not_le] at room
  refine ⟨⟨?_, ?_, ?_, ?_⟩, ?_⟩
  · simp only [joinQueue, List.length_append, List.length_singleton]
    omega
  · simp only [joinQueue, List.length_append, List.length_singleton]
    omega
  · simpa [joinQueue, List.nodup_append, h.segments.tags_distinct] using fresh
  · intro x hx
    have head := h.segments.running_head x hx
    cases hq : s.segments.queue with
    | nil => simp [hq] at head
    | cons y ys => simpa [joinQueue, hq] using head
  · intro rest
    rcases mode with mode | mode <;> simp [joinQueue, mode, isRestMode] at rest

theorem stallExpired_segments (wheel : Side) (s : State) :
    (stallExpired wheel s).segments.running.map Context.segment = s.segments.running.map Context.segment ∧
      (stallExpired wheel s).segments.queue = s.segments.queue ∧
      (stallExpired wheel s).segments.completions = s.segments.completions := by
  unfold stallExpired
  cases hr : s.segments.running with
  | none => simp [hr]
  | some c =>
    dsimp only
    split
    · split
      · simp [startUnjam, setPhase, hr]
      · simp [hr]
    · split <;> simp [hr]

theorem deliver_segments (ref : Option Ref) (s : State) :
    (deliver ref s).segments.running.map Context.segment = s.segments.running.map Context.segment ∧
      (deliver ref s).segments.queue = s.segments.queue ∧
      (deliver ref s).segments.completions = s.segments.completions := by
  unfold deliver
  split
  · refine ⟨?_, rfl, rfl⟩
    cases s.segments.running <;> rfl
  · exact ⟨rfl, rfl, rfl⟩
  · exact ⟨rfl, rfl, rfl⟩

theorem takeObservation_segments (o : Observation) (s : State) :
    (takeObservation o s).state.segments.running.map Context.segment = s.segments.running.map Context.segment ∧
      (takeObservation o s).state.segments.queue = s.segments.queue ∧
      (takeObservation o s).state.segments.completions = s.segments.completions := by
  unfold takeObservation
  split
  · simp [takeMerge]
  · split
    · simp [takeCreate]
    · split
      · simp [takeReplace]
      · simp

theorem foldl_offer_segments (l : List Notice) (s : State) :
    (l.foldl (fun u n => offerNotice n u) s).segments = s.segments := by
  rw [foldl_offer_frame]

theorem foldl_offer_modes (l : List Notice) (s : State) :
    (l.foldl (fun u n => offerNotice n u) s).modes = s.modes := by
  rw [foldl_offer_frame]

theorem ageingPass_segments (s : State) :
    (ageingPass s).segments.running.map Context.segment = s.segments.running.map Context.segment ∧
      (ageingPass s).segments.queue = s.segments.queue ∧
      (ageingPass s).segments.completions = s.segments.completions := by
  unfold ageingPass
  split
  · simp [foldl_offer_segments]
  · exact ⟨rfl, rfl, rfl⟩

theorem ageingPass_modes (s : State) : (ageingPass s).modes = s.modes := by
  unfold ageingPass
  split
  · simp [foldl_offer_modes]
  · rfl

theorem handDocked_segments (s : State) :
    (handDocked s).segments.running.map Context.segment = s.segments.running.map Context.segment ∧
      (handDocked s).segments.queue = s.segments.queue ∧
      (handDocked s).segments.completions = s.segments.completions := by
  unfold handDocked
  split
  · split <;> simp
  · exact ⟨rfl, rfl, rfl⟩

theorem map_map_segment (r : Option Context) (f : Context → Context) (hf : ∀ c, (f c).segment = c.segment) :
    (r.map f).map Context.segment = r.map Context.segment := by
  cases r <;> simp [hf]

theorem endUnjamPhase_segment (c : Context) : (endUnjamPhase c).segment = c.segment := by
  unfold endUnjamPhase; split <;> rfl

theorem leaveWaiting_segment (c : Context) : (leaveWaiting c).segment = c.segment := by
  unfold leaveWaiting; split <;> rfl

theorem tickContext_segment (c : Context) : (tickContext c).segment = c.segment := by
  unfold tickContext; split <;> rfl

theorem bumpTrigger_queuesOk (c : Contact) {s : State} (h : QueuesOk s) : QueuesOk (bumpTrigger c s) :=
  fireTrigger_queuesOk _ _ _ _ h

theorem pressCompleted_queuesOk (side : Side) {s : State} (h : QueuesOk s) : QueuesOk (pressCompleted side s) := by
  unfold pressCompleted
  dsimp only
  split
  · split
    · exact bumpTrigger_queuesOk _ (queuesOk_of_same h rfl rfl rfl rfl)
    · exact bumpTrigger_queuesOk _ (queuesOk_of_same h rfl rfl rfl rfl)
  · exact queuesOk_of_same h rfl rfl rfl rfl

theorem restState_queuesOk {s : State} (h : QueuesOk s) (m : Mode) (mode : isRestMode s.modes.mode = true) :
    QueuesOk (enterMode m s) :=
  ⟨by simpa using h.segments, fun _ => by simpa using h.rest_empty mode⟩

/-- Every command on a ready part keeps the queues sound. -/
theorem effect_queuesOk {c : Instr} {act : State → State} {s : State} (effect : readyEffect c = some act)
    (h : QueuesOk s) : QueuesOk (act s) := by
  have accepted : QueuesOk (acceptFrame s) := queuesOk_of_same h rfl rfl rfl rfl
  cases c <;> first
    | cases effect <;> done
    | obtain rfl := Option.some.inj effect
  case modeActive =>
    simp only [modeActiveEffect, refuseMode, refuseCondition, answerMode]
    split
    · exact queuesOk_of_same accepted rfl rfl rfl rfl
    · split
      · exact queuesOk_of_same accepted rfl rfl rfl rfl
      · exact queuesOk_settle (enterMode_moving_queuesOk .active rfl _ accepted.segments) rfl rfl rfl rfl
  case resume =>
    simp only [resumeEffect, refuseMode, refuseCondition, answerMode]
    split
    · exact queuesOk_of_same accepted rfl rfl rfl rfl
    · split
      · exact queuesOk_of_same accepted rfl rfl rfl rfl
      · exact queuesOk_settle (enterMode_moving_queuesOk .active rfl _ accepted.segments) rfl rfl rfl rfl
  case modeConfig =>
    simp only [modeConfigEffect, refuseMode, answerMode]
    split
    · exact queuesOk_of_same accepted rfl rfl rfl rfl
    next mode => exact queuesOk_of_same (restState_queuesOk accepted .config (by rw [mode]; rfl)) rfl rfl rfl rfl
    next mode => exact queuesOk_of_same (restState_queuesOk accepted .config (by rw [mode]; rfl)) rfl rfl rfl rfl
    · exact queuesOk_of_same (flushToConfig_queuesOk _ accepted) rfl rfl rfl rfl
  case park =>
    simp only [parkEffect, refuseMode, answerMode]
    split
    · exact queuesOk_of_same accepted rfl rfl rfl rfl
    · split
      next drained =>
        exact queuesOk_of_same (enterMode_rest_queuesOk .parked _ accepted.segments
          (idle_of_drained accepted.segments drained).1) rfl rfl rfl rfl
      · exact queuesOk_settle (enterMode_moving_queuesOk .parking rfl _ accepted.segments) rfl rfl rfl rfl
  case wake =>
    simp only [wakeEffect, refuseMode, refuseCondition, answerMode]
    split
    · exact queuesOk_of_same accepted rfl rfl rfl rfl
    · split
      · exact queuesOk_of_same accepted rfl rfl rfl rfl
      · exact queuesOk_of_same (enterMode_moving_queuesOk .waking rfl _ accepted.segments) rfl rfl rfl rfl
  case wakeTimerExpiry =>
    simp only [wakeTimerEffect]
    split
    · exact queuesOk_settle (enterMode_moving_queuesOk .active rfl _ h.segments) rfl rfl rfl rfl
    · exact h
  case restart =>
    simp only [restartEffect]
    split
    · exact queuesOk_of_same accepted rfl rfl rfl rfl
    · exact queuesOk_of_fresh _ rfl
  case recordPut slot generation kind flags order g8 g10 g12 g14 limit =>
    rcases recordPutEffect_cases slot generation kind flags order g8 g10 g12 g14 limit (acceptFrame s) with
      ⟨result, body, answered⟩ | ⟨k, hz, -, put⟩
    · simp only [answered]
      exact queuesOk_of_same accepted rfl rfl rfl rfl
    · simp only [put]
      rcases putAt_cases k hz (pinnedBit flags) (acceptFrame s) with ⟨result, body, answered⟩ | ⟨-, changed⟩
      · rw [answered]
        exact queuesOk_of_same accepted rfl rfl rfl rfl
      · rw [changed]
        exact queuesOk_settle accepted (by simp) (by simp) (by simp) (by simp)
  case recordRetire slot generation =>
    rcases recordRetireEffect_cases slot generation (acceptFrame s) with ⟨result, body, answered⟩ | ⟨-, changed⟩
    · simp only [answered]
      exact queuesOk_of_same accepted rfl rfl rfl rfl
    · simp only [changed]
      exact queuesOk_settle accepted (by simp) (by simp) (by simp) (by simp)
  case poseSet x y heading u =>
    exact queuesOk_settle accepted (by simp) (by simp) (by simp) (by simp)
  case segmentAdd tag kind direction hold amount speed =>
    rcases segmentAddEffect_cases tag kind direction hold amount speed (acceptFrame s) with
      ⟨result, body, answered⟩ | ⟨m, mode, fresh, room, joined⟩
    · simp only [answered]
      exact queuesOk_of_same accepted rfl rfl rfl rfl
    · simp only [joined]
      exact queuesOk_settle (joinQueue_queuesOk accepted mode fresh room) rfl rfl rfl rfl
  case segmentCancel tag =>
    rcases segmentCancelEffect_cases tag (acceptFrame s) with ⟨result, body, answered⟩ | running | ⟨g, hg, waiting⟩
    · simp only [answered]
      exact queuesOk_of_same accepted rfl rfl rfl rfl
    · simp only [running]
      exact cancelRunning_queuesOk tag _ accepted
    · simp only [waiting]
      refine queuesOk_settle (s := cancelWaiting g (acceptFrame s)) ⟨cancelWaiting_ok g _ accepted.segments hg, ?_⟩
        rfl rfl rfl rfl
      intro rest
      have empty : s.segments.queue = [] := accepted.rest_empty rest
      simp [cancelWaiting, empty]
  case segmentFlush =>
    refine queuesOk_settle (s := flushWaiting (respond 0x15 .ok (flushBody (acceptFrame s)) (acceptFrame s)))
      ⟨flushWaiting_ok _ accepted.segments, ?_⟩ (by simp) (by simp) (by simp) (by simp)
    intro rest
    have empty : s.segments.queue = [] := accepted.rest_empty rest
    simp [flushWaiting, empty]
  case completionRead =>
    simp only [completionReadEffect]
    split
    · exact queuesOk_of_same accepted rfl rfl rfl rfl
    next c rest held =>
      obtain ⟨le, sum, tags, head⟩ := accepted.segments
      refine ⟨⟨le, ?_, tags, head⟩, accepted.rest_empty⟩
      simp only [held, List.length_cons] at sum
      exact le_trans (by simp) sum
  case controlPeriodExpiry order =>
    exact foldl_periodPart_queuesOk _ _ _ _ (queuesOk_of_same h (by simp [periodUpdate]) (by simp [periodUpdate])
      (by simp [periodUpdate]) (by simp [periodUpdate]))
  case stallTimerExpiry wheel =>
    simp only [stallTimerEffect]
    split
    · exact h
    · split
      · exact queuesOk_of_same h rfl rfl rfl rfl
      · obtain ⟨hr, hq, hc⟩ := stallExpired_segments wheel s
        exact queuesOk_settle h hq hc hr (by simp)
  case unjamEnd =>
    simp only [unjamEndEffect]
    split
    · exact queuesOk_of_same h rfl rfl (map_map_segment _ _ endUnjamPhase_segment) rfl
    · exact h
  case reversalGuardExpiry wheel =>
    simp only [guardEffect]
    split
    · exact queuesOk_settle h rfl rfl rfl rfl
    · exact h
  case cliffSample sensor reflectance =>
    simp only [cliffEffect]
    split
    · split
      · exact fireTrigger_queuesOk _ _ _ _ (queuesOk_of_same h rfl rfl rfl rfl)
      · exact queuesOk_of_same h rfl rfl rfl rfl
    · exact h
  case bumperDebounceExpiry side =>
    simp only [bumperDebounceEffect]
    split
    · exact h
    · split
      · exact pressCompleted_queuesOk side h
      · exact queuesOk_of_same h rfl rfl rfl rfl
  case liftDebounceExpiry side =>
    simp only [liftDebounceEffect]
    split
    · exact h
    · split
      · exact becomeLifted_queuesOk _ (queuesOk_of_same h rfl rfl rfl rfl)
      · exact queuesOk_of_same h rfl rfl rfl rfl
  case observation =>
    simp only [observationEffect]
    split
    · exact h
    next o rest held =>
      obtain ⟨hr, hq, hc⟩ := deliver_segments (takeObservation o { s with ageing := { s.ageing with observations := rest } }).result
        (takeObservation o { s with ageing := { s.ageing with observations := rest } }).state
      obtain ⟨hr', hq', hc'⟩ := takeObservation_segments o { s with ageing := { s.ageing with observations := rest } }
      exact queuesOk_settle h (hq.trans hq') (hc.trans hc') (hr.trans hr') (by simp)
  case ageingTimerExpiry =>
    simp only [ageingEffect]
    split
    · obtain ⟨hr, hq, hc⟩ := ageingPass_segments { s with ageing := { s.ageing with timer := 0 } }
      exact queuesOk_settle h hq hc hr (by simp [ageingPass_modes])
    · exact h
  case dockSettleExpiry =>
    simp only [dockSettleEffect]
    split
    · obtain ⟨hr, hq, hc⟩ := handDocked_segments (offerNotice (dockNotice .dockMade s)
        { s with dock := { s.dock with docked := true, settle := none } })
      exact queuesOk_settle h (hq.trans (by simp)) (hc.trans (by simp)) (hr.trans (by simp)) (by simp)
    · exact h
  case undockWaitExpiry =>
    simp only [undockWaitEffect]
    split
    · exact queuesOk_settle h rfl rfl (map_map_segment _ _ leaveWaiting_segment) rfl
    · exact h
  case pauseTimerExpiry =>
    simp only [pauseTimerEffect]
    split
    next c running =>
      split
      · exact queuesOk_settle h (by simp) (by simp) (by simp [running, pauseElapsed]) (by simp)
      · exact h
    · exact h
  case linkSilenceExpiry =>
    simp only [linkSilenceEffect]
    split
    · split
      · exact settle_queuesOk _ (linkLost_queuesOk _ (queuesOk_of_same h rfl rfl rfl rfl))
      · exact queuesOk_of_same h rfl rfl rfl rfl
    · exact h
  case segmentStart =>
    simp only [segmentStartEffect]
    split
    · exact settle_queuesOk _ (startSegment_queuesOk _ h)
    · exact h
  case completionRecordWrite =>
    simp only [completionWriteEffect]
    split
    · exact settle_queuesOk _ (leaveStopping_queuesOk _ (writeRecord_queuesOk _ h))
    · exact h
  case store =>
    simp only [storeEffect]
    repeat' split
    all_goals exact queuesOk_of_same accepted rfl rfl rfl rfl
  case storeEnd readBack =>
    simp only [storeEndEffect]
    split
    · exact h
    · exact queuesOk_of_same h rfl rfl rfl rfl
  all_goals exact queuesOk_of_same h (by simp) (by simp) (by simp) (by simp)

theorem tick_queuesOk {s : State} (h : QueuesOk s) : QueuesOk (tick s) := by
  unfold tick
  split
  · exact h
  · exact queuesOk_of_same h rfl rfl rfl rfl
  · exact queuesOk_of_same h rfl rfl (map_map_segment _ _ tickContext_segment) rfl

theorem queues_keptByParts : KeptByParts QueuesOk where
  pending _ _ h := queuesOk_of_same h rfl rfl rfl rfl
  choices _ _ h := queuesOk_of_same h rfl rfl rfl rfl
  lines _ _ _ h := queuesOk_of_same h rfl rfl rfl rfl
  discard _ _ _ _ h := queuesOk_of_same h rfl rfl rfl rfl
  shift _ _ h := queuesOk_of_same h rfl rfl rfl rfl
  start _ _ := queuesOk_of_fresh _ rfl
  finish _ _ _ h := queuesOk_of_same h rfl rfl rfl rfl
  loss _ _ := queuesOk_of_fresh _ rfl
  tick _ h := tick_queuesOk h
  effect _ _ _ effect _ h := queuesOk_of_same (effect_queuesOk effect h) rfl rfl rfl rfl

/-- Settles O4: every part of a step keeps the queues sound. -/
theorem queueBoundsAreKeptByStep : Obligations.QueueBoundsAreKeptByStep := by
  unfold Obligations.QueueBoundsAreKeptByStep
  exact queues_keptByParts.byStep

end Sys2Proof.Machine
end

section
/-! The bound of the notice queue (R180) and the ranges of the configuration and of the pose (R35, R175) through every
command. -/

namespace Sys2Proof.Machine

/-! ### The notice queue -/

theorem noticesOk_of_same {s t : State} (h : NoticesOk s) (ht : t.link.notices = s.link.notices) : NoticesOk t := by
  unfold NoticesOk at *
  rw [ht]
  exact h

theorem offerNotice_noticesOk (n : Notice) {s : State} (h : NoticesOk s) : NoticesOk (offerNotice n s) := by
  rcases offerNotice_cases n s with ⟨room, joined⟩ | ⟨-, full⟩
  · rw [joined]
    simp only [NoticesOk, List.length_append, List.length_singleton]
    omega
  · rw [full]
    exact h

theorem classify_noticesOk (cause : NoticeCause) {s : State} (h : NoticesOk s) : NoticesOk (classify cause s) := by
  rcases classify_cases cause s with ⟨same, -⟩ | ⟨changed, -⟩
  · rw [same]
    exact h
  · rw [changed]
    exact offerNotice_noticesOk _ h

theorem tableChanged_noticesOk {s : State} (h : NoticesOk s) : NoticesOk (tableChanged s) :=
  noticesOk_of_same (classify_noticesOk .table h) (by simp [tableChanged])

theorem foldl_offer_noticesOk (l : List Notice) {s : State} (h : NoticesOk s) :
    NoticesOk (l.foldl (fun u n => offerNotice n u) s) := by
  induction l generalizing s with
  | nil => exact h
  | cons n l ih => exact ih (offerNotice_noticesOk n h)

theorem ageingPass_noticesOk {s : State} (h : NoticesOk s) : NoticesOk (ageingPass s) := by
  unfold ageingPass
  split
  · exact tableChanged_noticesOk (foldl_offer_noticesOk _ h)
  · exact h

theorem takeObservation_noticesOk (o : Observation) {s : State} (h : NoticesOk s) :
    NoticesOk (takeObservation o s).state := by
  unfold takeObservation
  split
  · exact tableChanged_noticesOk (offerNotice_noticesOk _ h)
  · split
    · exact tableChanged_noticesOk (offerNotice_noticesOk _ h)
    · split
      · exact tableChanged_noticesOk (offerNotice_noticesOk _ (offerNotice_noticesOk _ h))
      · exact offerNotice_noticesOk _ h

/-- A request that adds no notice keeps the bound. -/
theorem respond_noticesOk {code : Byte} {result : ResultCode} {body : List Byte} {s : State} (h : NoticesOk s) :
    NoticesOk (respond code result body s) := h

theorem settle_noticesOk {s : State} (h : NoticesOk s) : NoticesOk (settle s) := noticesOk_of_same h (by simp)

/-- Every command on a ready part keeps the bound of the notice queue. -/
theorem effect_noticesOk {c : Instr} {act : State → State} {s : State} (effect : readyEffect c = some act)
    (h : NoticesOk s) : NoticesOk (act s) := by
  have accepted : NoticesOk (acceptFrame s) := h
  cases c <;> first
    | cases effect <;> done
    | obtain rfl := Option.some.inj effect
  case restart =>
    simp only [restartEffect]
    split
    · exact accepted
    · exact Nat.zero_le _
  case noticeRead =>
    simp only [noticeReadEffect]
    split
    · exact accepted
    next n rest held =>
      have : (n :: rest).length ≤ 16 := held ▸ accepted
      exact le_trans (Nat.le_succ _) this
  case recordPut slot generation kind flags order g8 g10 g12 g14 limit =>
    rcases recordPutEffect_cases slot generation kind flags order g8 g10 g12 g14 limit (acceptFrame s) with
      ⟨result, body, answered⟩ | ⟨k, hz, -, put⟩
    · simp only [answered]
      exact accepted
    · simp only [put]
      rcases putAt_cases k hz (pinnedBit flags) (acceptFrame s) with ⟨result, body, answered⟩ | ⟨-, changed⟩
      · rw [answered]
        exact accepted
      · rw [changed]
        exact settle_noticesOk (tableChanged_noticesOk accepted)
  case recordRetire slot generation =>
    rcases recordRetireEffect_cases slot generation (acceptFrame s) with ⟨result, body, answered⟩ | ⟨-, changed⟩
    · simp only [answered]
      exact accepted
    · simp only [changed]
      exact settle_noticesOk (tableChanged_noticesOk accepted)
  case poseSet x y heading u =>
    exact settle_noticesOk (noticesOk_of_same (classify_noticesOk .poseFix (s := respond 0x11 .ok (fixBody x y heading u)
      { acceptFrame s with pose := fixPose x y heading u (acceptFrame s).pose }) accepted) (by simp))
  case controlPeriodExpiry order =>
    refine noticesOk_of_same (s := periodUpdate s) ?_ (by simp [controlPeriodEffect])
    exact classify_noticesOk _ h
  case observation =>
    simp only [observationEffect]
    split
    · exact h
    next o rest held =>
      exact settle_noticesOk (noticesOk_of_same (takeObservation_noticesOk o
        (s := { s with ageing := { s.ageing with observations := rest } }) h) (by simp))
  case ageingTimerExpiry =>
    simp only [ageingEffect]
    split
    · exact settle_noticesOk (ageingPass_noticesOk h)
    · exact h
  case dockContactBreak =>
    simp only [contactBreakEffect]
    repeat' split
    · exact offerNotice_noticesOk _ h
    · exact h
    · exact h
  case dockSettleExpiry =>
    simp only [dockSettleEffect]
    split
    · refine settle_noticesOk (noticesOk_of_same (offerNotice_noticesOk (dockNotice .dockMade s)
        (s := { s with dock := { s.dock with docked := true, settle := none } }) h) ?_)
      simp [completeMake]
    · exact h
  case segmentAdd tag kind direction hold amount speed =>
    rcases segmentAddEffect_cases tag kind direction hold amount speed (acceptFrame s) with
      ⟨result, body, answered⟩ | ⟨m, -, -, -, joined⟩
    · simp only [answered]
      exact accepted
    · simp only [joined]
      exact settle_noticesOk (respond_noticesOk (s := joinQueue _ _) accepted)
  case segmentCancel tag =>
    rcases segmentCancelEffect_cases tag (acceptFrame s) with ⟨result, body, answered⟩ | running | ⟨g, hg, waiting⟩
    · simp only [answered]
      exact accepted
    · simp only [running, cancelRunning]
      exact settle_noticesOk (respond_noticesOk (noticesOk_of_same accepted (by simp)))
    · simp only [waiting]
      exact settle_noticesOk (respond_noticesOk (s := cancelWaiting _ _) accepted)
  case modeActive =>
    simp only [modeActiveEffect]
    repeat' split
    · exact accepted
    · exact accepted
    · exact settle_noticesOk (respond_noticesOk (noticesOk_of_same accepted (by simp)))
  case resume =>
    simp only [resumeEffect]
    repeat' split
    · exact accepted
    · exact accepted
    · exact settle_noticesOk (respond_noticesOk (noticesOk_of_same accepted (by simp)))
  case park =>
    simp only [parkEffect]
    repeat' split
    · exact accepted
    · exact respond_noticesOk (noticesOk_of_same accepted (by simp))
    · exact settle_noticesOk (respond_noticesOk (noticesOk_of_same accepted (by simp)))
  case wake =>
    simp only [wakeEffect]
    repeat' split
    · exact accepted
    · exact accepted
    · exact respond_noticesOk (noticesOk_of_same accepted (by simp))
  case modeConfig =>
    simp only [modeConfigEffect]
    split
    · exact accepted
    all_goals exact respond_noticesOk (noticesOk_of_same accepted (by simp))
  case segmentFlush => 
    exact settle_noticesOk (noticesOk_of_same (s := respond 0x15 .ok (flushBody (acceptFrame s)) (acceptFrame s))
      accepted (by simp))
  case configSet it value =>
    simp only [configSetEffect]
    repeat' split
    · exact accepted
    · exact respond_noticesOk (noticesOk_of_same accepted (by simp))
    · exact accepted
  case linkSilenceExpiry =>
    simp only [linkSilenceEffect]
    split
    · split
      · exact settle_noticesOk (noticesOk_of_same (s := { s with link := { s.link with silence := .expired } }) h
          (by simp))
      · exact h
    · exact h
  case noticeTimerExpiry =>
    simp only [noticeTimerEffect]
    split <;> exact h
  case store =>
    simp only [storeEffect]
    repeat' split
    all_goals exact accepted
  case configGet it => simp only [configGetEffect]; split <;> exact accepted
  case recordGet slot =>
    simp only [recordGetEffect]
    repeat' split
    all_goals exact accepted
  case recordNext start => simp only [recordNextEffect]; split <;> exact accepted
  case pathQuery heading direction => simp only [pathQueryEffect]; split <;> exact accepted
  case completionRead => simp only [completionReadEffect]; split <;> exact accepted
  case status | pointQuery | poseGet | nop | unknownRequest => exact accepted
  all_goals exact noticesOk_of_same h (by simp)

theorem notices_keptByParts : KeptByParts NoticesOk where
  pending _ _ h := h
  choices _ _ h := h
  lines _ _ _ h := h
  discard _ _ _ _ h := h
  shift _ _ h := h
  start _ _ := Nat.zero_le _
  finish _ _ _ h := h
  loss _ _ := Nat.zero_le _
  tick s h := by
    refine noticesOk_of_same h ?_
    unfold tick
    split <;> rfl
  effect _ _ _ effect _ h := noticesOk_of_same (effect_noticesOk effect h) rfl

/-- Settles O5: a notice joins a queue that has room alone. -/
theorem noticeBoundIsKeptByStep : Obligations.NoticeBoundIsKeptByStep := by
  unfold Obligations.NoticeBoundIsKeptByStep
  exact notices_keptByParts.byStep

/-! ### The ranges of the configuration and of the pose -/

theorem poseOk_of_same {s t : State} (h : PoseOk s) (hc : t.config = s.config) (hp : t.pose = s.pose) : PoseOk t where
  config := hc ▸ h.config
  pose := by rw [hc, hp]; exact h.pose

/-- A value taken keeps a configuration in its ranges (R175). -/
theorem setItem_configOk {cfg : Settings} (ok : ConfigOk cfg) {n : Nat} (h1 : 1 ≤ n) (h2 : n ≤ 47) (v : Half) :
    ConfigOk (setItem cfg n (takeValue cfg n (readValue n v))) := by
  obtain ⟨row, -, hrow, ordered⟩ := itemRow_of_inside (n := n - 1) (by omega)
  have range := takeValue_range (cfg := cfg) (n := n) (ok.item_range (n := 18) (by decide) rfl).1 hrow ordered v
  constructor
  · intro k hk
    rw [item_setItem cfg n (k + 1) _ h1 h2 (by omega) (by omega)]
    split
    case isTrue written =>
      have same : itemRows.getD k ⟨0, 0, 0⟩ = row := by rw [← hrow, ← written, Nat.add_sub_cancel]
      rw [same]
      exact range
    case isFalse => exact ok.items k hk
  · rw [linkTimeout, itemNat, item_setItem cfg n 44 _ h1 h2 (by omega) (by omega)]
    split
    case isTrue written =>
      subst written
      have taken := takeValue_eq (cfg := cfg) (n := 44) hrow ordered (sent := readValue 44 v)
        fun _ => readValue_unsigned v (by omega)
      rw [taken, if_pos rfl]
      split_ifs <;> omega
    case isFalse => exact ok.link_timeout

theorem writeItem_poseOk {s : State} (h : PoseOk s) {n : Nat} (h1 : 1 ≤ n) (h2 : n ≤ 47) (v : Half) :
    PoseOk (writeItem n (takeValue s.config n (readValue n v)) s) := by
  unfold writeItem
  split
  case isTrue => exact h
  case isFalse =>
    have config := setItem_configOk h.config h1 h2 v
    obtain ⟨x, y, heading, remainder, fix, distance, u⟩ := h.pose
    refine ⟨config, ?_⟩
    dsimp only
    split
    case isTrue => exact ⟨x, y, heading, config.spinTicks_pos, fix, distance, u⟩
    case isFalse other =>
      refine ⟨x, y, heading, ?_, fix, distance, u⟩
      have same : spinTicks (setItem s.config n (takeValue s.config n (readValue n v))) = spinTicks s.config := by
        rw [spinTicks, itemNat, item_setItem s.config n 9 _ h1 h2 (by omega) (by omega), if_neg (Ne.symm other)]
        rfl
      rw [same]
      exact remainder

/-- An odometry update leaves a pose in its ranges (R35, R38 to R42). -/
theorem odometry_ranges {cfg : Settings} (ok : ConfigOk cfg) (dl dr : Int) {p : Pose} (h : PoseRanges cfg p) :
    PoseRanges cfg (odometry cfg dl dr p) := by
  have ticks : (0 : Int) < spinTicks cfg := by exact_mod_cast ok.spinTicks_pos
  constructor
  · simp only [odometry, stepUm, clampTo_eq (-30000000) 30000000 _ (by decide)]
    omega
  · simp only [odometry, stepUm, clampTo_eq (-30000000) 30000000 _ (by decide)]
    omega
  · simp only [odometry]
    omega
  · have step : headingAcc p dl dr - headingStep cfg p dl dr * spinTicks cfg = headingAcc p dl dr % spinTicks cfg := by
      rw [Int.emod_def, mul_comm]
      rfl
    have low := Int.emod_nonneg (headingAcc p dl dr) (ne_of_gt ticks)
    have high := Int.emod_lt_of_pos (headingAcc p dl dr) ticks
    simp only [odometry, step]
    omega
  · exact h.fix_range
  · exact Nat.min_le_right _ _
  · exact Nat.min_le_left _ _

theorem fixPose_ranges {cfg : Settings} (ok : ConfigOk cfg) (x y heading u : Half) (p : Pose) :
    PoseRanges cfg (fixPose x y heading u p) := by
  constructor
  · simp only [fixPose, clampRoom_eq]
    omega
  · simp only [fixPose, clampRoom_eq]
    omega
  · simp only [fixPose]
    omega
  · exact ok.spinTicks_pos
  · exact Nat.min_le_right _ _
  · exact Nat.zero_le _
  · exact Nat.min_le_right _ _

/-- The configuration of an image is in its ranges, each value being taken as CONFIG_SET would take it (R172). -/
theorem imageSettings_ok (bytes : List Byte) : ConfigOk (imageSettings bytes) := by
  have fold : ∀ (l : List Nat) (cfg : Settings), (∀ k ∈ l, k < 47) → ConfigOk cfg →
      ConfigOk (l.foldl (fun cfg k => setItem cfg (k + 1) (takeValue cfg (k + 1)
        (readValue (k + 1) (halfAt bytes (2 * k))))) cfg) := by
    intro l
    induction l with
    | nil => exact fun cfg _ ok => ok
    | cons k l ih =>
      intro cfg inside ok
      refine ih _ (fun j hj => inside j (List.mem_cons_of_mem k hj)) (setItem_configOk ok (Nat.succ_pos k) ?_ _)
      exact inside k List.mem_cons_self
  exact fold _ _ (fun k hk => List.mem_range.mp hk) factorySettings_ok

theorem startUpSettings_ok (nv : NvImage) : ConfigOk (startUpSettings nv) := by
  unfold startUpSettings
  split
  · exact imageSettings_ok _
  · exact factorySettings_ok

/-- Every command on a ready part keeps the configuration and the pose in their ranges. -/
theorem effect_poseOk {c : Instr} {act : State → State} {s : State} (effect : readyEffect c = some act)
    (h : PoseOk s) : PoseOk (act s) := by
  cases c <;> first
    | cases effect <;> done
    | obtain rfl := Option.some.inj effect
  case configSet it value =>
    have accepted : PoseOk (acceptFrame s) := poseOk_of_same h rfl rfl
    simp only [configSetEffect]
    split
    · exact poseOk_of_same accepted rfl rfl
    · split
      next inside =>
        obtain ⟨h1, h2⟩ := (isItem_iff _).mp inside
        exact poseOk_of_same (writeItem_poseOk accepted h1 h2 value) rfl rfl
      · exact poseOk_of_same accepted rfl rfl
  case poseSet x y heading u =>
    refine ⟨by simpa using h.config, ?_⟩
    simp only [poseSetEffect, settle_pose, settle_config, evaluate_pose, evaluate_config, classify_pose,
      classify_config, respond_pose, respond_config]
    exact fixPose_ranges h.config x y heading u _
  case controlPeriodExpiry order =>
    refine ⟨by simpa using h.config, ?_⟩
    simp only [controlPeriodEffect, periodFold_pose, periodFold_config, periodUpdate, classify_pose, classify_config]
    exact odometry_ranges h.config _ _ h.pose
  case encoderEdge wheel a b =>
    obtain ⟨x, y, heading, remainder, fix, distance, u⟩ := h.pose
    exact ⟨by simpa using h.config, ⟨x, y, heading, remainder, fix, distance, u⟩⟩
  all_goals exact poseOk_of_same h (by simp) (by simp)

theorem pose_keptByParts : KeptByParts PoseOk where
  pending _ _ h := poseOk_of_same h rfl rfl
  choices _ _ h := poseOk_of_same h rfl rfl
  lines _ _ _ h := poseOk_of_same h rfl rfl
  discard _ _ _ _ h := poseOk_of_same h rfl rfl
  shift _ _ h := poseOk_of_same h rfl rfl
  start s _ := ⟨startUpSettings_ok _, freshPose_ranges _ _ (startUpSettings_ok _)⟩
  finish s _ _ h := by
    obtain ⟨x, y, heading, remainder, fix, distance, u⟩ := h.pose
    exact ⟨h.config, ⟨x, y, heading, remainder, fix, distance, u⟩⟩
  loss _ _ := ⟨factorySettings_ok, freshPose_ranges _ _ factorySettings_ok⟩
  tick s h := by
    unfold tick
    split <;> exact poseOk_of_same h rfl rfl
  effect _ _ _ effect _ h := poseOk_of_same (effect_poseOk effect h) rfl rfl

/-- Settles O6: a value is taken in the range of its item, and an update leaves each pose item in its range. -/
theorem poseRangesAreKeptByStep : Obligations.PoseRangesAreKeptByStep := by
  unfold Obligations.PoseRangesAreKeptByStep
  exact pose_keptByParts.byStep

end Sys2Proof.Machine
end

section
/-! What a live record may be (R5, R7, R8, R152), through every command. -/

namespace Sys2Proof.Machine

/-! ### The pinned count -/

/-- A slot holds a pinned record. -/
def Slot.isPinned (x : Slot) : Bool := (x.record.map Record.pinned).getD false

theorem pinnedCount_eq (t : Table) : pinnedCount t = t.toList.countP Slot.isPinned := rfl

theorem toList_setSlot (t : Table) (k : Nat) (x : Slot) : (setSlot t k x).toList = t.toList.set k x := by
  simp [setSlot, Vector.setIfInBounds, Vector.toList]

theorem toList_getElem (t : Table) (k : Nat) (h : k < t.toList.length) : t.toList[k] = slotAt t k := by
  rw [slotAt_eq t k (by simpa using h)]
  simp

/-- The pinned count after a write: the slot's old record no longer counts, its new one does (R8). -/
theorem pinnedCount_setSlot (t : Table) {k : Nat} (x : Slot) (inside : k < 96) :
    pinnedCount (setSlot t k x) =
      (pinnedCount t - if (slotAt t k).isPinned = true then 1 else 0) + if x.isPinned = true then 1 else 0 := by
  have len : k < t.toList.length := by simpa using inside
  rw [pinnedCount_eq, toList_setSlot, List.countP_set len, toList_getElem t k len]
  rfl

theorem pinnedCount_setSlot_le (t : Table) {k : Nat} {x : Slot} (inside : k < 96)
    (h : x.isPinned = true → (slotAt t k).isPinned = true) : pinnedCount (setSlot t k x) ≤ pinnedCount t := by
  rw [pinnedCount_setSlot t x inside]
  by_cases pinned : x.isPinned = true
  · have counted : 1 ≤ pinnedCount t := by
      rw [pinnedCount_eq, Nat.succ_le_iff, List.countP_pos_iff]
      have len : k < t.toList.length := by simpa using inside
      exact ⟨slotAt t k, toList_getElem t k len ▸ List.getElem_mem len, h pinned⟩
    simp only [pinned, h pinned, if_true]
    omega
  · rw [if_neg pinned]
    omega

/-! ### The table -/

/-- A slot holds a sound record or none. -/
def SlotOk (x : Slot) : Prop := ∀ r, x.record = some r → RecordOk r

theorem slotAt_slotOk {t : Table} (h : TableOk t) (k : Nat) : SlotOk (slotAt t k) := by
  intro r hr
  by_cases inside : k < 96
  · have len : k < t.toList.length := by simpa using inside
    exact h.records _ (toList_getElem t k len ▸ List.getElem_mem len) r hr
  · rw [slotAt_outside t k (by omega)] at hr
    cases hr

theorem isLive_recordOk {t : Table} (h : TableOk t) {l : Live} (live : IsLive t l) : RecordOk l.record :=
  slotAt_slotOk h l.ref.slot l.record (record_of_isLive live)

/-- A write of a sound record keeps the table sound where the pinned count stays in its limit. -/
theorem setSlot_tableOk {t : Table} (h : TableOk t) {k : Nat} {x : Slot} (ok : SlotOk x)
    (limit : pinnedCount (setSlot t k x) ≤ 32) : TableOk (setSlot t k x) where
  records := by
    rw [toList_setSlot]
    intro y hy r hr
    rcases List.mem_or_eq_of_mem_set hy with old | new
    · exact h.records y old r hr
    · exact ok r (new ▸ hr)
  pinned_le := limit

theorem hostRecord_ok (hz : Hazard) (pinned : Bool) (hits : Nat) : RecordOk (hostRecord hz pinned hits) := rfl

/-- A record of no pin placed in a slot (R8). -/
theorem setSlot_unpinned_tableOk {t : Table} (h : TableOk t) {k : Nat} {x : Slot} (inside : k < 96) (ok : SlotOk x)
    (pin : x.isPinned = true → (slotAt t k).isPinned = true) : TableOk (setSlot t k x) :=
  setSlot_tableOk h ok (le_trans (pinnedCount_setSlot_le t inside pin) h.pinned_le)

/-- An accepted put: where it would raise the pinned count above 32 it is refused (R8, R11). -/
theorem putTable_ok {t : Table} (h : TableOk t) {k : Nat} (inside : k < 96) (hz : Hazard) {pinned : Bool}
    (accepted : pinRefused t k pinned = false) : TableOk (putTable t k hz pinned) := by
  refine setSlot_tableOk h (fun r hr => ?_) ?_
  · cases hr
    exact hostRecord_ok _ _ _
  · rw [pinnedCount_setSlot t _ inside]
    have limit := h.pinned_le
    cases pinned with
    | false =>
      simp only [Slot.isPinned, putRecord, hostRecord, Option.map_some, Option.getD_some, Bool.false_eq_true, if_false]
      omega
    | true =>
      by_cases was : (slotAt t k).isPinned = true
      · have le := pinnedCount_setSlot_le t (x := slotAt t k) inside id
        rw [pinnedCount_setSlot t _ inside] at le
        simp only [was, if_true] at le ⊢
        simp only [Slot.isPinned, putRecord, hostRecord, Option.map_some, Option.getD_some, if_true]
        omega
      · have few : pinnedCount t < 32 := by
          simp only [Slot.isPinned, Bool.not_eq_true] at was
          simpa [pinRefused, was] using accepted
        simp only [Slot.isPinned, putRecord, hostRecord, Option.map_some, Option.getD_some, if_true]
        simp
        omega

theorem freeSlot_tableOk {t : Table} (h : TableOk t) {k : Nat} (inside : k < 96) : TableOk (freeSlot t k) :=
  setSlot_unpinned_tableOk h inside (fun r hr => by cases hr) (fun hp => by simp [Slot.isPinned] at hp)

/-! ### Observations and ageing -/

theorem drawnHazard_kind (o : Observation) (hz : Hazard) : (drawnHazard o hz).kind = hz.kind := by
  cases hz <;> rfl

theorem merged_pinned (o : Observation) (r : Record) : (merged o r).pinned = r.pinned := by
  unfold merged
  split <;> rfl

theorem merged_ok (o : Observation) {r : Record} (h : RecordOk r) : RecordOk (merged o r) := by
  cases source : r.source with
  | host => simpa [merged, source, hostMerged, RecordOk] using h
  | bump | cliff =>
    simp only [RecordOk, source] at h
    obtain ⟨unpinned, low, high, kind⟩ := h
    simp only [merged, source, sensedMerged, RecordOk, reduceCtorEq, if_false, drawnHazard_kind]
    exact ⟨unpinned, by omega, by omega, kind⟩

theorem newSensed_ok (cfg : Settings) (o : Observation) : RecordOk (newSensed cfg o) := by
  cases drop : o.isDrop <;> simp [newSensed, observedHazard, drop, RecordOk, Hazard.kind]

theorem newSensed_unpinned (cfg : Settings) (o : Observation) : (newSensed cfg o).pinned = false := rfl

theorem takeObservation_tableOk (o : Observation) {s : State} (h : TableOk s.table) :
    TableOk (takeObservation o s).state.table := by
  unfold takeObservation
  split
  next l found =>
    have live : IsLive s.table l :=
      (mem_liveRecords _ _).mp (List.mem_of_mem_filter (leastBy_mem _ _ _ found).1)
    simp only [tableChanged_table, takeMerge, offerNotice_table]
    refine setSlot_unpinned_tableOk h live.1 (fun r hr => ?_) fun pin => ?_
    · cases hr
      exact merged_ok o (isLive_recordOk h live)
    · simpa [Slot.isPinned, merged_pinned, record_of_isLive live] using pin
  · split
    next k free =>
      simp only [tableChanged_table, takeCreate, offerNotice_table, placeRecord]
      refine setSlot_unpinned_tableOk h ((lowestFree_iff _ _).mp free).1 (fun r hr => ?_) fun pin => ?_
      · cases hr
        exact newSensed_ok _ o
      · simp [Slot.isPinned, newSensed_unpinned] at pin
    · split
      next v found =>
        have live : IsLive s.table v :=
          (mem_liveRecords _ _).mp (List.mem_of_mem_filter (leastBy_mem _ _ _ found).1)
        simp only [tableChanged_table, takeReplace, offerNotice_table, replaceRecord]
        refine setSlot_unpinned_tableOk h live.1 (fun r hr => ?_) fun pin => ?_
        · cases hr
          exact newSensed_ok _ o
        · simp [Slot.isPinned, newSensed_unpinned] at pin
      · simpa using h

theorem aged_pinned (r : Record) : (aged r).pinned = r.pinned := by
  unfold aged
  split
  · split <;> rfl
  · rfl

theorem aged_ok {r : Record} (h : RecordOk r) (stays : fades r = false) : RecordOk (aged r) := by
  cases source : r.source with
  | host => simpa [aged, isSensed, source] using h
  | bump | cliff =>
    cases observed : r.observed with
    | true =>
      simp only [RecordOk, source] at h
      simpa [aged, isSensed, source, observed, RecordOk] using h
    | false =>
      simp only [fades, isSensed, source, observed] at stays
      simp only [RecordOk, source] at h
      obtain ⟨unpinned, low, high, kind⟩ := h
      simp at stays
      have unseen : aged r = { r with confidence := r.confidence - 1, age := min 255 (r.age + 1) } := by
        simp [aged, isSensed, source, observed]
      simp only [unseen, RecordOk, source]
      exact ⟨unpinned, by omega, by omega, kind⟩

theorem agedSlot_ok {x : Slot} (h : SlotOk x) : SlotOk (agedSlot x) := by
  intro r hr
  unfold agedSlot at hr
  split at hr
  next old live =>
    split at hr
    · cases hr
    next stays =>
      cases hr
      exact aged_ok (h old live) (by simpa using stays)
  next free => simp [free] at hr

theorem agedSlot_pinned {x : Slot} (h : (agedSlot x).isPinned = true) : x.isPinned = true := by
  unfold agedSlot at h
  split at h
  next old live =>
    split at h
    · simp [Slot.isPinned] at h
    · simpa [Slot.isPinned, live, aged_pinned] using h
  · exact h

theorem map_agedSlot_tableOk {t : Table} (h : TableOk t) : TableOk (t.map agedSlot) where
  records := by
    rw [Vector.toList_map]
    intro x hx
    obtain ⟨y, hy, rfl⟩ := List.mem_map.mp hx
    exact agedSlot_ok (h.records y hy)
  pinned_le := by
    rw [pinnedCount_eq, Vector.toList_map, List.countP_map]
    exact le_trans (List.countP_mono_left fun x _ hx => agedSlot_pinned hx) h.pinned_le

theorem foldl_offer_table (l : List Notice) (s : State) :
    (l.foldl (fun u n => offerNotice n u) s).table = s.table := by
  rw [foldl_offer_frame]

theorem ageingPass_table (s : State) :
    (ageingPass s).table = s.table ∨ (ageingPass s).table = s.table.map agedSlot := by
  unfold ageingPass
  split
  · exact .inr (by simp [foldl_offer_table])
  · exact .inl rfl

/-! ### The load at start-up -/

theorem loadTable_ok (hs : List Hazard) {k : Nat} {t : Table} (h : TableOk t) (room : pinnedCount t + hs.length ≤ 32)
    (inside : k + hs.length ≤ 96) : TableOk (loadTable k hs t) := by
  induction hs generalizing k t with
  | nil => exact h
  | cons hz hs ih =>
    simp only [List.length_cons] at room inside
    have count : pinnedCount (placeRecord t k (hostRecord hz true 0)) ≤ pinnedCount t + 1 := by
      rw [placeRecord, pinnedCount_setSlot t _ (by omega)]
      split_ifs <;> omega
    refine ih (setSlot_tableOk h (fun r hr => ?_) (le_trans count (by omega))) (by omega) (by omega)
    cases hr
    exact hostRecord_ok _ _ _

theorem imageHazards_length (cfg : Settings) (bytes : List Byte) :
    (imageHazards cfg bytes).length ≤ imageCount bytes := by
  refine le_trans (List.length_filterMap_le _ _) ?_
  rw [List.length_range]

theorem goodImage_count {nv : NvImage} {bytes : List Byte} (h : goodImage nv = some bytes) : imageCount bytes ≤ 32 := by
  unfold goodImage at h
  split at h
  · split at h
    next good =>
      cases h
      simp only [imageGood, Bool.and_eq_true, decide_eq_true_eq] at good
      exact good.1.1
    · cases h
  · cases h

theorem startUpTable_ok (nv : NvImage) : TableOk (startUpTable nv) := by
  unfold startUpTable
  split
  next bytes good =>
    have few := le_trans (imageHazards_length (imageSettings bytes) bytes) (goodImage_count good)
    have none_pinned : pinnedCount freshTable = 0 := by simp [pinnedCount, freshTable, freshSlot]
    exact loadTable_ok _ freshTable_ok (by omega) (by omega)
  · exact freshTable_ok

/-! ### Every command -/

/-- Every command on a ready part keeps the table sound. -/
theorem effect_tableOk {c : Instr} {act : State → State} {s : State} (effect : readyEffect c = some act)
    (h : TableOk s.table) : TableOk (act s).table := by
  cases c <;> first
    | cases effect <;> done
    | obtain rfl := Option.some.inj effect
  case recordPut slot generation kind flags order g8 g10 g12 g14 limit =>
    rcases recordPutEffect_cases slot generation kind flags order g8 g10 g12 g14 limit (acceptFrame s) with
      ⟨result, body, answered⟩ | ⟨k, hz, inside, put⟩
    · simp only [answered]
      exact h
    · simp only [put]
      rcases putAt_cases k hz (pinnedBit flags) (acceptFrame s) with ⟨result, body, answered⟩ | ⟨accepted, changed⟩
      · rw [answered]
        exact h
      · rw [changed]
        simpa using putTable_ok h inside hz accepted
  case recordRetire slot generation =>
    rcases recordRetireEffect_cases slot generation (acceptFrame s) with ⟨result, body, answered⟩ | ⟨inside, changed⟩
    · simp only [answered]
      exact h
    · simp only [changed]
      simpa using freeSlot_tableOk h inside
  case observation =>
    simp only [observationEffect]
    split
    · exact h
    next o rest held =>
      simpa using takeObservation_tableOk o (s := { s with ageing := { s.ageing with observations := rest } }) h
  case ageingTimerExpiry =>
    simp only [ageingEffect]
    split
    · rw [settle_table]
      rcases ageingPass_table { s with ageing := { s.ageing with timer := 0 } } with same | aged
      · rw [same]
        exact h
      · rw [aged]
        exact map_agedSlot_tableOk h
    · exact h
  all_goals simpa using h

theorem table_keptByParts : KeptByParts fun s => TableOk s.table where
  pending _ _ h := h
  choices _ _ h := h
  lines _ _ _ h := h
  discard _ _ _ _ h := h
  shift _ _ h := h
  start _ _ := startUpTable_ok _
  finish _ _ _ h := h
  loss _ _ := freshTable_ok
  tick s h := by
    unfold tick
    split <;> exact h
  effect _ act s effect _ h := show TableOk (act s).table from effect_tableOk effect h

/-- Settles O7: each write places a sound record, and the one that pins is refused where 32 are pinned. -/
theorem tableLawsAreKeptByStep : Obligations.TableLawsAreKeptByStep := by
  unfold Obligations.TableLawsAreKeptByStep
  exact table_keptByParts.byStep

end Sys2Proof.Machine
end

section
/-! What may become of the wheels between two slew steps: a setpoint stands or is set to 0, a direction level stands, and the
targets stand or are set to 0. Said once for each shared operation, and from those for each command. -/

namespace Sys2Proof.Machine

/-! ### A drive that no slew step has moved -/

/-- A wheel that no slew step has moved: its setpoint stands or was set to 0, and its direction level stands (R113). -/
structure WheelEased (w v : Wheel) : Prop where
  setpoint : v.setpoint = w.setpoint ∨ v.setpoint = 0
  forward : v.forward = w.forward

/-- A drive that no slew step has moved: the targets stand or were set to 0, and a stop that holds them at 0 did so before
or has set them to 0 (R107 to R110). -/
structure Eased (d e : Drive) : Prop where
  left : WheelEased d.wheels.left e.wheels.left
  right : WheelEased d.wheels.right e.wheels.right
  targets : (e.wheels.left.target = d.wheels.left.target ∧ e.wheels.right.target = d.wheels.right.target) ∨ TargetsZero e
  stopped : e.stop.holdsZero → d.stop.holdsZero ∨ TargetsZero e

/-- A drive whose setpoints stand too. -/
structure Stands (d e : Drive) : Prop extends Eased d e where
  left_stands : e.wheels.left.setpoint = d.wheels.left.setpoint
  right_stands : e.wheels.right.setpoint = d.wheels.right.setpoint

theorem WheelEased.refl (w : Wheel) : WheelEased w w := ⟨.inl rfl, rfl⟩

theorem WheelEased.trans {w v u : Wheel} (h : WheelEased w v) (k : WheelEased v u) : WheelEased w u where
  setpoint := by
    rcases k.setpoint with k | k
    · rw [k]
      exact h.setpoint
    · exact .inr k
  forward := k.forward.trans h.forward

theorem Eased.keepsZero {d e : Drive} (h : Eased d e) (zero : TargetsZero d) : TargetsZero e := by
  rcases h.targets with ⟨left, right⟩ | zero'
  · exact ⟨left.trans zero.left, right.trans zero.right⟩
  · exact zero'

theorem Eased.refl (d : Drive) : Eased d d := ⟨.refl _, .refl _, .inl ⟨rfl, rfl⟩, .inl⟩

theorem Eased.trans {d e f : Drive} (h : Eased d e) (k : Eased e f) : Eased d f where
  left := h.left.trans k.left
  right := h.right.trans k.right
  targets := by
    rcases h.targets with ⟨hl, hr⟩ | zero
    · rcases k.targets with ⟨kl, kr⟩ | zero
      · exact .inl ⟨kl.trans hl, kr.trans hr⟩
      · exact .inr zero
    · exact .inr (k.keepsZero zero)
  stopped := by
    intro holds
    rcases k.stopped holds with before | zero
    · exact (h.stopped before).imp_right k.keepsZero
    · exact .inr zero

theorem Stands.refl (d : Drive) : Stands d d := ⟨.refl d, rfl, rfl⟩

theorem Stands.trans {d e f : Drive} (h : Stands d e) (k : Stands e f) : Stands d f :=
  ⟨h.toEased.trans k.toEased, k.left_stands.trans h.left_stands, k.right_stands.trans h.right_stands⟩

/-- Wheels released by a stop that holds them at 0, or by none (R108 to R110, R114). -/
theorem eased_of_released {cfg : Settings} {d e : Drive} (h : WheelsReleased cfg d e) : Eased d e :=
  have zero : TargetsZero e := ⟨h.left_target, h.right_target⟩
  ⟨⟨.inr h.left_zero, h.left_level⟩, ⟨.inr h.right_zero, h.right_level⟩, .inr zero, fun _ => .inr zero⟩

/-- A wheel with the same setpoint, target and direction level. -/
structure SameMotion (w v : Wheel) : Prop where
  setpoint : v.setpoint = w.setpoint
  target : v.target = w.target
  forward : v.forward = w.forward

theorem stands_of_same {d e : Drive} (left : SameMotion d.wheels.left e.wheels.left)
    (right : SameMotion d.wheels.right e.wheels.right) (stop : e.stop.holdsZero → d.stop.holdsZero) : Stands d e :=
  ⟨⟨⟨.inl left.setpoint, left.forward⟩, ⟨.inl right.setpoint, right.forward⟩, .inl ⟨left.target, right.target⟩,
    fun h => .inl (stop h)⟩, left.setpoint, right.setpoint⟩

/-- The same wheels, under a stop that holds no target at 0 which did not before. -/
theorem stands_of_wheels {d e : Drive} (wheels : e.wheels = d.wheels) (stop : e.stop.holdsZero → d.stop.holdsZero) :
    Stands d e := by
  refine stands_of_same ?_ ?_ stop <;> rw [wheels] <;> exact ⟨rfl, rfl, rfl⟩

/-- One wheel written with the same motion. -/
theorem stands_of_set {d : Drive} (wheel : Side) {v : Wheel} (h : SameMotion (d.wheels.get wheel) v) :
    Stands d { d with wheels := d.wheels.set wheel v } := by
  cases wheel
  · exact stands_of_same h ⟨rfl, rfl, rfl⟩ id
  · exact stands_of_same ⟨rfl, rfl, rfl⟩ h id

/-! ### The stops -/

theorem zeroTargets_stands (d : Drive) (stop : Stop) (unjam : Option Unjam) :
    Stands d { zeroTargets d with stop := stop, unjam := unjam } :=
  ⟨⟨⟨.inl rfl, rfl⟩, ⟨.inl rfl, rfl⟩, .inr ⟨rfl, rfl⟩, fun _ => .inr ⟨rfl, rfl⟩⟩, rfl, rfl⟩

theorem beginRamp_stands (held : Bool) (d : Drive) : Stands d (beginRamp held d) := by
  unfold beginRamp
  split
  · exact zeroTargets_stands d _ _
  next base => exact stands_of_wheels rfl fun holds => absurd holds base

theorem combineStop_ramp_stands (cfg : Settings) (straight held : Bool) (d : Drive) :
    Stands d (combineStop cfg straight held .ramp d) := by
  unfold combineStop
  split <;> first
    | exact Stands.refl d
    | exact beginRamp_stands held d
    | contradiction

theorem combineStop_eased (cfg : Settings) (straight held : Bool) (kind : StopKind) (d : Drive) :
    Eased d (combineStop cfg straight held kind d) := by
  cases kind with
  | ramp => exact (combineStop_ramp_stands cfg straight held d).toEased
  | hard =>
    cases stop : d.stop <;> simp only [combineStop, stop] <;> first
      | exact eased_of_released (hardStop_released cfg d)
      | exact Eased.refl d
  | backoff =>
    cases stop : d.stop <;> simp only [combineStop, stop] <;> first
      | exact eased_of_released (hardStop_released cfg d)
      | exact Eased.refl d
      | (split
         · exact eased_of_released (backoffStop_released cfg d)
         · exact eased_of_released (hardStop_released cfg d))
  | release =>
    cases stop : d.stop <;> simp only [combineStop, stop] <;> first
      | exact eased_of_released (releaseStop_released cfg d)
      | exact Eased.refl d

theorem idleStop_eased (cfg : Settings) (kind : StopKind) (d : Drive) : Eased d (idleStop cfg kind d) := by
  cases kind with
  | release => exact eased_of_released (released_of_wheels (cfg := cfg) rfl rfl)
  | ramp | hard | backoff => exact Eased.refl d

/-- A forced rest of wheels that are at rest moves no setpoint (R114). -/
theorem forcedRest_stands (cfg : Settings) {d : Drive} (left : d.wheels.left.setpoint = 0)
    (right : d.wheels.right.setpoint = 0) : Stands d (forcedRest cfg d) :=
  ⟨eased_of_released (forcedRest_released cfg d), left.symm, right.symm⟩

/-! ### States -/

theorem atRest_iff (s : State) :
    s.atRest = true ↔ s.drive.wheels.left.setpoint = 0 ∧ s.drive.wheels.right.setpoint = 0 := by
  simp [State.atRest]

/-- From `s` to `t` the drive has gone as `R` says, and where `t` holds the wheels at rest and `s` does not, they have been
set to rest (R114). -/
structure Through (R : Drive → Drive → Prop) (s t : State) : Prop where
  drive : R s.drive t.drive
  config : t.config = s.config
  power : t.power = s.power
  held : t.heldAtRest = true → s.heldAtRest = true ∨ (t.atRest = true ∧ TargetsZero t.drive)

theorem Through.mono {R Q : Drive → Drive → Prop} {s t : State} (h : Through R s t) (sub : ∀ d e, R d e → Q d e) :
    Through Q s t := ⟨sub _ _ h.drive, h.config, h.power, h.held⟩

theorem Through.eased {s t : State} (h : Through Stands s t) : Through Eased s t := h.mono fun _ _ => Stands.toEased

theorem Eased.keepsRest {s t : State} (h : Eased s.drive t.drive) (rest : s.atRest = true) : t.atRest = true := by
  rw [atRest_iff] at rest ⊢
  obtain ⟨left, right⟩ := rest
  have le := h.left.setpoint
  have ri := h.right.setpoint
  rw [left] at le
  rw [right] at ri
  exact ⟨or_self_iff.mp le, or_self_iff.mp ri⟩

theorem Through.trans {R : Drive → Drive → Prop} (comp : ∀ d e f, R d e → R e f → R d f) (sub : ∀ d e, R d e → Eased d e)
    {s t u : State} (h : Through R s t) (k : Through R t u) : Through R s u where
  drive := comp _ _ _ h.drive k.drive
  config := k.config.trans h.config
  power := k.power.trans h.power
  held := by
    intro held
    rcases k.held held with before | rest
    · exact (h.held before).imp_right fun ⟨rest, zero⟩ =>
        ⟨(sub _ _ k.drive).keepsRest rest, (sub _ _ k.drive).keepsZero zero⟩
    · exact .inr rest

theorem Through.andThen {s t u : State} (h : Through Eased s t) (k : Through Eased t u) : Through Eased s u :=
  Through.trans (R := Eased) (fun _ _ _ => Eased.trans) (fun _ _ => id) h k

theorem Through.thenStands {s t u : State} (h : Through Stands s t) (k : Through Stands t u) : Through Stands s u :=
  Through.trans (R := Stands) (fun _ _ _ => Stands.trans) (fun _ _ => Stands.toEased) h k

/-- A change that leaves the mode and the lift switches holds the wheels at rest where they were held before. -/
theorem through_of_drive {R : Drive → Drive → Prop} {s t : State} (drive : R s.drive t.drive) (config : t.config = s.config)
    (power : t.power = s.power) (mode : t.modes.mode = s.modes.mode) (lifts : t.floor.lifts = s.floor.lifts) :
    Through R s t :=
  ⟨drive, config, power, fun held => .inl (by simpa [State.heldAtRest, State.lifted, mode, lifts] using held)⟩

theorem through_of_same {s t : State} (drive : t.drive = s.drive) (config : t.config = s.config) (power : t.power = s.power)
    (mode : t.modes.mode = s.modes.mode) (lifts : t.floor.lifts = s.floor.lifts) : Through Stands s t :=
  through_of_drive (by rw [drive]; exact Stands.refl _) config power mode lifts

theorem eased_of_same {s t : State} (drive : t.drive = s.drive) (config : t.config = s.config) (power : t.power = s.power)
    (mode : t.modes.mode = s.modes.mode) (lifts : t.floor.lifts = s.floor.lifts) : Through Eased s t :=
  (through_of_same drive config power mode lifts).eased

theorem through_refl (s : State) : Through Stands s s := through_of_same rfl rfl rfl rfl rfl

end Sys2Proof.Machine
end

section
/-! What each shared operation and each command does to the wheels: all but a control period leave the setpoints or set them
to 0, and settling leaves them. -/

namespace Sys2Proof.Machine

/-! ### Causes, evaluations, records, starts -/

theorem dropPendingResponse_lifts (kind : EndKind) (f : Floor) : (dropPendingResponse kind f).lifts = f.lifts := by
  unfold dropPendingResponse
  split <;> first
    | rfl
    | (split <;> rfl)

theorem requestStop_through (kind : StopKind) (s : State) : Through Eased s (requestStop kind s) := by
  unfold requestStop
  split
  · exact through_of_drive (combineStop_eased _ _ _ _ _) rfl rfl rfl rfl
  · exact through_of_drive (idleStop_eased _ _ _) rfl rfl rfl rfl

/-- The causes but LIFTED and STALL ask for a RAMP or for no stop (R90). -/
theorem stopForCause_ramp (cfg : Settings) (m : Motion) {kind : EndKind} (lifted : kind ≠ .lifted) (stall : kind ≠ .stall) :
    stopForCause cfg m kind = none ∨ stopForCause cfg m kind = some .ramp := by
  cases kind <;> simp_all [stopForCause]

theorem handCause_through (kind : EndKind) (record : Option Ref) (s : State) :
    Through Eased s (handCause kind record s) := by
  cases running : s.segments.running with
  | none =>
    rw [handCause_idle _ _ _ running]
    exact (through_refl s).eased
  | some c =>
    cases taken : takesCause c kind with
    | false =>
      rw [handCause_dropped _ _ _ c running taken]
      exact (through_refl s).eased
    | true =>
      rw [handCause_taken _ _ _ c running taken]
      refine through_of_drive ?_ rfl rfl rfl (dropPendingResponse_lifts kind s.floor)
      dsimp only
      split
      · exact combineStop_eased _ _ _ _ _
      · exact Eased.refl _

theorem handCause_stands {kind : EndKind} (record : Option Ref) (s : State) (lifted : kind ≠ .lifted)
    (stall : kind ≠ .stall) : Through Stands s (handCause kind record s) := by
  cases running : s.segments.running with
  | none =>
    rw [handCause_idle _ _ _ running]
    exact through_refl s
  | some c =>
    cases taken : takesCause c kind with
    | false =>
      rw [handCause_dropped _ _ _ c running taken]
      exact through_refl s
    | true =>
      rw [handCause_taken _ _ _ c running taken]
      refine through_of_drive ?_ rfl rfl rfl (dropPendingResponse_lifts kind s.floor)
      rcases stopForCause_ramp s.config c.segment.motion lifted stall with asked | asked <;> simp only [asked]
      · exact Stands.refl _
      · exact combineStop_ramp_stands _ _ _ _

theorem handCause_lifts (kind : EndKind) (record : Option Ref) (s : State) :
    (handCause kind record s).floor.lifts = s.floor.lifts := by
  cases running : s.segments.running with
  | none => rw [handCause_idle _ _ _ running]
  | some c =>
    cases taken : takesCause c kind with
    | false => rw [handCause_dropped _ _ _ c running taken]
    | true =>
      rw [handCause_taken _ _ _ c running taken]
      exact dropPendingResponse_lifts kind s.floor

theorem evaluate_stands (s : State) : Through Stands s (evaluate s) := by
  unfold evaluate
  split
  · exact through_of_same rfl rfl rfl rfl rfl
  next c _ =>
    have items : Through Stands s { s with clearance := evaluation s c } := through_of_same rfl rfl rfl rfl rfl
    unfold handPending
    split
    · exact items
    · exact items.thenStands (handCause_stands _ _ (by decide) (by decide))
    · exact items.thenStands (handCause_stands _ _ (by decide) (by decide))

theorem classify_stands (cause : NoticeCause) (s : State) : Through Stands s (classify cause s) :=
  through_of_same (by simp) (by simp) (by simp) (by simp) (by simp)

theorem classifySilently_stands (s : State) : Through Stands s (classifySilently s) :=
  through_of_same rfl rfl rfl rfl rfl

theorem tableChanged_stands (s : State) : Through Stands s (tableChanged s) :=
  (classify_stands .table s).thenStands (evaluate_stands _)

theorem writeRecord_stands (s : State) : Through Stands s (writeRecord s) := by
  unfold writeRecord
  split
  · split
    · exact through_of_drive (stands_of_wheels rfl False.elim) rfl rfl rfl rfl
    · exact through_refl s
  · exact through_refl s

theorem openContext_stands (g : Segment) (s : State) : Through Stands s (openContext g s) :=
  through_of_drive (stands_of_wheels rfl False.elim) rfl rfl rfl rfl

theorem startSegment_stands (s : State) : Through Stands s (startSegment s) := by
  unfold startSegment
  split
  · exact through_refl s
  next g _ _ =>
    have started : Through Stands s (evaluate (classifySilently (openContext g s))) :=
      (openContext_stands g s).thenStands
        ((classifySilently_stands _).thenStands (evaluate_stands _))
    unfold dockedAtStart
    split
    · exact started.thenStands (handCause_stands _ _ (by decide) (by decide))
    · exact started

/-! ### Transitions and settling -/

theorem forcedRest_atRest {s : State} (cfg : Settings) (d : Drive) (drive : s.drive = forcedRest cfg d) :
    s.atRest = true ∧ TargetsZero s.drive := by
  rw [atRest_iff, drive]
  exact ⟨⟨rfl, rfl⟩, ⟨rfl, rfl⟩⟩

/-- A state whose drive has been set to rest is one that may hold its wheels at rest (R114). -/
theorem through_of_rest {R : Drive → Drive → Prop} {s t : State} (drive : R s.drive t.drive) {cfg : Settings} {d : Drive}
    (rested : t.drive = forcedRest cfg d) (config : t.config = s.config) (power : t.power = s.power) : Through R s t :=
  ⟨drive, config, power, fun _ => .inr (forcedRest_atRest cfg d rested)⟩

theorem enterMode_through (m : Mode) (s : State) : Through Eased s (enterMode m s) := by
  cases rest : isRestMode m with
  | true =>
    rw [enterMode_rest m s rest]
    exact through_of_rest (eased_of_released (forcedRest_released _ _)) rfl rfl rfl
  | false =>
    rw [enterMode_moving m s rest]
    exact ⟨Eased.refl _, rfl, rfl, fun held => .inl (by
      simp only [State.heldAtRest, rest, Bool.false_or] at held
      simp only [State.heldAtRest, Bool.or_eq_true]
      exact .inr held)⟩

theorem enterMode_stands (m : Mode) {s : State} (rest : s.atRest = true) : Through Stands s (enterMode m s) := by
  have go := enterMode_through m s
  obtain ⟨left, right⟩ := (atRest_iff s).mp rest
  obtain ⟨left', right'⟩ := (atRest_iff _).mp (go.drive.keepsRest rest)
  exact ⟨⟨go.drive, left'.trans left.symm, right'.trans right.symm⟩, go.config, go.power, go.held⟩

theorem fallToHalted_through (reason : HaltReason) (s : State) : Through Eased s (fallToHalted reason s) :=
  through_of_rest (eased_of_released (forcedRest_released _ _)) rfl rfl rfl

theorem fallToHalted_stands (reason : HaltReason) {s : State} (rest : s.atRest = true) :
    Through Stands s (fallToHalted reason s) :=
  through_of_rest (forcedRest_stands _ ((atRest_iff s).mp rest).1 ((atRest_iff s).mp rest).2) rfl rfl rfl

theorem latchModeReached_stands (s : State) : Through Stands s (latchModeReached s) := through_of_same rfl rfl rfl rfl rfl

theorem leaveStopping_stands {s : State} (rest : s.atRest = true) : Through Stands s (leaveStopping s) := by
  unfold leaveStopping
  split
  · split
    · exact fallToHalted_stands _ rest
    · exact (enterMode_stands .config rest).thenStands (latchModeReached_stands _)
  · exact through_refl s

theorem atRest_of_canWrite {s : State} (due : s.canWrite = true) : s.atRest = true := by
  cases rest : s.atRest with
  | true => rfl
  | false => simp [canWrite_of_moving s rest] at due

theorem writeThenLeave_stands {s : State} (due : s.canWrite = true) :
    Through Stands s (leaveStopping (writeRecord s)) :=
  (writeRecord_stands s).thenStands
    (leaveStopping_stands ((writeRecord_stands s).drive.toEased.keepsRest (atRest_of_canWrite due)))

theorem settleLoop_stands (n : Nat) (s : State) : Through Stands s (settleLoop n s) := by
  induction n generalizing s with
  | zero => exact through_refl s
  | succ n ih =>
    unfold settleLoop
    split
    · refine Through.thenStands ?_ (ih _)
      unfold settleOnce
      split
      next due => exact writeThenLeave_stands due
      · split
        · exact startSegment_stands s
        · exact through_refl s
    · exact through_refl s

theorem parkIfDrained_stands (s : State) : Through Stands s (parkIfDrained s) := by
  unfold parkIfDrained
  split
  next due =>
    have rest : s.atRest = true := by
      have drained := due.2
      simp only [State.drained, Bool.and_eq_true] at drained
      exact drained.1.2
    exact (enterMode_stands .parked rest).thenStands (latchModeReached_stands _)
  · exact through_refl s

/-- Settling moves no setpoint: a transition in it forces to rest wheels that are at rest (R92, R169). -/
theorem settle_stands (s : State) : Through Stands s (settle s) :=
  (settleLoop_stands _ s).thenStands (parkIfDrained_stands _)

theorem settle_through {s t : State} (h : Through Eased s t) : Through Eased s (settle t) :=
  h.andThen (settle_stands t).eased

theorem writeIfDue_stands (s : State) : Through Stands s (writeIfDue s) := by
  unfold writeIfDue
  split
  · exact writeRecord_stands s
  · exact through_refl s

theorem writeDue_stands (s : State) : Through Stands s (writeDue s) := by
  unfold writeDue
  split
  next due => exact writeThenLeave_stands due
  · exact through_refl s

/-! ### Flushes and triggers -/

theorem flushWaiting_stands (s : State) : Through Stands s (flushWaiting s) := through_of_same rfl rfl rfl rfl rfl

theorem flushed_stands (kind : EndKind) (s : State) (lifted : kind ≠ .lifted) (stall : kind ≠ .stall) :
    Through Stands s (writeIfDue (handCause kind none (flushWaiting s))) :=
  (flushWaiting_stands s).thenStands ((handCause_stands none _ lifted stall).thenStands (writeIfDue_stands _))

theorem linkLost_through (s : State) : Through Eased s (linkLost s) := by
  have flushed := (flushed_stands .linkLost s (by decide) (by decide)).eased
  unfold linkLost
  dsimp only
  split
  · exact flushed.andThen (fallToHalted_through _ _)
  · exact flushed.andThen ((enterMode_through .stopping _).andThen (eased_of_same rfl rfl rfl rfl rfl))

theorem flushToConfig_through (s : State) : Through Eased s (flushToConfig s) := by
  have flushed := (flushed_stands .flushed s (by decide) (by decide)).eased
  unfold flushToConfig
  dsimp only
  split
  · exact flushed.andThen (enterMode_through _ _)
  · exact flushed.andThen (enterMode_through _ _)

theorem triggerCause_through (kind : EndKind) (o : Observation) (s : State) :
    Through Eased s (triggerCause kind o s) := by
  unfold triggerCause
  split
  · exact (through_refl s).eased
  · split
    · exact (handCause_through kind none s).andThen (eased_of_same rfl rfl rfl rfl (handCause_lifts kind none s).symm)
    · exact handCause_through kind none s

theorem fireTrigger_through (stop : Option StopKind) (cause : Option EndKind) (o : Observation) (s : State) :
    Through Eased s (fireTrigger stop cause o s) := by
  have hand (u : State) : Through Eased u (handObservation o u) := eased_of_same rfl rfl rfl rfl rfl
  unfold fireTrigger
  refine settle_through (Through.andThen (t := match cause with
    | some kind => triggerCause kind o (match stop with
      | some kind => requestStop kind s
      | none => s)
    | none => match stop with
      | some kind => requestStop kind s
      | none => s) ?_ (hand _))
  have asked : Through Eased s (match stop with
      | some kind => requestStop kind s
      | none => s) := by
    cases stop with
    | some kind => exact requestStop_through kind s
    | none => exact (through_refl s).eased
  cases cause with
  | some kind => exact asked.andThen (triggerCause_through kind o _)
  | none => exact asked

theorem liftTrigger_through (s : State) : Through Eased s (liftTrigger s) :=
  (requestStop_through .release s).andThen ((flushWaiting_stands _).eased.andThen
    ((handCause_through .lifted none _).andThen ((writeIfDue_stands _).eased.andThen (fallToHalted_through _ _))))

theorem becomeLifted_through {s u : State} (drive : u.drive = s.drive) (config : u.config = s.config)
    (power : u.power = s.power) :
    Through Eased s (becomeLifted u) := by
  have rested : Through Eased s { u with drive := forcedRest u.config u.drive } :=
    through_of_rest (by rw [← drive]; exact eased_of_released (forcedRest_released _ _)) rfl config power
  unfold becomeLifted
  dsimp only
  split
  · exact rested.andThen (liftTrigger_through _)
  · exact rested

end Sys2Proof.Machine
end

section
/-! What each command does to the wheels of a ready part. -/

namespace Sys2Proof.Machine

/-! ### The commands but the control period -/

theorem onAccepted {R : Drive → Drive → Prop} {s t : State} (h : Through R (acceptFrame s) t) : Through R s t :=
  ⟨h.drive, h.config, h.power, h.held⟩

/-- A request that is answered, after its work on the wheels. -/
theorem Through.answered {s t : State} (h : Through Eased s t) (code : Byte) (result : ResultCode) (body : List Byte) :
    Through Eased s (respond code result body t) := ⟨h.drive, h.config, h.power, h.held⟩

/-- Work on the wheels after a change of another part of the state. -/
theorem Through.fromSame {s t u : State} (k : Through Eased t u) (drive : t.drive = s.drive) (config : t.config = s.config)
    (power : t.power = s.power) (mode : t.modes.mode = s.modes.mode) (lifts : t.floor.lifts = s.floor.lifts) :
    Through Eased s u := (eased_of_same drive config power mode lifts).andThen k

theorem answered_eased (code : Byte) (result : ResultCode) (body : List Byte) (s : State) :
    Through Eased s (respond code result body s) := eased_of_same rfl rfl rfl rfl rfl

theorem putAt_eased (k : Nat) (h : Hazard) (pinned : Bool) (s : State) : Through Eased s (putAt k h pinned s) := by
  rcases putAt_cases k h pinned s with ⟨result, body, answered⟩ | ⟨-, changed⟩
  · rw [answered]
    exact answered_eased _ _ _ _
  · rw [changed]
    exact settle_through ((tableChanged_stands _).eased.fromSame rfl rfl rfl rfl rfl)

theorem cancelRunning_eased (tag : Byte) (s : State) : Through Eased s (cancelRunning tag s) := by
  have cancelled : Through Stands (markCancelled s) (writeDue (handCause .cancelled none (markCancelled s))) :=
    (handCause_stands none _ (by decide) (by decide)).thenStands (writeDue_stands _)
  have from_s : Through Eased s (writeDue (handCause .cancelled none (markCancelled s))) :=
    cancelled.eased.fromSame rfl rfl rfl rfl rfl
  exact settle_through (from_s.answered _ _ _)

theorem restartState_through (s : State) : Through Eased s (restartState s) := by
  have released : WheelsReleased s.config s.drive (restartDrive s.config s.drive) := released_of_wheels rfl rfl
  refine ⟨eased_of_released released, rfl, rfl, fun _ => .inr ⟨?_, ?_⟩⟩
  · exact (atRest_iff _).mpr ⟨rfl, rfl⟩
  · exact ⟨rfl, rfl⟩

theorem sameMotion_reloadStall (cfg : Settings) (rug : Bool) (w : Wheel) : SameMotion w (reloadStall cfg rug w) :=
  ⟨rfl, rfl, rfl⟩

theorem reloadWheel_stands (wheel : Side) (s : State) : Through Stands s (reloadWheel wheel s) :=
  through_of_drive (stands_of_set wheel (sameMotion_reloadStall _ _ _)) rfl rfl rfl rfl

theorem startUnjam_stands (s : State) : Through Stands s (startUnjam s) :=
  through_of_drive (stands_of_same ⟨rfl, rfl, rfl⟩ ⟨rfl, rfl, rfl⟩ id) rfl rfl rfl rfl

theorem stallExpired_through (wheel : Side) (s : State) : Through Eased s (stallExpired wheel s) := by
  have stalled (u : State) : Through Eased u (reloadWheel wheel (handCause .stall none u)) :=
    (handCause_through .stall none u).andThen (reloadWheel_stands wheel _).eased
  unfold stallExpired
  split
  · exact (reloadWheel_stands wheel s).eased
  · split
    · split
      · exact (startUnjam_stands s).eased
      · exact stalled s
    · split
      · exact (requestStop_through .hard s).andThen (handCause_through .stall none _)
      · exact stalled s

theorem takeObservation_stands (o : Observation) (s : State) : Through Stands s (takeObservation o s).state := by
  unfold takeObservation
  split
  · exact Through.thenStands
      (through_of_same (by simp [takeMerge]) (by simp [takeMerge]) (by simp [takeMerge]) (by simp [takeMerge])
        (by simp [takeMerge])) (tableChanged_stands _)
  · split
    · exact Through.thenStands
        (through_of_same (by simp [takeCreate]) (by simp [takeCreate]) (by simp [takeCreate]) (by simp [takeCreate])
          (by simp [takeCreate])) (tableChanged_stands _)
    · split
      · exact Through.thenStands
          (through_of_same (by simp [takeReplace]) (by simp [takeReplace]) (by simp [takeReplace]) (by simp [takeReplace])
            (by simp [takeReplace])) (tableChanged_stands _)
      · exact through_of_same (by simp) (by simp) (by simp) (by simp) (by simp)

theorem deliver_stands (ref : Option Ref) (s : State) : Through Stands s (deliver ref s) := by
  unfold deliver
  split <;> exact through_of_same rfl rfl rfl rfl rfl

theorem ageingPass_stands (s : State) : Through Stands s (ageingPass s) := by
  unfold ageingPass
  split
  · refine Through.thenStands ?_ (tableChanged_stands _)
    rw [foldl_offer_frame]
    exact through_of_same rfl rfl rfl rfl rfl
  · exact through_refl s

theorem handDocked_stands (s : State) : Through Stands s (handDocked s) := by
  unfold handDocked
  split
  · split
    · exact handCause_stands none s (by decide) (by decide)
    · exact through_refl s
  · exact through_refl s

theorem pressCompleted_through (side : Side) (s : State) : Through Eased s (pressCompleted side s) := by
  have set (side : Side) (b : Bumper) (s : State) : Through Eased s (setBumper side b s) :=
    eased_of_same rfl rfl rfl rfl rfl
  unfold pressCompleted
  dsimp only
  split
  · split
    · exact (set _ _ _).andThen ((set _ _ _).andThen (fireTrigger_through _ _ _ _))
    · exact (set _ _ _).andThen (fireTrigger_through _ _ _ _)
  · exact set _ _ _

/-- A lift switch that takes its level, where the part does not become lifted by it (R129). -/
theorem notLifted_eased {s t : State} (drive : t.drive = s.drive) (config : t.config = s.config) (power : t.power = s.power)
    (modes : t.modes = s.modes) (stays : t.lifted = true → s.lifted = true) : Through Eased s t :=
  ⟨by rw [drive]; exact Eased.refl _, config, power, fun held => .inl (by
    simp only [State.heldAtRest, modes, Bool.or_eq_true] at held ⊢
    exact held.imp_right stays)⟩

theorem liftLine_lifted (side : Side) (level : Bool) (s : State) : (liftLineEffect side level s).lifted = s.lifted := by
  have kept (w : Switch) : (lineChanged level w).debounced = w.debounced := by
    unfold lineChanged
    split <;> rfl
  cases side <;> simp [State.lifted, liftLineEffect, Pair.set, Pair.get, kept]

theorem liftDebounce_through (side : Side) (s : State) : Through Eased s (liftDebounceEffect side s) := by
  unfold liftDebounceEffect
  dsimp only
  split
  · exact (through_refl s).eased
  · split
    · exact becomeLifted_through rfl rfl rfl
    next stays =>
      refine notLifted_eased rfl rfl rfl rfl fun lifted => ?_
      simp only [not_and, Bool.not_eq_true] at stays
      cases was : s.lifted with
      | true => rfl
      | false => exact absurd lifted (by simpa [was] using stays)

/-! ### The control period -/

theorem periodUpdate_stands (s : State) : Through Stands s (periodUpdate s) := by
  have sampledTicks : Through Stands s
      { s with
        pose := odometry s.config (sampled s.pose.ticks.left) (sampled s.pose.ticks.right) s.pose
        drive := { s.drive with periodMs := 0 } } :=
    through_of_drive (stands_of_wheels rfl id) rfl rfl rfl rfl
  exact sampledTicks.thenStands (classify_stands _ _)

theorem takeProgress_stands (tag : Option Nat) (h : Handed) (s : State) : Through Stands s (takeProgress tag h s) := by
  unfold takeProgress
  split
  · exact through_refl s
  next c _ =>
    split
    · have grown : Through Stands s { s with segments := { s.segments with
          running := some { c with progress := grownProgress h c } } } := through_of_same rfl rfl rfl rfl rfl
      dsimp only
      split
      next kind ending =>
        have own : kind ≠ .lifted ∧ kind ≠ .stall := by
          unfold ownEnding at ending
          repeat' split at ending
          all_goals cases ending <;> decide
        exact grown.thenStands (handCause_stands none _ own.1 own.2)
      · exact grown
    · exact through_refl s

theorem takeBackoff_stands (h : Handed) (s : State) : Through Stands s (takeBackoff h s) := by
  unfold takeBackoff
  split
  · refine through_of_drive ?_ rfl rfl rfl rfl
    dsimp only
    split
    · exact zeroTargets_stands _ _ _
    · exact stands_of_wheels rfl False.elim
  · exact through_refl s

/-- Of the four parts of a control period, the slew step alone moves the setpoints (R102). -/
theorem periodPart_stands (tag : Option Nat) (h : Handed) {part : PeriodPart} (s : State) (noSlew : part ≠ .slew) :
    Through Stands s (periodPart tag h part s) := by
  cases part with
  | segment => exact (takeProgress_stands tag h s).thenStands (settle_stands _)
  | drive => exact (takeBackoff_stands h s).thenStands (settle_stands _)
  | monitor => exact (evaluate_stands s).thenStands (settle_stands _)
  | slew => exact absurd rfl noSlew

theorem periodParts_stand (tag : Option Nat) (h : Handed) (parts : List PeriodPart) (s : State)
    (noSlew : PeriodPart.slew ∉ parts) : Through Stands s (parts.foldl (fun t part => periodPart tag h part t) s) := by
  induction parts generalizing s with
  | nil => exact through_refl s
  | cons part parts ih =>
    have notSlew : part ≠ .slew := fun is => noSlew (is ▸ List.mem_cons_self)
    exact (periodPart_stands tag h s notSlew).thenStands (ih _ fun mem => noSlew (List.mem_cons_of_mem _ mem))

theorem orderOf_perm (order : List PeriodPart) : (orderOf order).Perm canonicalOrder := by
  unfold orderOf
  split
  next perm => exact List.isPerm_iff.mp perm
  · exact List.Perm.refl _

/-- A control period names its slew step once (log 7). -/
theorem orderOf_split (order : List PeriodPart) :
    ∃ before after, orderOf order = before ++ .slew :: after ∧ PeriodPart.slew ∉ before ∧ PeriodPart.slew ∉ after := by
  have perm := orderOf_perm order
  obtain ⟨before, after, split⟩ := List.append_of_mem (perm.mem_iff.mpr (by decide : PeriodPart.slew ∈ canonicalOrder))
  have nodup : (orderOf order).Nodup := perm.nodup_iff.mpr (by decide)
  rw [split, List.nodup_append] at nodup
  obtain ⟨-, tail, apart⟩ := nodup
  exact ⟨before, after, split, fun mem => apart _ mem _ List.mem_cons_self rfl, (List.nodup_cons.mp tail).1⟩

/-- How a command moves the wheels of a ready part. -/
inductive DriveStep (s t : State) : Prop where
  /-- no slew step -/
  | eased : Through Eased s t → DriveStep s t
  /-- CONFIG_SET, in CONFIG -/
  | configured : s.heldAtRest = true → t.drive = s.drive → t.heldAtRest = true → t.power = s.power → DriveStep s t
  /-- a control period, with its one slew step -/
  | period (u : State) : Through Stands s u → Through Stands (slewStep u) t → DriveStep s t

theorem controlPeriod_driveStep (order : List PeriodPart) (s : State) : ∃ u,
    Through Stands s u ∧ Through Stands (slewStep u) (controlPeriodEffect order s) := by
  obtain ⟨before, after, split, first, last⟩ := orderOf_split order
  refine ⟨before.foldl (fun t part => periodPart s.runningTag (handedOn s) part t) (periodUpdate s), ?_, ?_⟩
  · exact (periodUpdate_stands s).thenStands (periodParts_stand _ _ before _ first)
  · simp only [controlPeriodEffect, split, List.foldl_append, List.foldl_cons]
    exact (settle_stands _).thenStands (periodParts_stand _ _ after _ last)

theorem configSet_driveStep (it : Byte) (value : Half) (s : State) :
    DriveStep s (configSetEffect it value (acceptFrame s)) := by
  by_cases config : s.modes.mode = .config
  · have held : s.heldAtRest = true := by simp [State.heldAtRest, config, isRestMode]
    exact .configured held (by simp) (by simpa [State.heldAtRest, State.lifted] using held) (by simp)
  · have refused : configSetEffect it value (acceptFrame s) = respond 0x02 .mode [] (acceptFrame s) :=
      if_pos config
    rw [refused]
    exact .eased (onAccepted (answered_eased _ _ _ _))

theorem modeActive_eased (s : State) : Through Eased s (modeActiveEffect s) := by
  simp only [modeActiveEffect, refuseMode, refuseCondition, answerMode]
  split
  · exact answered_eased _ _ _ _
  · split
    · exact answered_eased _ _ _ _
    · exact settle_through ((enterMode_through _ _).answered _ _ _)

theorem resume_eased (s : State) : Through Eased s (resumeEffect s) := by
  simp only [resumeEffect, refuseMode, refuseCondition, answerMode]
  split
  · exact answered_eased _ _ _ _
  · split
    · exact answered_eased _ _ _ _
    · exact settle_through ((enterMode_through _ _).answered _ _ _)

theorem modeConfig_eased (s : State) : Through Eased s (modeConfigEffect s) := by
  simp only [modeConfigEffect, refuseMode, answerMode]
  split
  · exact answered_eased _ _ _ _
  · exact (enterMode_through _ _).answered _ _ _
  · exact (enterMode_through _ _).answered _ _ _
  · exact (flushToConfig_through _).answered _ _ _

theorem park_eased (s : State) : Through Eased s (parkEffect s) := by
  simp only [parkEffect, refuseMode, answerMode]
  split
  · exact answered_eased _ _ _ _
  · split
    · exact (enterMode_through _ _).answered _ _ _
    · exact settle_through ((enterMode_through _ _).answered _ _ _)

theorem enterWaking_through (s : State) : Through Eased s (enterWaking s) :=
  (enterMode_through .waking s).andThen (eased_of_same rfl rfl rfl rfl rfl)

theorem wake_eased (s : State) : Through Eased s (wakeEffect s) := by
  simp only [wakeEffect, refuseMode, refuseCondition, answerMode]
  split
  · exact answered_eased _ _ _ _
  · split
    · exact answered_eased _ _ _ _
    · exact (enterWaking_through s).answered _ _ _

theorem wakeTimer_eased (s : State) : Through Eased s (wakeTimerEffect s) := by
  simp only [wakeTimerEffect]
  split
  · exact settle_through ((enterMode_through _ _).andThen (latchModeReached_stands _).eased)
  · exact (through_refl s).eased

theorem restart_eased (s : State) : Through Eased s (restartEffect s) := by
  simp only [restartEffect]
  split
  · exact answered_eased _ _ _ _
  · exact (restartState_through _).answered _ _ _

theorem recordPut_eased (slot generation kind flags order : Byte) (g8 g10 g12 g14 limit : Half) (s : State) :
    Through Eased s (recordPutEffect slot generation kind flags order g8 g10 g12 g14 limit s) := by
  rcases recordPutEffect_cases slot generation kind flags order g8 g10 g12 g14 limit s with
    ⟨result, body, answered⟩ | ⟨k, hz, -, put⟩
  · simp only [answered]
    exact answered_eased _ _ _ _
  · simp only [put]
    exact putAt_eased _ _ _ _

theorem recordRetire_eased (slot generation : Byte) (s : State) :
    Through Eased s (recordRetireEffect slot generation s) := by
  rcases recordRetireEffect_cases slot generation s with ⟨result, body, answered⟩ | ⟨-, changed⟩
  · simp only [answered]
    exact answered_eased _ _ _ _
  · simp only [changed]
    exact settle_through ((tableChanged_stands _).eased.fromSame rfl rfl rfl rfl rfl)

theorem poseSet_eased (x y heading u : Half) (s : State) :
    Through Eased s (poseSetEffect x y heading u s) :=
  settle_through
    (((classify_stands .poseFix _).thenStands (evaluate_stands _)).eased.fromSame rfl rfl rfl rfl rfl)

theorem segmentAdd_eased (tag kind direction hold : Byte) (amount speed : Half) (s : State) :
    Through Eased s (segmentAddEffect tag kind direction hold amount speed s) := by
  rcases segmentAddEffect_cases tag kind direction hold amount speed s with
    ⟨result, body, answered⟩ | ⟨m, -, -, -, joined⟩
  · simp only [answered]
    exact answered_eased _ _ _ _
  · simp only [joined]
    exact settle_through (eased_of_same rfl rfl rfl rfl rfl)

theorem segmentCancel_eased (tag : Byte) (s : State) : Through Eased s (segmentCancelEffect tag s) := by
  rcases segmentCancelEffect_cases tag s with ⟨result, body, answered⟩ | running | ⟨g, -, waiting⟩
  · simp only [answered]
    exact answered_eased _ _ _ _
  · simp only [running]
    exact cancelRunning_eased _ _
  · simp only [waiting]
    exact settle_through (eased_of_same rfl rfl rfl rfl rfl)

theorem segmentFlush_eased (s : State) : Through Eased s (segmentFlushEffect s) :=
  settle_through ((answered_eased _ _ _ _).andThen
    ((flushWaiting_stands _).thenStands (handCause_stands none _ (by decide) (by decide))).eased)

theorem doubleStall_stands (wheel : Side) (t : StallTimer) (s : State) : Through Stands s (doubleStall wheel t s) :=
  through_of_drive (stands_of_set wheel ⟨rfl, rfl, rfl⟩) rfl rfl rfl rfl

theorem clearGuard_stands (wheel : Side) (s : State) : Through Stands s (clearGuard wheel s) :=
  through_of_drive (stands_of_set wheel ⟨rfl, rfl, rfl⟩) rfl rfl rfl rfl

theorem stallTimer_eased (wheel : Side) (s : State) : Through Eased s (stallTimerEffect wheel s) := by
  simp only [stallTimerEffect]
  split
  · exact (through_refl s).eased
  · split
    · exact (doubleStall_stands _ _ _).eased
    · exact settle_through (stallExpired_through wheel s)

theorem guard_eased (wheel : Side) (s : State) : Through Eased s (guardEffect wheel s) := by
  simp only [guardEffect]
  split
  · exact settle_through (clearGuard_stands wheel s).eased
  · exact (through_refl s).eased

theorem cliff_eased (sensor : CliffSensor) (reflectance : Byte) (s : State) :
    Through Eased s (cliffEffect sensor reflectance s) := by
  simp only [cliffEffect]
  split
  · split
    · exact (fireTrigger_through _ _ _ _).fromSame rfl rfl rfl rfl rfl
    · exact eased_of_same rfl rfl rfl rfl rfl
  · exact (through_refl s).eased

theorem bumperDebounce_eased (side : Side) (s : State) : Through Eased s (bumperDebounceEffect side s) := by
  simp only [bumperDebounceEffect]
  split
  · exact (through_refl s).eased
  · split
    · exact pressCompleted_through side s
    · exact eased_of_same rfl rfl rfl rfl rfl

theorem observation_eased (s : State) : Through Eased s (observationEffect s) := by
  simp only [observationEffect]
  split
  · exact (through_refl s).eased
  · exact settle_through
      (((takeObservation_stands _ _).thenStands (deliver_stands _ _)).eased.fromSame rfl rfl rfl rfl rfl)

theorem ageing_eased (s : State) : Through Eased s (ageingEffect s) := by
  simp only [ageingEffect]
  split
  · exact settle_through ((ageingPass_stands _).eased.fromSame rfl rfl rfl rfl rfl)
  · exact (through_refl s).eased

theorem dockSettle_eased (s : State) : Through Eased s (dockSettleEffect s) := by
  simp only [dockSettleEffect]
  split
  · exact settle_through (Through.andThen
      (eased_of_same (by simp) (by simp) (by simp) (by simp) (by simp)) (handDocked_stands _).eased)
  · exact (through_refl s).eased

theorem undockWait_eased (s : State) : Through Eased s (undockWaitEffect s) := by
  simp only [undockWaitEffect]
  split
  · exact settle_through (eased_of_same rfl rfl rfl rfl rfl)
  · exact (through_refl s).eased

theorem pauseTimer_eased (s : State) : Through Eased s (pauseTimerEffect s) := by
  simp only [pauseTimerEffect]
  split
  · split
    · exact settle_through ((handCause_through .completed none _).fromSame rfl rfl rfl rfl rfl)
    · exact (through_refl s).eased
  · exact (through_refl s).eased

theorem linkSilence_eased (s : State) : Through Eased s (linkSilenceEffect s) := by
  simp only [linkSilenceEffect]
  split
  · split
    · exact settle_through ((linkLost_through _).fromSame rfl rfl rfl rfl rfl)
    · exact eased_of_same rfl rfl rfl rfl rfl
  · exact (through_refl s).eased

theorem segmentStart_eased (s : State) : Through Eased s (segmentStartEffect s) := by
  simp only [segmentStartEffect]
  split
  · exact settle_through (startSegment_stands s).eased
  · exact (through_refl s).eased

theorem completionWrite_eased (s : State) : Through Eased s (completionWriteEffect s) := by
  simp only [completionWriteEffect]
  split
  next due => exact settle_through (writeThenLeave_stands due).eased
  · exact (through_refl s).eased

theorem store_eased (s : State) : Through Eased s (storeEffect s) := by
  simp only [storeEffect]
  repeat' split
  all_goals exact eased_of_same rfl rfl rfl rfl rfl

theorem storeEnd_eased (readBack : Option (List Byte)) (s : State) : Through Eased s (storeEndEffect readBack s) := by
  simp only [storeEndEffect]
  split
  · exact (through_refl s).eased
  · exact eased_of_same rfl rfl rfl rfl rfl

theorem effect_driveStep {c : Instr} {act : State → State} (s : State) (effect : readyEffect c = some act) :
    DriveStep s (act s) := by
  cases c <;> first
    | cases effect <;> done
    | obtain rfl := Option.some.inj effect
  case controlPeriodExpiry order =>
    obtain ⟨u, before, after⟩ := controlPeriod_driveStep order s
    exact .period u before after
  case configSet it value => exact configSet_driveStep it value s
  all_goals refine .eased ?_
  case modeActive => exact onAccepted (modeActive_eased _)
  case resume => exact onAccepted (resume_eased _)
  case modeConfig => exact onAccepted (modeConfig_eased _)
  case park => exact onAccepted (park_eased _)
  case wake => exact onAccepted (wake_eased _)
  case wakeTimerExpiry => exact wakeTimer_eased s
  case restart => exact onAccepted (restart_eased _)
  case recordPut slot generation kind flags order g8 g10 g12 g14 limit =>
    exact onAccepted (recordPut_eased slot generation kind flags order g8 g10 g12 g14 limit _)
  case recordRetire slot generation => exact onAccepted (recordRetire_eased slot generation _)
  case poseSet x y heading u => exact onAccepted (poseSet_eased x y heading u _)
  case segmentAdd tag kind direction hold amount speed =>
    exact onAccepted (segmentAdd_eased tag kind direction hold amount speed _)
  case segmentCancel tag => exact onAccepted (segmentCancel_eased tag _)
  case segmentFlush => exact onAccepted (segmentFlush_eased _)
  case encoderEdge wheel a b =>
    refine through_of_drive ?_ rfl rfl rfl rfl
    simp only [encoderEffect, tickReload]
    split
    · exact Eased.refl _
    · exact (stands_of_set wheel (sameMotion_reloadStall _ _ _)).toEased
  case stallTimerExpiry wheel => exact stallTimer_eased wheel s
  case unjamEnd =>
    simp only [unjamEndEffect]
    split
    · exact through_of_drive (Stands.toEased (stands_of_wheels rfl id)) rfl rfl rfl rfl
    · exact (through_refl s).eased
  case reversalGuardExpiry wheel => exact guard_eased wheel s
  case cliffSample sensor reflectance => exact cliff_eased sensor reflectance s
  case bumperDebounceExpiry side => exact bumperDebounce_eased side s
  case bumperLineChange side pressed => exact eased_of_same rfl rfl rfl rfl rfl
  case liftLineChange side active =>
    refine notLifted_eased rfl rfl rfl rfl fun lifted => ?_
    rw [liftLine_lifted] at lifted
    exact lifted
  case liftDebounceExpiry side => exact liftDebounce_through side s
  case observation => exact observation_eased s
  case ageingTimerExpiry => exact ageing_eased s
  case dockSettleExpiry => exact dockSettle_eased s
  case undockWaitExpiry => exact undockWait_eased s
  case pauseTimerExpiry => exact pauseTimer_eased s
  case linkSilenceExpiry => exact linkSilence_eased s
  case segmentStart => exact segmentStart_eased s
  case completionRecordWrite => exact completionWrite_eased s
  case store => exact onAccepted (store_eased _)
  case storeEnd readBack => exact storeEnd_eased readBack s
  all_goals exact eased_of_same (by simp) (by simp) (by simp) (by simp) (by simp)

end Sys2Proof.Machine
end

section
/-! The slew step, and what every step keeps of the wheels: setpoints and targets in their limits (R103, R105, R114), the
direction levels and the output lines (R113, R158, R164, R183). -/

namespace Sys2Proof.Machine

/-! ### One setpoint -/

/-- A slew step moves a setpoint by at most one step (R103). -/
theorem slewed_moves (cfg : Settings) (g : Option Guard) (v target : Int) :
    (slewed cfg g v target - v).natAbs ≤ max (accelStep cfg) (decelStep cfg) := by
  simp only [slewed, approach]
  split_ifs <;> omega

/-- A slew step toward a target within a limit stays within it (R103). -/
theorem slewed_within (cfg : Settings) (g : Option Guard) {v target : Int} {limit : Nat} (start : v.natAbs ≤ limit)
    (goal : target.natAbs ≤ limit) : (slewed cfg g v target).natAbs ≤ limit := by
  simp only [slewed, approach]
  split_ifs <;> omega

theorem clampTo_within (limit : Nat) (v : Int) : (clampTo (-(limit : Int)) limit v).natAbs ≤ limit := by
  unfold clampTo
  split_ifs <;> omega

theorem clampTo_zero (limit : Nat) : clampTo (-(limit : Int)) limit 0 = 0 := by
  unfold clampTo
  split_ifs <;> omega

theorem slewWheel_setpoint (cfg : Settings) (rug : Bool) (target : Int) (w : Wheel) :
    (slewWheel cfg rug target w).setpoint =
      slewed cfg w.guard w.setpoint (clampTo (-(speedMax cfg : Int)) (speedMax cfg) target) := rfl

theorem slewWheel_target (cfg : Settings) (rug : Bool) (target : Int) (w : Wheel) :
    (slewWheel cfg rug target w).target = clampTo (-(speedMax cfg : Int)) (speedMax cfg) target := rfl

/-- The direction level after a slew step: the sign of a setpoint that is not 0, the old level of one that is (R113). -/
theorem slewWheel_forward (cfg : Settings) (rug : Bool) (target : Int) (w : Wheel) :
    (slewWheel cfg rug target w).forward = if (slewWheel cfg rug target w).setpoint = 0 then w.forward
      else decide (0 < (slewWheel cfg rug target w).setpoint) := rfl

/-! ### The slew step -/

/-- The state whose stop a slew step has advanced. -/
def advanced (s : State) : State := { s with drive := { s.drive with stop := advanceStop s.config s.drive.stop } }

theorem slewStep_stop (s : State) : (slewStep s).drive.stop = advanceStop s.config s.drive.stop := rfl

theorem slewStep_heldAtRest (s : State) : (slewStep s).heldAtRest = s.heldAtRest := rfl

theorem slewStep_of_held {s : State} (held : s.heldAtRest = true) :
    (slewStep s).drive.wheels = s.drive.wheels.map (restWheel s.config) := if_pos held

theorem slewStep_of_free {s : State} (free : s.heldAtRest = false) :
    (slewStep s).drive.wheels = slewWheels (advanced s) :=
  if_neg (show ¬ (advanced s).heldAtRest = true by simpa [advanced, State.heldAtRest, State.lifted] using free)

theorem slewStep_rest {s : State} (held : s.heldAtRest = true) :
    (slewStep s).atRest = true ∧ TargetsZero (slewStep s).drive := by
  rw [atRest_iff, slewStep_of_held held]
  exact ⟨⟨rfl, rfl⟩, ⟨by rw [slewStep_of_held held]; rfl, by rw [slewStep_of_held held]; rfl⟩⟩

theorem slewStep_driveOk {s : State} (h : DriveOk s) : DriveOk (slewStep s) := by
  cases held : s.heldAtRest with
  | true =>
    obtain ⟨left, right⟩ := (atRest_iff _).mp (slewStep_rest held).1
    exact ⟨by rw [left]; exact Nat.zero_le _, by rw [right]; exact Nat.zero_le _, fun _ => (slewStep_rest held).1,
      h.start_up⟩
  | false =>
    refine ⟨?_, ?_, fun held' => absurd held' (by simp [slewStep_heldAtRest, held]), h.start_up⟩
    · rw [slewStep_of_free held]
      exact slewed_within _ _ h.left_le (clampTo_within _ _)
    · rw [slewStep_of_free held]
      exact slewed_within _ _ h.right_le (clampTo_within _ _)

/-- A stop that holds the targets at 0 calls for targets of 0 (R105, R107, R110). -/
theorem slewTargets_of_holdsZero {s : State} (holds : s.drive.stop.holdsZero) : slewTargets s = bothTargets 0 := by
  unfold slewTargets
  cases stop : s.drive.stop with
  | none => simp [stop, Stop.holdsZero] at holds
  | backoffReverse p => simp [stop, Stop.holdsZero] at holds
  | ramp base =>
    cases base with
    | none => rfl
    | some r =>
      have zero : r = 0 := by simpa [stop, Stop.holdsZero] using holds
      subst zero
      cases hold : s.holdTarget <;> simp [steered, correction, bothTargets, clampTo]
      omega
  | hard | release | backoffHalt | backoffClose => rfl

theorem slewStep_targetsOk {s : State} : TargetsOk (slewStep s) := by
  cases held : s.heldAtRest with
  | true =>
    have zero := (slewStep_rest held).2
    exact ⟨by rw [zero.left]; exact Nat.zero_le _, by rw [zero.right]; exact Nat.zero_le _, fun _ => zero, fun _ => zero⟩
  | false =>
    refine ⟨?_, ?_, fun held' => absurd held' (by simp [slewStep_heldAtRest, held]), fun holds => ?_⟩
    · rw [slewStep_of_free held]
      exact clampTo_within _ _
    · rw [slewStep_of_free held]
      exact clampTo_within _ _
    · have zero : slewTargets (advanced s) = bothTargets 0 := slewTargets_of_holdsZero holds
      constructor <;>
      · rw [slewStep_of_free held]
        simp only [slewWheels, zero, bothTargets, slewWheel_target, clampTo_zero]

/-- A direction level follows its setpoint where that is not 0 (R113). -/
def WheelFollows (w : Wheel) : Prop := (0 < w.setpoint → w.forward = true) ∧ (w.setpoint < 0 → w.forward = false)

theorem slewWheel_follows (cfg : Settings) (rug : Bool) (target : Int) (w : Wheel) :
    WheelFollows (slewWheel cfg rug target w) := by
  constructor <;> intro sign <;> rw [slewWheel_forward, if_neg (by omega)] <;> simp <;> omega

theorem slewStep_levelsFollow (s : State) : LevelsFollow (slewStep s) := by
  cases held : s.heldAtRest with
  | true =>
    obtain ⟨left, right⟩ := (atRest_iff _).mp (slewStep_rest held).1
    exact ⟨⟨fun pos => absurd left (by omega), fun neg => absurd left (by omega)⟩,
      ⟨fun pos => absurd right (by omega), fun neg => absurd right (by omega)⟩⟩
  | false =>
    constructor <;>
    · rw [slewStep_of_free held]
      exact slewWheel_follows _ _ _ _

/-! ### What follows from the two states' wheels -/

theorem Through.driveOk {s t : State} (go : Through Eased s t) (ready : s.power = .ready) (h : DriveOk s) : DriveOk t where
  left_le := by
    rw [go.config]
    rcases go.drive.left.setpoint with same | zero
    · rw [same]
      exact h.left_le
    · rw [zero]
      exact Nat.zero_le _
  right_le := by
    rw [go.config]
    rcases go.drive.right.setpoint with same | zero
    · rw [same]
      exact h.right_le
    · rw [zero]
      exact Nat.zero_le _
  held := fun held => (go.held held).elim (fun before => go.drive.keepsRest (h.held before)) And.left
  start_up := fun n starting => by simp [go.power, ready] at starting

theorem targetsOk_of_zero {t : State} (zero : TargetsZero t.drive) : TargetsOk t :=
  ⟨by rw [zero.left]; exact Nat.zero_le _, by rw [zero.right]; exact Nat.zero_le _, fun _ => zero, fun _ => zero⟩

theorem Through.targetsOk {s t : State} (go : Through Eased s t) (h : TargetsOk s) : TargetsOk t := by
  rcases go.drive.targets with ⟨left, right⟩ | zero
  · refine ⟨?_, ?_, fun held => ?_, fun holds => ?_⟩
    · rw [left, go.config]
      exact h.left_le
    · rw [right, go.config]
      exact h.right_le
    · exact (go.held held).elim (fun before => go.drive.keepsZero (h.held before)) And.right
    · exact (go.drive.stopped holds).elim (fun before => go.drive.keepsZero (h.stopped before)) id
  · exact targetsOk_of_zero zero

theorem WheelEased.follows {w v : Wheel} (go : WheelEased w v) (h : WheelFollows w) : WheelFollows v := by
  rcases go.setpoint with same | zero
  · exact ⟨fun pos => go.forward.trans (h.1 (by omega)), fun neg => go.forward.trans (h.2 (by omega))⟩
  · exact ⟨fun pos => absurd zero (by omega), fun neg => absurd zero (by omega)⟩

theorem Through.levelsFollow {s t : State} (go : Through Eased s t) (h : LevelsFollow s) : LevelsFollow t :=
  ⟨go.drive.left.follows h.left, go.drive.right.follows h.right⟩

theorem DriveStep.power {s t : State} (go : DriveStep s t) : t.power = s.power := by
  cases go with
  | eased go => exact go.power
  | configured _ _ _ power => exact power
  | period u before after => exact after.power.trans before.power

theorem driveOk_of_rest {t : State} (rest : t.atRest = true) (ready : t.power = .ready) : DriveOk t := by
  obtain ⟨left, right⟩ := (atRest_iff t).mp rest
  exact ⟨by rw [left]; exact Nat.zero_le _, by rw [right]; exact Nat.zero_le _, fun _ => rest,
    fun n starting => by simp [ready] at starting⟩

theorem atRest_of_drive {s t : State} (drive : t.drive = s.drive) (rest : s.atRest = true) : t.atRest = true := by
  rw [State.atRest, drive]
  exact rest

theorem DriveStep.driveOk {s t : State} (go : DriveStep s t) (ready : s.power = .ready) (h : DriveOk s) : DriveOk t := by
  cases go with
  | eased go => exact go.driveOk ready h
  | configured held drive _ power =>
    exact driveOk_of_rest (atRest_of_drive drive (h.held held)) (power.trans ready)
  | period u before after =>
    have ready' : u.power = .ready := before.power.trans ready
    exact after.eased.driveOk ready' (slewStep_driveOk (before.eased.driveOk ready h))

theorem DriveStep.targetsOk {s t : State} (go : DriveStep s t) (h : TargetsOk s) : TargetsOk t := by
  cases go with
  | eased go => exact go.targetsOk h
  | configured held drive _ _ => exact targetsOk_of_zero (drive ▸ h.held held)
  | period u before after => exact after.eased.targetsOk slewStep_targetsOk

theorem levelsFollow_of_drive {s t : State} (drive : t.drive = s.drive) (h : LevelsFollow s) : LevelsFollow t :=
  ⟨by rw [drive]; exact h.left, by rw [drive]; exact h.right⟩

theorem DriveStep.levelsFollow {s t : State} (go : DriveStep s t) (h : LevelsFollow s) : LevelsFollow t := by
  cases go with
  | eased go => exact go.levelsFollow h
  | configured _ drive _ _ => exact levelsFollow_of_drive drive h
  | period u before after => exact after.eased.levelsFollow (slewStep_levelsFollow u)

/-! ### The limits through every step -/

theorem driveOk_of_drive {s t : State} (h : DriveOk s) (drive : t.drive = s.drive) (config : t.config = s.config)
    (held : t.heldAtRest = s.heldAtRest) (start : ∀ n, t.power = .startUp n → t.modes.mode = .config) : DriveOk t :=
  ⟨by rw [drive, config]; exact h.left_le, by rw [drive, config]; exact h.right_le,
    fun rest => atRest_of_drive drive (h.held (held ▸ rest)), start⟩

theorem targetsOk_of_drive {s t : State} (h : TargetsOk s) (drive : t.drive = s.drive) (config : t.config = s.config)
    (held : t.heldAtRest = true → s.heldAtRest = true) : TargetsOk t :=
  ⟨by rw [drive, config]; exact h.left_le, by rw [drive, config]; exact h.right_le,
    fun rest => by rw [drive]; exact h.held (held rest), fun holds => by rw [drive] at holds ⊢; exact h.stopped holds⟩

/-- A part in start-up is in CONFIG, where the wheels are held at rest (R114, R171). -/
theorem DriveOk.startsHeld {s : State} (h : DriveOk s) {n : Nat} (starting : s.power = .startUp n) :
    s.heldAtRest = true := by
  simp [State.heldAtRest, h.start_up n starting, isRestMode]

theorem tickDrive_stands (d : Drive) : Stands d (tickDrive d) :=
  stands_of_same ⟨rfl, rfl, rfl⟩ ⟨rfl, rfl, rfl⟩ id

theorem tick_ready_through {s : State} (ready : s.power = .ready) : Through Stands s (tick s) := by
  have now : (tick s).drive = tickDrive s.drive ∧ (tick s).config = s.config ∧ (tick s).power = s.power ∧
      (tick s).modes = tickModes s.modes ∧ (tick s).floor = tickFloor s.floor := by
    simp [tick, ready]
  obtain ⟨drive, config, power, modes, floor⟩ := now
  refine ⟨by rw [drive]; exact tickDrive_stands _, config, power, fun held => .inl ?_⟩
  rw [State.heldAtRest, State.lifted, modes, floor] at held
  exact held

theorem driveOk_keptByParts : KeptByParts DriveOk where
  pending _ _ h := driveOk_of_drive h rfl rfl rfl h.start_up
  choices _ _ h := driveOk_of_drive h rfl rfl rfl h.start_up
  lines _ _ _ h := driveOk_of_drive h rfl rfl rfl h.start_up
  discard _ _ _ _ h := driveOk_of_drive h rfl rfl rfl h.start_up
  shift _ _ h := driveOk_of_drive h rfl rfl rfl h.start_up
  start _ _ := ⟨Nat.zero_le _, Nat.zero_le _, fun _ => rfl, fun _ _ => rfl⟩
  finish s n starting h :=
    driveOk_of_rest (atRest_of_drive (s := s) rfl (h.held (h.startsHeld starting))) rfl
  loss _ _ := ⟨Nat.zero_le _, Nat.zero_le _, fun _ => rfl, fun _ off => by cases off⟩
  tick s h := by
    cases power : s.power with
    | off => simpa [tick, power] using h
    | startUp n =>
      have later : tick s = { s with power := .startUp (n + 1) } := by simp [tick, power]
      rw [later]
      exact driveOk_of_drive h rfl rfl rfl fun _ _ => h.start_up n power
    | ready => exact (tick_ready_through power).eased.driveOk power h
  effect _ act s effect ready h := by
    have after := (effect_driveStep s effect).driveOk ready h
    exact driveOk_of_drive after rfl rfl rfl after.start_up

/-- The targets through every part of a step, over wheels in their limits. -/
theorem targets_keptByParts : KeptByParts fun s => DriveOk s ∧ TargetsOk s where
  pending s l h := ⟨driveOk_keptByParts.pending s l h.1, targetsOk_of_drive h.2 rfl rfl id⟩
  choices s l h := ⟨driveOk_keptByParts.choices s l h.1, targetsOk_of_drive h.2 rfl rfl id⟩
  lines s l off h := ⟨driveOk_keptByParts.lines s l off h.1, targetsOk_of_drive h.2 rfl rfl id⟩
  discard s n k starting h := ⟨driveOk_keptByParts.discard s n k starting h.1, targetsOk_of_drive h.2 rfl rfl id⟩
  shift s n h := ⟨driveOk_keptByParts.shift s n h.1, targetsOk_of_drive h.2 rfl rfl id⟩
  start s h := ⟨driveOk_keptByParts.start s h.1, targetsOk_of_zero ⟨rfl, rfl⟩⟩
  finish s n starting h := ⟨driveOk_keptByParts.finish s n starting h.1,
    targetsOk_of_drive h.2 rfl rfl fun _ => h.1.startsHeld starting⟩
  loss s h := ⟨driveOk_keptByParts.loss s h.1, targetsOk_of_zero ⟨rfl, rfl⟩⟩
  tick s h := by
    refine ⟨driveOk_keptByParts.tick s h.1, ?_⟩
    cases power : s.power with
    | off => simpa [tick, power] using h.2
    | startUp n =>
      have later : tick s = { s with power := .startUp (n + 1) } := by simp [tick, power]
      rw [later]
      exact targetsOk_of_drive h.2 rfl rfl id
    | ready => exact (tick_ready_through power).eased.targetsOk h.2
  effect c act s effect ready h := ⟨driveOk_keptByParts.effect c act s effect ready h.1,
    targetsOk_of_drive ((effect_driveStep s effect).targetsOk h.2) rfl rfl id⟩

/-- Settles O8: no command but a control period moves a setpoint off 0, and its slew step stays within the clamped
targets. -/
theorem driveLimitsAreKeptByStep : Obligations.DriveLimitsAreKeptByStep := by
  unfold Obligations.DriveLimitsAreKeptByStep
  exact ⟨driveOk_keptByParts.byStep, targets_keptByParts.byStep⟩

/-- Settles O43: in any order of the blocks one slew step alone moves the setpoints. -/
theorem setpointsMoveByOneStep : Obligations.SetpointsMoveByOneStep := by
  unfold Obligations.SetpointsMoveByOneStep
  intro order s ready ok
  obtain ⟨u, before, after⟩ := controlPeriod_driveStep order s
  have uOk : DriveOk u := before.eased.driveOk ready ok
  have tOk : DriveOk (controlPeriodEffect order s) := (DriveStep.period u before after).driveOk ready ok
  have config : u.config = s.config := before.config
  have moves : ((slewStep u).drive.wheels.left.setpoint - u.drive.wheels.left.setpoint).natAbs ≤
        max (accelStep s.config) (decelStep s.config) ∧
      ((slewStep u).drive.wheels.right.setpoint - u.drive.wheels.right.setpoint).natAbs ≤
        max (accelStep s.config) (decelStep s.config) := by
    cases held : u.heldAtRest with
    | true =>
      obtain ⟨left, right⟩ := (atRest_iff u).mp (uOk.held held)
      obtain ⟨left', right'⟩ := (atRest_iff _).mp (slewStep_rest held).1
      rw [left, right, left', right']
      exact ⟨Nat.zero_le _, Nat.zero_le _⟩
    | false =>
      rw [slewStep_of_free held, ← config]
      exact ⟨slewed_moves _ _ _ _, slewed_moves _ _ _ _⟩
  have refreshed : (controlPeriodEffect order s).config = s.config := by simp
  refine ⟨_, exec_effect rfl ready rfl, ?_, ?_, ?_, ?_⟩
  · simpa [after.drive.left_stands, ← before.drive.left_stands] using moves.1
  · simpa [after.drive.right_stands, ← before.drive.right_stands] using moves.2
  · simpa [refreshed] using tOk.left_le
  · simpa [refreshed] using tOk.right_le

end Sys2Proof.Machine
end

section
/-! The output lines through every step (R113, R158, R164, R183). -/

namespace Sys2Proof.Machine

/-- The output lines stand at the rules' levels exactly where they are those of the state and the direction levels follow
the setpoints. -/
theorem outputsOk_iff (s : State) : OutputsOk s ↔ s.outputs = outputsOf s ∧ LevelsFollow s := by
  refine ⟨fun h => ?_, fun h => outputsOk_of_eq h.1 h.2⟩
  have levels : LevelsFollow s :=
    ⟨⟨fun pos => h.left.level ▸ h.left.positive pos, fun neg => h.left.level ▸ h.left.negative neg⟩,
      ⟨fun pos => h.right.level ▸ h.right.positive pos, fun neg => h.right.level ▸ h.right.negative neg⟩⟩
  refine ⟨?_, levels⟩
  have motor {w : Wheel} {o o' : MotorOut} (a : MotorOk s w o) (b : MotorOk s w o') : o = o' := by
    have enable : o.enable = o'.enable := Bool.eq_iff_iff.mpr (a.enable.trans b.enable.symm)
    have brake : o.brake = o'.brake := Bool.eq_iff_iff.mpr (a.brake.trans b.brake.symm)
    have duty : o.duty = o'.duty := by
      by_cases on : BridgesEnabled s
      · rw [a.duty on, b.duty on]
      · rw [a.duty_off on, b.duty_off on]
    have forward : o.forward = o'.forward := a.level.trans b.level.symm
    cases o
    cases o'
    simp_all
  have ideal : OutputsOk { s with outputs := outputsOf s } := outputsOk_of_eq rfl (levelsFollow_of_drive (s := s) rfl levels)
  have same : ∀ o : Outputs, o.motors.left = (outputsOf s).motors.left → o.motors.right = (outputsOf s).motors.right →
      o.sensorPower = (outputsOf s).sensorPower → o.chargeEnable = (outputsOf s).chargeEnable →
      o.attention = (outputsOf s).attention → o = outputsOf s := by
    rintro ⟨⟨_, _⟩, _, _, _⟩ rfl rfl rfl rfl rfl
    rfl
  have enabled : BridgesEnabled { s with outputs := outputsOf s } ↔ BridgesEnabled s :=
    ⟨fun ⟨a, b, c, d, e⟩ => ⟨a, b, c, d, e⟩, fun ⟨a, b, c, d, e⟩ => ⟨a, b, c, d, e⟩⟩
  have here {w : Wheel} {o : MotorOut} (a : MotorOk { s with outputs := outputsOf s } w o) : MotorOk s w o :=
    ⟨a.enable.trans enabled, fun on => a.duty (enabled.mpr on), fun off => a.duty_off fun on => off (enabled.mp on),
      a.brake.trans (and_congr_left fun _ => enabled), a.positive, a.negative, a.level⟩
  exact same s.outputs (motor h.left (here ideal.left)) (motor h.right (here ideal.right))
    (Bool.eq_iff_iff.mpr (h.sensor_power.trans ideal.sensor_power.symm))
    (Bool.eq_iff_iff.mpr (h.charge.trans ideal.charge.symm))
    (Bool.eq_iff_iff.mpr (h.attention.trans ideal.attention.symm))

/-- The output lines are those of the state, and the direction levels follow. -/
def OutputsFollow (s : State) : Prop := s.outputs = outputsOf s ∧ LevelsFollow s

theorem outputsFollow_refresh {s : State} (h : LevelsFollow s) : OutputsFollow (refresh s) :=
  ⟨refresh_outputs s, levelsFollow_of_drive (s := s) rfl h⟩

theorem outputsFollow_of_same {s t : State} (h : OutputsFollow s) (outputs : t.outputs = s.outputs)
    (same : outputsOf t = outputsOf s) (drive : t.drive = s.drive) : OutputsFollow t :=
  ⟨outputs.trans (h.1.trans same.symm), levelsFollow_of_drive drive h.2⟩

theorem tickCountdown_expired (c : Countdown) : tickCountdown c = .expired ↔ c = .expired := by
  rcases c with _ | n | _
  · simp [tickCountdown]
  · cases n <;> simp [tickCountdown]
  · simp [tickCountdown]

/-- A millisecond changes no output line: no timer that it moves drives one (R158, R183). -/
theorem outputsOf_tick (s : State) : outputsOf (tick s) = outputsOf s := by
  cases power : s.power with
  | off => simp [tick, power]
  | startUp n =>
    simp [tick, power, outputsOf, State.bridgeOn, State.isReady, State.sensorPowerOn, State.chargeOn, State.attentionOn]
  | ready =>
    have expired : decide (tickCountdown s.link.noticeTimer = .expired) = decide (s.link.noticeTimer = .expired) :=
      decide_eq_decide.mpr (tickCountdown_expired _)
    simp [tick, power, outputsOf, State.bridgeOn, State.isReady, State.sensorPowerOn, State.chargeOn, State.attentionOn,
      State.atRest, State.lifted, tickDrive, tickWheel, tickDock, tickModes, tickLink, tickFloor, tickSwitch, Pair.map,
      motorOut, expired]

theorem tick_outputs (s : State) : (tick s).outputs = s.outputs := by
  unfold tick
  split <;> rfl

theorem outputs_keptByParts : KeptByParts OutputsFollow where
  pending _ _ h := outputsFollow_of_same h rfl rfl rfl
  choices _ _ h := outputsFollow_of_same h rfl rfl rfl
  lines _ _ _ h := outputsFollow_of_same h rfl rfl rfl
  discard _ _ _ _ h := outputsFollow_of_same h rfl rfl rfl
  shift _ _ h := outputsFollow_of_same h rfl rfl rfl
  start _ _ := ⟨rfl, freshDrive_levels rfl⟩
  finish s n _ h := outputsFollow_refresh (levelsFollow_of_drive (s := s) rfl h.2)
  loss _ _ := ⟨rfl, freshDrive_levels rfl⟩
  tick s h := by
    refine ⟨(tick_outputs s).trans (h.1.trans (outputsOf_tick s).symm), ?_⟩
    cases power : s.power with
    | off => simpa [tick, power] using h.2
    | startUp n =>
      have later : tick s = { s with power := .startUp (n + 1) } := by simp [tick, power]
      rw [later]
      exact levelsFollow_of_drive (s := s) rfl h.2
    | ready => exact (tick_ready_through power).eased.levelsFollow h.2
  effect _ _ s effect _ h := outputsFollow_refresh ((effect_driveStep s effect).levelsFollow h.2)

/-! ### The direction of a wheel at rest -/

/-- Where a setpoint is 0 after, the direction level is the one before (R113). -/
structure LevelsHeld (d e : Drive) : Prop where
  left : e.wheels.left.setpoint = 0 → e.wheels.left.forward = d.wheels.left.forward
  right : e.wheels.right.setpoint = 0 → e.wheels.right.forward = d.wheels.right.forward

theorem levelsHeld_of_eased {d e : Drive} (go : Eased d e) : LevelsHeld d e :=
  ⟨fun _ => go.left.forward, fun _ => go.right.forward⟩

theorem slewStep_levelsHeld (s : State) : LevelsHeld s.drive (slewStep s).drive := by
  cases held : s.heldAtRest with
  | true => constructor <;> intro _ <;> rw [slewStep_of_held held] <;> rfl
  | false =>
    constructor
    · intro zero
      rw [slewStep_of_free held] at zero ⊢
      exact (slewWheel_forward _ _ _ _).trans (if_pos zero)
    · intro zero
      rw [slewStep_of_free held] at zero ⊢
      exact (slewWheel_forward _ _ _ _).trans (if_pos zero)

theorem DriveStep.levelsHeld {s t : State} (go : DriveStep s t) : LevelsHeld s.drive t.drive := by
  cases go with
  | eased go => exact levelsHeld_of_eased go.drive
  | configured _ drive _ _ => exact ⟨fun _ => by rw [drive], fun _ => by rw [drive]⟩
  | period u before after =>
    have slew := slewStep_levelsHeld u
    constructor
    · intro zero
      rw [after.drive.left_stands] at zero
      exact after.drive.left.forward.trans ((slew.left zero).trans before.drive.left.forward)
    · intro zero
      rw [after.drive.right_stands] at zero
      exact after.drive.right.forward.trans ((slew.right zero).trans before.drive.right.forward)

theorem levelsHeld_of_same {s t : State} (drive : t.drive = s.drive) : LevelsHeld s.drive t.drive := by
  rw [drive]
  exact ⟨fun _ => rfl, fun _ => rfl⟩

/-- A command that a ready part takes and that leaves it ready holds the direction of a wheel at rest. -/
theorem exec_levelsHeld {c : Instr} {s t : State} (ready : s.power = .ready) (run : exec c s = .next t)
    (after : t.power = .ready) : LevelsHeld s.drive t.drive := by
  cases effect : readyEffect c with
  | some act =>
    rw [exec_ready effect ready] at run
    cases run
    exact (effect_driveStep s effect).levelsHeld
  | none =>
    cases c <;> first
      | cases effect <;> done
      | skip
    case powerOn => cases run; cases after
    case resetPinFall =>
      simp only [exec, execResetPinFall, ready] at run
      cases run
      cases after
    case startUpEnd =>
      simp only [exec, execStartUpEnd, ready] at run
      cases run
      exact levelsHeld_of_same rfl
    case startupTransaction =>
      simp only [exec, execStartupTransaction, ready] at run
      cases run
      exact levelsHeld_of_same rfl
    case shortTransaction =>
      simp only [exec, execShortTransaction, ready] at run
      cases run
      exact levelsHeld_of_same rfl
    case powerLoss => cases run; cases after

theorem step_levelsHeld {s t : State} (ready : s.power = .ready) (run : step s = .next t) (after : t.power = .ready) :
    LevelsHeld s.drive t.drive := by
  unfold step at run
  split at run
  next c rest _ => exact exec_levelsHeld (s := { s with pending := rest }) ready run after
  · unfold idleStep at run
    split at run
    · exact exec_levelsHeld (s := { s with choices := s.choices + 1 }) ready run after
    · cases run
      exact levelsHeld_of_eased (tick_ready_through ready).drive.toEased

/-- Settles O9: the lines are set from the state at every change, and a slew step alone changes a direction level, with a
setpoint that is not 0. -/
theorem outputLinesAreKeptByStep : Obligations.OutputLinesAreKeptByStep := by
  unfold Obligations.OutputLinesAreKeptByStep
  have kept : KeptByStep OutputsOk := fun s t ok run =>
    (outputsOk_iff t).mpr (outputs_keptByParts.byStep s t ((outputsOk_iff s).mp ok) run)
  refine ⟨kept, fun s t ok run ready after => ?_⟩
  have tOk := kept s t ok run
  have held := step_levelsHeld ready run after
  exact ⟨fun zero => by rw [tOk.left.level, ok.left.level, held.left zero],
    fun zero => by rw [tOk.right.level, ok.right.level, held.right zero]⟩

end Sys2Proof.Machine
end

section
/-! The lines and timers that start no segment and end none: encoder edges (R36, R115), the ends of an unjam and of a guard
(R104, R117), and the debounced switches (R126 to R129). -/

namespace Sys2Proof.Machine

/-! ### Encoder edges -/

/-- The changes of levels that count +1 (R36). -/
def aheadChanges : List (Levels × Levels) :=
  [(⟨false, false⟩, ⟨true, false⟩), (⟨true, false⟩, ⟨true, true⟩), (⟨true, true⟩, ⟨false, true⟩),
    (⟨false, true⟩, ⟨false, false⟩)]

theorem quadTick_eq (old new : Levels) :
    quadTick old new = if (old, new) ∈ aheadChanges then 1 else if (new, old) ∈ aheadChanges then -1 else 0 := by
  obtain ⟨a, b⟩ := old
  obtain ⟨c, d⟩ := new
  cases a <;> cases b <;> cases c <;> cases d <;> rfl

theorem onRug_iff (s : State) : s.onRug = true ↔ s.zones.centre.cls = .rug ∨ s.zones.centre.cls = .darkRug := by
  cases cls : s.zones.centre.cls <;> simp [State.onRug, cls]

/-- Settles O44: the ticks by the table of R36, one level pair at a time. -/
theorem encoderEdgeCountsTheTick : Obligations.EncoderEdgeCountsTheTick := by
  unfold Obligations.EncoderEdgeCountsTheTick
  intro wheel a b s ahead tick rug hahead htick hrug
  have count : quadTick (s.pose.levels.get wheel) ⟨a, b⟩ = tick := by
    rw [htick, hahead]
    exact quadTick_eq _ _
  have onRug : s.onRug = rug := Bool.eq_iff_iff.mpr ((onRug_iff s).trans hrug.symm)
  refine ⟨fun ready => exec_effect rfl ready ?_, fun unready => ?_⟩
  · have same : ({ s with lines := setEncoder wheel ⟨a, b⟩ s.lines } : State).onRug = rug := onRug
    simp only [encoderEffect, tickReload, count, reloadStall, stallReload, same]
    rfl
  · exact onLine_unready _ _ s unready

/-! ### The ends of an unjam and of a guard -/

/-- PARKING ends in a settling that finds the queue empty, the wheels at rest and both guards clear (R169). -/
theorem settle_parks {s : State} (mode : s.modes.mode = .parking) (queue : s.segments.queue = [])
    (running : s.segments.running = none) (rest : s.atRest = true) (guards : s.guardsClear = true) :
    settle s = latchModeReached (enterMode .parked s) := by
  unfold settle
  rw [settleLoop_of_done _ s (canWrite_of_no_running s running) (canStart_of_no_queue s queue)]
  exact if_pos ⟨mode, by simp [State.drained, queue, rest, guards]⟩

theorem guardsClear_iff (s : State) :
    s.guardsClear = true ↔ s.drive.wheels.left.guard = none ∧ s.drive.wheels.right.guard = none := by
  simp [State.guardsClear]

theorem enterMode_parked_eq (s : State) : enterMode .parked s = { s with
    modes := { s.modes with mode := .parked, wakeTimer := none }
    drive := forcedRest s.config s.drive
    floor := { s.floor with cliffs := clearCliffs } } := rfl

/-- Wheels at rest keep their guards through a forced rest (R104, R114). -/
theorem forcedRest_guards (cfg : Settings) {d : Drive} (left : d.wheels.left.setpoint = 0)
    (right : d.wheels.right.setpoint = 0) :
    (forcedRest cfg d).wheels.left.guard = d.wheels.left.guard ∧
      (forcedRest cfg d).wheels.right.guard = d.wheels.right.guard := by
  obtain ⟨-, -, -, -, -, -, -, -, leftGuard, rightGuard, -⟩ := forcedRest_released cfg d
  exact ⟨leftGuard.trans (if_pos left), rightGuard.trans (if_pos right)⟩

theorem sensorPowerOn_parked {s : State} (mode : s.modes.mode = .parked) : s.sensorPowerOn = false := by
  simp [State.sensorPowerOn, mode]

theorem unjamEndEffect_running {s : State} {c : Context} (unjam : s.drive.unjam.isSome = true)
    (running : s.segments.running = some c) : unjamEndEffect s = { s with
      drive := { s.drive with unjam := none }
      segments := { s.segments with
        running := some { c with phase := if c.phase = .unjam then .moving else c.phase } } } := by
  simp only [unjamEndEffect, unjam, if_true, running, Option.map_some, endUnjamPhase]
  split <;> simp_all

theorem guardEffect_running {s : State} {wheel : Side} {g : Guard} (guard : (s.drive.wheels.get wheel).guard = some g) :
    guardEffect wheel s = settle (clearGuard wheel s) := by
  simp [guardEffect, guard]

theorem clearGuard_settled {s : State} (wheel : Side) (settled : Settled s) (mode : s.modes.mode ≠ .parking) :
    settle (clearGuard wheel s) = clearGuard wheel s := by
  have rest : (clearGuard wheel s).atRest = s.atRest := by cases wheel <;> rfl
  refine settle_of_settled _ ⟨?_, ?_, fun parking => mode parking.1⟩
  · rw [← settled.no_write]
    simp only [State.canWrite, rest]
    rfl
  · rw [← settled.no_start]
    simp only [State.canStart, rest]
    rfl

theorem clearGuard_guardsClear {s : State} {wheel : Side} (other : (s.drive.wheels.get (otherSide wheel)).guard = none) :
    (clearGuard wheel s).guardsClear = true := by
  rw [guardsClear_iff]
  cases wheel with
  | left => exact ⟨rfl, other⟩
  | right => exact ⟨other, rfl⟩

/-- Settles O46: a guard's end settles, and PARKING is over where it was the last that ran. -/
theorem unjamAndGuardEnd : Obligations.UnjamAndGuardEnd := by
  unfold Obligations.UnjamAndGuardEnd
  intro s ready
  refine ⟨fun u c unjam running => ?_, fun unjam => ?_, fun wheel g guard => ⟨fun settled mode => ?_, ?_⟩,
    fun wheel guard => ?_⟩
  · exact exec_effect rfl ready (unjamEndEffect_running (by simp [unjam]) running)
  · exact exec_effect rfl ready (by simp [unjamEndEffect, unjam])
  · exact exec_effect rfl ready ((guardEffect_running guard).trans (clearGuard_settled wheel settled mode))
  · intro mode queue running rest other
    have rest' : (clearGuard wheel s).atRest = true := by
      rw [← rest]
      cases wheel <;> rfl
    have clear := clearGuard_guardsClear other
    have parked : guardEffect wheel s = latchModeReached (enterMode .parked (clearGuard wheel s)) :=
      (guardEffect_running guard).trans (settle_parks mode queue running rest' clear)
    obtain ⟨left, right⟩ := (atRest_iff _).mp rest'
    obtain ⟨leftGuard, rightGuard⟩ := forcedRest_guards s.config left right
    obtain ⟨leftClear, rightClear⟩ := (guardsClear_iff _).mp clear
    exact ⟨_, exec_effect rfl ready parked, rfl, rfl, sensorPowerOn_parked rfl, leftGuard.trans leftClear,
      rightGuard.trans rightClear⟩
  · exact exec_effect rfl ready (by simp [guardEffect, guard])

/-! ### Switches -/

theorem lineChanged_moved {level : Bool} {w : Switch} (moved : w.raw ≠ level) :
    lineChanged level w = ⟨level, w.debounced, if level = w.debounced then none else some 0⟩ := if_neg moved

theorem bumperChanged_moved {level : Bool} {b : Bumper} (moved : b.switch.raw ≠ level) :
    bumperChanged level b = ⟨⟨level, b.switch.debounced, if level = b.switch.debounced then none else some 0⟩,
      if level = false ∧ b.switch.debounced = false then false else b.counted⟩ := by
  rw [bumperChanged, lineChanged_moved moved]
  cases level <;> cases b.switch.debounced <;> simp

/-- A bumper's debounce that completes with no press (R126). -/
theorem bumperDebounce_released {s : State} {side : Side} (timer : (s.floor.bumpers.get side).switch.timer ≠ none)
    (released : (s.floor.bumpers.get side).switch.raw = false ∨ (s.floor.bumpers.get side).switch.debounced = true) :
    bumperDebounceEffect side s = setBumper side
      { s.floor.bumpers.get side with switch := debounced (s.floor.bumpers.get side).switch } s := by
  unfold bumperDebounceEffect
  dsimp only
  rw [if_neg (by simpa using timer), if_neg (by rcases released with h | h <;> simp [h])]

/-- A press that completes, in terms of what a press does (R127). -/
theorem bumperDebounce_pressed {s : State} {side : Side} (timer : (s.floor.bumpers.get side).switch.timer ≠ none)
    (raw : (s.floor.bumpers.get side).switch.raw = true) (released : (s.floor.bumpers.get side).switch.debounced = false) :
    bumperDebounceEffect side s = pressCompleted side s := by
  unfold bumperDebounceEffect
  dsimp only
  rw [if_neg (by simpa using timer), if_pos (by simp [raw, released])]

/-- A lift switch's debounce that completes and lifts nothing (R129). -/
theorem liftDebounce_settled {s : State} {side : Side} (timer : (s.floor.lifts.get side).timer ≠ none)
    (stays : (s.floor.lifts.get side).raw = false ∨ s.lifted = true) : liftDebounceEffect side s =
      { s with floor := { s.floor with
        lifts := s.floor.lifts.set side (debounced (s.floor.lifts.get side)) } } := by
  unfold liftDebounceEffect
  dsimp only
  rw [if_neg (by simpa using timer), if_neg]
  rintro ⟨notLifted, lifted⟩
  rcases stays with raw | was
  · refine notLifted ?_
    cases side <;> simp_all [State.lifted, Pair.set, Pair.get, debounced]
  · exact notLifted was

/-- Settles O55: each line and each debounce on its own switch. -/
theorem switchesAreDebounced : Obligations.SwitchesAreDebounced := by
  unfold Obligations.SwitchesAreDebounced
  intro side level s b w ready hb hw
  subst hb hw
  refine ⟨fun moved => ?_, fun moved => ?_, fun timer => ?_, fun timer => ?_, fun timer released => ?_,
    fun timer raw notYet quiet => ?_, fun timer stays => ?_⟩
  · rw [← bumperChanged_moved moved]
    exact exec_effect rfl ready rfl
  · rw [← lineChanged_moved moved]
    exact exec_effect rfl ready rfl
  · exact exec_effect rfl ready (by simp [bumperDebounceEffect, timer])
  · exact exec_effect rfl ready (by simp [liftDebounceEffect, timer])
  · exact exec_effect rfl ready (bumperDebounce_released timer released)
  · refine exec_effect rfl ready ((bumperDebounce_pressed timer raw notYet).trans ?_)
    unfold pressCompleted
    dsimp only
    rw [if_neg (by rcases quiet with h | h <;> simp [h])]
    simp only [setBumper, debounced, raw]
  · exact exec_effect rfl ready (liftDebounce_settled timer stays)

end Sys2Proof.Machine
end

section
/-! The requests of the table and of the queue that are refused, the fields they take, and the two queries of the floor
judgement (R11, R14, R33, R70, R71, R82). -/

namespace Sys2Proof.Machine

/-! ### The fields of RECORD_PUT -/

/-- A kind code above 7 is none of the eight (R11). -/
theorem takeHazard_none_iff (cfg : Settings) (kind order : Byte) (g8 g10 g12 g14 limit : Half) :
    takeHazard cfg kind order g8 g10 g12 g14 limit = none ↔ 8 ≤ kind.toNat := by
  unfold takeHazard
  generalize kind.toNat = code
  match code with
  | 0 | 1 | 2 | 3 | 4 | 5 | 6 | 7 => simp
  | code + 8 => simp

theorem takeHazard_some_of_lt (cfg : Settings) {kind : Byte} (order : Byte) (g8 g10 g12 g14 limit : Half)
    (known : kind.toNat < 8) : ∃ h, takeHazard cfg kind order g8 g10 g12 g14 limit = some h :=
  Option.ne_none_iff_exists'.mp fun none => absurd ((takeHazard_none_iff _ _ _ _ _ _ _ _).mp none) (by omega)

theorem clampRoom_range (v : Int) : -30000 ≤ clampRoom v ∧ clampRoom v ≤ 30000 := by
  rw [clampRoom_eq]
  omega

theorem takeCircle_range (g8 g10 g12 : Half) :
    -30000 ≤ (takeCircle g8 g10 g12).cx ∧ (takeCircle g8 g10 g12).cx ≤ 30000 ∧
      -30000 ≤ (takeCircle g8 g10 g12).cy ∧ (takeCircle g8 g10 g12).cy ≤ 30000 ∧ (takeCircle g8 g10 g12).r ≤ 1000 :=
  ⟨(clampRoom_range _).1, (clampRoom_range _).2, (clampRoom_range _).1, (clampRoom_range _).2, Nat.min_le_right _ _⟩

theorem takeRect_range (order : Byte) (g8 g10 g12 g14 : Half) :
    -30000 ≤ (takeRect order g8 g10 g12 g14).x0 ∧
      (takeRect order g8 g10 g12 g14).x0 ≤ (takeRect order g8 g10 g12 g14).x1 ∧
      (takeRect order g8 g10 g12 g14).x1 ≤ 30000 ∧ -30000 ≤ (takeRect order g8 g10 g12 g14).y0 ∧
      (takeRect order g8 g10 g12 g14).y0 ≤ (takeRect order g8 g10 g12 g14).y1 ∧
      (takeRect order g8 g10 g12 g14).y1 ≤ 30000 ∧ (takeRect order g8 g10 g12 g14).order < 256 := by
  have r8 := clampRoom_range g8.toInt
  have r10 := clampRoom_range g10.toInt
  have r12 := clampRoom_range g12.toInt
  have r14 := clampRoom_range g14.toInt
  have small := order.isLt
  simp only [takeRect]
  omega

theorem ConfigOk.speedMax_pos {cfg : Settings} (ok : ConfigOk cfg) : 1 ≤ speedMax cfg := by
  have range : 100 ≤ item cfg 5 ∧ item cfg 5 ≤ 1500 := ok.item_range (row := ⟨100, 1500, 500⟩) (by decide) rfl
  show 1 ≤ (item cfg 5).toNat
  omega

theorem takeLimit_range {cfg : Settings} (ok : ConfigOk cfg) (limit : Half) (v : Nat) (h : takeLimit cfg limit = some v) :
    1 ≤ v ∧ v ≤ speedMax cfg := by
  unfold takeLimit at h
  split at h
  · cases h
  next present =>
    cases h
    have positive : 1 ≤ limit.toNat :=
      Nat.one_le_iff_ne_zero.mpr fun zero => present (BitVec.eq_of_toNat_eq (by simpa using zero))
    have top : 1 ≤ speedMax cfg := ok.speedMax_pos
    omega

theorem hazardOk_circle {cfg : Settings} {h : Hazard} {g8 g10 g12 : Half} (circle : h.circle? = some (takeCircle g8 g10 g12))
    (rect : h.rect? = none) (limit : h.limit? = none) (heading : h.dockHeading < 4096) : HazardOk cfg h := by
  refine ⟨fun c hc => ?_, fun b hb => by simp [rect] at hb, fun v hv => by simp [limit] at hv, heading⟩
  rw [circle] at hc
  cases hc
  exact takeCircle_range _ _ _

theorem hazardOk_rect {cfg : Settings} {h : Hazard} {order : Byte} {g8 g10 g12 g14 : Half} (circle : h.circle? = none)
    (rect : h.rect? = some (takeRect order g8 g10 g12 g14)) (limit : ∀ v, h.limit? = some v → 1 ≤ v ∧ v ≤ speedMax cfg)
    (heading : h.dockHeading < 4096) : HazardOk cfg h := by
  refine ⟨fun c hc => by simp [circle] at hc, fun b hb => ?_, limit, heading⟩
  rw [rect] at hb
  cases hb
  exact takeRect_range _ _ _ _ _

/-- Every hazard that RECORD_PUT takes lies in its ranges (R3, R4, R14). -/
theorem takeHazard_ok {cfg : Settings} (ok : ConfigOk cfg) {kind order : Byte} {g8 g10 g12 g14 limit : Half} {h : Hazard}
    (taken : takeHazard cfg kind order g8 g10 g12 g14 limit = some h) : HazardOk cfg h := by
  have limits := takeLimit_range ok limit
  unfold takeHazard at taken
  split at taken <;> cases taken
  · exact hazardOk_circle rfl rfl rfl (Nat.zero_lt_succ _)
  · exact hazardOk_circle rfl rfl rfl (Nat.zero_lt_succ _)
  · exact hazardOk_circle rfl rfl rfl (Nat.mod_lt _ (by decide))
  · exact hazardOk_rect rfl rfl (fun v hv => by cases hv) (Nat.zero_lt_succ _)
  · exact hazardOk_rect rfl rfl limits (Nat.zero_lt_succ _)
  · exact hazardOk_rect rfl rfl limits (Nat.zero_lt_succ _)
  · exact hazardOk_rect rfl rfl limits (Nat.zero_lt_succ _)
  · exact hazardOk_rect rfl rfl (fun v hv => by cases hv) (Nat.zero_lt_succ _)

/-- Settles O31, one row of R14 for each kind. -/
theorem recordFieldsAreTakenInRange : Obligations.RecordFieldsAreTakenInRange := by
  unfold Obligations.RecordFieldsAreTakenInRange
  intro cfg order g8 g10 g12 g14 limit clamp c b l hclamp hc hb hl
  have room : clamp = fun v => clampRoom v.toInt := funext fun v => (hclamp v).trans (clampRoom_eq _).symm
  subst room hc hb hl
  exact ⟨rfl, rfl, rfl, rfl, rfl, rfl, rfl, rfl, fun kind h taken ok => takeHazard_ok ok taken⟩

/-! ### RECORD_PUT refused -/

theorem exec_recordPut_eq (slot generation kind flags order : Byte) (g8 g10 g12 g14 limit : Half) (s : State) :
    exec (.recordPut slot generation kind flags order g8 g10 g12 g14 limit) s =
      onRequest (recordPutEffect slot generation kind flags order g8 g10 g12 g14 limit) s := rfl

theorem toNat_ne_of_lt {slot : Byte} (inside : slot.toNat < 96) : slot ≠ 0xFF := by
  rintro rfl
  exact absurd inside (by decide)

/-- A put that names its slot (R11). -/
theorem recordPutEffect_named {slot generation kind flags order : Byte} {g8 g10 g12 g14 limit : Half} {s : State}
    {h : Hazard} (inside : slot.toNat < 96) (taken : takeHazard s.config kind order g8 g10 g12 g14 limit = some h)
    (named : generation = (slotAt s.table slot.toNat).generation) :
    recordPutEffect slot generation kind flags order g8 g10 g12 g14 limit s =
      putAt slot.toNat h (pinnedBit flags) s := by
  rw [recordPutEffect, if_neg (by omega), taken]
  exact (if_neg (toNat_ne_of_lt inside)).trans (if_pos named)

/-- A put that takes any free slot (R11). -/
theorem recordPutEffect_anyFree {generation kind flags order : Byte} {g8 g10 g12 g14 limit : Half} {s : State}
    {h : Hazard} {k : Nat} (taken : takeHazard s.config kind order g8 g10 g12 g14 limit = some h)
    (free : lowestFree s.table = some k) :
    recordPutEffect 0xFF generation kind flags order g8 g10 g12 g14 limit s = putAt k h (pinnedBit flags) s := by
  simp [recordPutEffect, taken, free]

/-- Both ways of naming a slot come to the put on it (R11). -/
theorem recordPutEffect_target {slot generation kind flags order : Byte} {g8 g10 g12 g14 limit : Half} {s : State}
    {h : Hazard} {k : Nat} (inside : k < 96) (taken : takeHazard s.config kind order g8 g10 g12 g14 limit = some h)
    (target : (slot.toNat = k ∧ generation = (slotAt s.table k).generation) ∨
      (slot = 0xFF ∧ (slotAt s.table k).record = none ∧ ∀ j, j < k → (slotAt s.table j).record ≠ none)) :
    recordPutEffect slot generation kind flags order g8 g10 g12 g14 limit s = putAt k h (pinnedBit flags) s := by
  rcases target with ⟨rfl, named⟩ | ⟨rfl, free, below⟩
  · exact recordPutEffect_named inside taken named
  · exact recordPutEffect_anyFree taken ((lowestFree_iff _ _).mpr ⟨inside, free, below⟩)

theorem putAt_pinFull {k : Nat} {h : Hazard} {s : State} (full : 32 ≤ pinnedCount s.table)
    (unpinned : ∀ r, (slotAt s.table k).record = some r → r.pinned = false) :
    putAt k h true s = respond 0x0B .pinFull
      [toByte k, (slotAt s.table k).generation, toByte (pinnedCount s.table)] s := by
  have refused : pinRefused s.table k true = true := by
    cases record : (slotAt s.table k).record with
    | none => simp [pinRefused, record, full]
    | some r => simp [pinRefused, record, full, unpinned r record]
  exact if_pos refused

theorem liveByte_eq (x : Slot) : liveByte x = if x.record = none then 0 else 1 := by
  unfold liveByte flagByte
  cases x.record <;> simp

/-- Settles O30: the checks of R11 one after another, each refusal with its body. -/
theorem recordPutRefusalsFollowTheOrder : Obligations.RecordPutRefusalsFollowTheOrder := by
  unfold Obligations.RecordPutRefusalsFollowTheOrder
  intro slot generation kind flags order g8 g10 g12 g14 limit s ready
  simp only [exec_recordPut_eq]
  refine ⟨fun outside notAny => ?_, fun named unknown => ?_, fun inside known other => ?_, fun any known full => ?_,
    fun k inside known pinned full target unpinned => ?_⟩
  · exact onRequest_answered ready (if_pos ⟨outside, notAny⟩)
  · have none := (takeHazard_none_iff s.config kind order g8 g10 g12 g14 limit).mpr unknown
    refine onRequest_answered ready ?_
    have accepted : ¬ (96 ≤ slot.toNat ∧ slot ≠ 0xFF) := by
      rintro ⟨outside, notAny⟩
      exact named.elim (fun inside => by omega) notAny
    simp only [recordPutEffect, if_neg accepted, acceptFrame_config, none]
  · obtain ⟨h, taken⟩ := takeHazard_some_of_lt s.config order g8 g10 g12 g14 limit known
    have stale : recordPutEffect slot generation kind flags order g8 g10 g12 g14 limit (acceptFrame s) =
        respond 0x0B .stale [slot, (slotAt s.table slot.toNat).generation, liveByte (slotAt s.table slot.toNat)]
          (acceptFrame s) := by
      rw [recordPutEffect, if_neg (by omega), acceptFrame_config, taken]
      exact (if_neg (toNat_ne_of_lt inside)).trans (if_neg other)
    rw [liveByte_eq] at stale
    exact onRequest_answered ready stale
  · obtain ⟨h, taken⟩ := takeHazard_some_of_lt s.config order g8 g10 g12 g14 limit known
    subst any
    refine onRequest_answered ready ?_
    simp [recordPutEffect, taken, (lowestFree_none_iff _).mpr full]
  · obtain ⟨h, taken⟩ := takeHazard_some_of_lt s.config order g8 g10 g12 g14 limit known
    have put := recordPutEffect_target (s := acceptFrame s) (flags := flags) inside taken target
    rw [show pinnedBit flags = true from pinned, putAt_pinFull (s := acceptFrame s) full unpinned] at put
    exact onRequest_answered ready put

/-! ### SEGMENT_ADD refused -/

theorem exec_segmentAdd_eq (tag kind direction hold : Byte) (amount speed : Half) (s : State) :
    exec (.segmentAdd tag kind direction hold amount speed) s =
      onRequest (segmentAddEffect tag kind direction hold amount speed) s := rfl

/-- A kind code that is none of the four, or a LINE in no direction (R82). -/
theorem takeMotion_none_iff (cfg : Settings) (kind direction hold : Byte) (amount speed : Half) :
    takeMotion cfg kind direction hold amount speed = none ↔
      3 < kind.toNat ∨ (kind.toNat = 0 ∧ 1 < direction.toNat) := by
  unfold takeMotion
  generalize kind.toNat = code
  match code with
  | 0 => simp
  | 1 | 2 | 3 => simp
  | code + 4 => simp

/-- The modes in which SEGMENT_ADD is taken (R82). -/
theorem segmentAddEffect_mode {tag kind direction hold : Byte} {amount speed : Half} {s : State}
    (active : s.modes.mode ≠ .active) (waking : s.modes.mode ≠ .waking) :
    segmentAddEffect tag kind direction hold amount speed s = respond 0x13 .mode [s.modes.mode.byte] s :=
  if_pos ⟨active, waking⟩

theorem segmentAddEffect_badField {tag kind direction hold : Byte} {amount speed : Half} {s : State}
    (mode : s.modes.mode = .active ∨ s.modes.mode = .waking)
    (bad : takeMotion s.config kind direction hold amount speed = none ∨ tag = 255 ∨ amount = 0) :
    segmentAddEffect tag kind direction hold amount speed s = respond 0x13 .badField [tag, kind] s := by
  unfold segmentAddEffect
  rw [if_neg (by rcases mode with mode | mode <;> simp [mode])]
  split
  · rfl
  next m taken => exact if_pos (bad.resolve_left (by simp [taken]))

/-- A request whose fields are good, at the tests of the queue (R82, steps 4 and 5). -/
theorem segmentAddEffect_good {tag kind direction hold : Byte} {amount speed : Half} {s : State} {m : Motion}
    (mode : s.modes.mode = .active ∨ s.modes.mode = .waking)
    (taken : takeMotion s.config kind direction hold amount speed = some m) (tagged : tag ≠ 255) (some' : amount ≠ 0) :
    segmentAddEffect tag kind direction hold amount speed s =
      if s.segments.queue.any fun g => decide (g.tag = tag.toNat) then
        respond 0x13 .duplicateTag [tag, flagByte (tagRunning s tag.toNat)] s
      else if queueFull s then respond 0x13 .queueFull (countBytes s) s
      else acceptSegment ⟨tag.toNat, m⟩ s := by
  unfold segmentAddEffect
  rw [if_neg (by rcases mode with mode | mode <;> simp [mode]), taken]
  exact if_neg (not_or.mpr ⟨tagged, some'⟩)

theorem tagRunning_byte (s : State) (tag : Nat) :
    flagByte (tagRunning s tag) = (match s.segments.running with
      | some c => if c.segment.tag = tag then 1 else 0
      | none => 0) := by
  unfold tagRunning flagByte
  cases s.segments.running <;> simp

/-- Settles O49: the checks of R82 one after another, each refusal with its body. -/
theorem segmentAddRefusalsFollowTheOrder : Obligations.SegmentAddRefusalsFollowTheOrder := by
  unfold Obligations.SegmentAddRefusalsFollowTheOrder
  intro tag kind direction hold amount speed s ready
  simp only [exec_segmentAdd_eq]
  have kindZero : kind = 0 ↔ kind.toNat = 0 := ⟨fun h => by rw [h]; rfl, fun h => BitVec.eq_of_toNat_eq (by simpa using h)⟩
  refine ⟨fun active waking => onRequest_answered ready (segmentAddEffect_mode active waking), fun mode =>
    ⟨fun bad => ?_, fun known tagged direct some' => ?_⟩⟩
  · refine onRequest_answered ready (segmentAddEffect_badField mode ?_)
    rw [takeMotion_none_iff, ← kindZero]
    tauto
  · obtain ⟨m, taken⟩ : ∃ m, takeMotion s.config kind direction hold amount speed = some m := by
      refine Option.ne_none_iff_exists'.mp fun none => ?_
      rw [takeMotion_none_iff, ← kindZero] at none
      rcases none with above | ⟨zero, backward⟩
      · omega
      · have := direct zero
        omega
    have good := segmentAddEffect_good (s := acceptFrame s) mode taken tagged some'
    refine ⟨fun x hx same => ?_, fun fresh full => ?_⟩
    · have duplicate : (acceptFrame s).segments.queue.any (fun g => decide (g.tag = tag.toNat)) = true :=
        List.any_eq_true.mpr ⟨x, hx, by simpa using same⟩
      rw [if_pos duplicate, tagRunning_byte] at good
      exact onRequest_answered ready good
    · have single : ¬ (acceptFrame s).segments.queue.any (fun g => decide (g.tag = tag.toNat)) = true := by
        simpa using fresh
      have noRoom : queueFull (acceptFrame s) = true := by
        simp only [queueFull, Bool.or_eq_true, decide_eq_true_eq]
        exact full
      rw [if_neg single, if_pos noRoom] at good
      exact onRequest_answered ready good

end Sys2Proof.Machine
end

section
/-! The two queries of the floor judgement: POINT_QUERY (R33) and PATH_QUERY (R70, R71). -/

namespace Sys2Proof.Machine

/-! ### POINT_QUERY -/

theorem exec_pointQuery_eq (x y : Half) (s : State) : exec (.pointQuery x y) s = onRequest (pointQueryEffect x y) s := rfl

theorem pointBody_bare {s : State} {x y : Int} (bare : scan s.table x y = none) :
    pointBody s x y = int16 x ++ int16 y ++ [0, 255, 0, 0, 0, 0] := by
  simp only [pointBody, classAt_of_scan_none bare, limitAt, bare, Option.map_none, Option.bind_none, Option.getD_none]
  simp [refBytes, RegionClass.byte]

/-- The limit a deciding rectangle carries, 0 where it carries none (R25). -/
theorem hazardLimit_getD (cfg : Settings) (h : Hazard) :
    (((hazardLimit cfg h).getD 0 : Nat) : Int) = (match h with
      | .slow _ limit => limit.getD (slowLimit cfg)
      | .rug _ limit | .darkRug _ limit => limit.getD (rugLimit cfg)
      | _ => 0) := by
  cases h <;> rfl

theorem pointBody_decided {s : State} {x y : Int} {l : Live} {b : Rect} (found : scan s.table x y = some l)
    (rect : l.record.hazard.rect? = some b) :
    pointBody s x y = int16 x ++ int16 y ++
      [(classAt s.table x y).cls.byte, toByte l.ref.slot, l.ref.generation, toByte b.order] ++
        int16 ((hazardLimit s.config l.record.hazard).getD 0 : Nat) := by
  have order : l.record.hazard.order = b.order := order_of_rect rect
  have named : (classAt s.table x y).record = some l.ref := by rw [classAt_of_scan_some found]
  simp only [pointBody, named, limitAt, found, Option.map_some, Option.bind_some, Option.getD_some, order, refBytes]
  simp

/-- Settles O36: a point in no rectangle, and a point that one decides. -/
theorem pointQueryClassifiesThePoint : Obligations.PointQueryClassifiesThePoint := by
  unfold Obligations.PointQueryClassifiesThePoint
  intro x y s cx cy ready hcx hcy
  rw [← clampRoom_eq] at hcx hcy
  subst hcx hcy
  rw [exec_pointQuery_eq]
  refine ⟨fun bare => ?_, fun l b found rect => ?_⟩
  · rw [← pointBody_bare bare]
    exact onRequest_answered ready rfl
  · have body := pointBody_decided found rect
    rw [hazardLimit_getD] at body
    have answer : onRequest (pointQueryEffect x y) s =
        .next (answered 0x0F .ok (pointBody s (clampRoom x.toInt) (clampRoom y.toInt)) s) :=
      onRequest_answered ready rfl
    rw [body] at answer
    exact answer

/-! ### PATH_QUERY -/

theorem exec_pathQuery_eq (heading : Half) (direction : Byte) (s : State) :
    exec (.pathQuery heading direction) s = onRequest (pathQueryEffect heading direction) s := rfl

/-- The gap of a live record along a direction, none where it is not in the path (R55, R56). -/
def pathGap (cfg : Settings) (p : Pose) (d : Direction) (l : Live) : Option Nat :=
  (inPath cfg p.u p.px p.py d l).map InPath.gap

theorem inPath_ref {cfg : Settings} {u : Nat} {px py : Int} {d : Direction} {l : Live} {p : InPath}
    (h : inPath cfg u px py d l = some p) : p.ref = l.ref := by
  simp only [inPath, Option.bind_eq_some_iff, Option.map_eq_some_iff] at h
  obtain ⟨c, -, g, -, rfl⟩ := h
  rfl

theorem inPath_eq_some_iff {cfg : Settings} {p : Pose} {d : Direction} {l : Live} {found : InPath} :
    inPath cfg p.u p.px p.py d l = some found ↔ pathGap cfg p d l = some found.gap ∧ found.ref = l.ref := by
  constructor
  · intro h
    exact ⟨by simp [pathGap, h], inPath_ref h⟩
  · rintro ⟨gap, ref⟩
    obtain ⟨q, hq, same⟩ := Option.map_eq_some_iff.mp gap
    rw [hq, show q = found from by
      have := inPath_ref hq
      cases q
      cases found
      simp_all]

theorem recordSet_true (t : Table) : recordSet true t = liveRecords t := by simp [recordSet]

theorem pathRecords_slots (cfg : Settings) (t : Table) (p : Pose) (d : Direction) :
    ((liveRecords t).filterMap (inPath cfg p.u p.px p.py d)).Pairwise fun a c => a.ref.slot < c.ref.slot := by
  refine List.Pairwise.filterMap _ (fun a a' lt b hb b' hb' => ?_) (liveRecords_slots t)
  rw [inPath_ref hb, inPath_ref hb']
  exact lt

/-- No record constrains the path exactly where none is in it (R57). -/
theorem constraining_eq_none_iff (cfg : Settings) (t : Table) (p : Pose) (d : Direction) :
    constraining cfg t p d true = none ↔ ∀ l, IsLive t l → pathGap cfg p d l = none := by
  rw [constraining, leastBy_none_iff, recordSet_true, List.filterMap_eq_nil_iff]
  simp only [mem_liveRecords, pathGap, Option.map_eq_none_iff]

/-- The constraining record: the one in the path that comes first by gap and then by slot (R57). -/
theorem constraining_of_least {cfg : Settings} {t : Table} {p : Pose} {d : Direction} {l : Live} {g : Nat}
    (live : IsLive t l) (gap : pathGap cfg p d l = some g)
    (least : ∀ l' g', IsLive t l' → pathGap cfg p d l' = some g' → g < g' ∨ (g = g' ∧ l.ref.slot ≤ l'.ref.slot)) :
    constraining cfg t p d true = some ⟨l.ref, g⟩ := by
  rw [constraining, recordSet_true,
    leastBy_eq_some_iff (rank := fun q : InPath => q.ref.slot) (pathRecords_slots cfg t p d)]
  refine ⟨List.mem_filterMap.mpr ⟨l, (mem_liveRecords t l).mpr live, inPath_eq_some_iff.mpr ⟨gap, rfl⟩⟩, fun q hq => ?_⟩
  obtain ⟨l', live', inpath⟩ := List.mem_filterMap.mp hq
  obtain ⟨gap', ref'⟩ := inPath_eq_some_iff.mp inpath
  rw [ref']
  exact least l' q.gap ((mem_liveRecords t l').mp live') gap'

/-- The gap of a record as the distance and the reach give it (R55, R56). -/
theorem gapOf_eq (cfg : Settings) (p : Pose) (d : Direction) (c : Circle) :
    gapOf cfg p.u p.px p.py d c =
      let along := ((c.cx - p.px) * d.c + (c.cy - p.py) * d.s) / 4096
      let lat := (((c.cy - p.py) * d.c - (c.cx - p.px) * d.s).natAbs : Int) / 4096
      let reach : Int := robotRadius cfg + c.r + clearMargin cfg + p.u
      if -reach < along ∧ lat < reach then some (max 0 (along - reach)).toNat else none := by
  have reach : reachOf cfg p.u c = robotRadius cfg + c.r + clearMargin cfg + p.u := by simp [reachOf]
  simp only [gapOf, reach, alongOf, lateralOf, floorDiv]
  split
  next outside => rw [if_neg (by omega)]
  next inside =>
    rw [if_pos (by omega)]
    congr 1
    omega

theorem pathGap_by_hazard (cfg : Settings) (p : Pose) (d : Direction) (l : Live) :
    pathGap cfg p d l = (match l.record.hazard with
      | .post c | .drop c | .dock c _ => gapOf cfg p.u p.px p.py d c
      | _ => none) := by
  have circle (c : Circle) (h : l.record.hazard.circle? = some c) : pathGap cfg p d l = gapOf cfg p.u p.px p.py d c := by
    simp only [pathGap, inPath, h, Option.bind_some, Option.map_map]
    exact Option.map_id' (x := gapOf cfg p.u p.px p.py d c)
  have rect (h : l.record.hazard.circle? = none) : pathGap cfg p d l = none := by simp [pathGap, inPath, h]
  cases hz : l.record.hazard <;> simp only [hz, Hazard.circle?] at circle rect
  case post c => exact circle c rfl
  case drop c => exact circle c rfl
  case dock c heading => exact circle c rfl
  all_goals exact rect trivial

theorem pathBody_clear {s : State} {heading : Nat} {direction : Byte} {d : Direction} {probe : ClassResult}
    (hd : d = directionOf heading (decide (direction = 1)))
    (hprobe : probe = classAt s.table (s.pose.px + probeDistance s.config * d.c / 4096)
      (s.pose.py + probeDistance s.config * d.s / 4096))
    (none : constraining s.config s.table s.pose d true = none) :
    pathBody s heading direction = int16 heading ++ [direction, toByte s.pose.u, 255, 255, 255, 0, 255, 255,
      probe.cls.byte] ++ refBytes probe.record ++ [if probe.cls = .keepout then 2 else 0] := by
  subst hd hprobe
  have wide : int16 65535 = [255, 255] := by decide
  simp only [pathBody, none, Option.map_none, reportedGap, reportedTerm, verdictByte]
  simp [wide, refBytes, probeFrom, floorDiv] <;> rfl

theorem pathBody_found {s : State} {heading : Nat} {direction : Byte} {d : Direction} {probe : ClassResult} {p : InPath}
    (hd : d = directionOf heading (decide (direction = 1)))
    (hprobe : probe = classAt s.table (s.pose.px + probeDistance s.config * d.c / 4096)
      (s.pose.py + probeDistance s.config * d.s / 4096))
    (found : constraining s.config s.table s.pose d true = some p) :
    pathBody s heading direction = int16 heading ++ [direction, toByte s.pose.u] ++ int16 (min p.gap 65534 : Nat) ++
      [toByte p.ref.slot, p.ref.generation] ++ int16 (min (p.gap * guardGain s.config / 4) 65535 : Nat) ++
      [probe.cls.byte] ++ refBytes probe.record ++
      [if p.gap < blockGap s.config then 1 else if probe.cls = .keepout then 2 else 0] := by
  subst hd hprobe
  simp only [pathBody, found, Option.map_some, reportedGap, reportedTerm, verdictByte, gapTermOf]
  simp [refBytes, probeFrom, floorDiv] <;> rfl

theorem pathQueryEffect_accepted {heading : Half} {direction : Byte} {s : State} (known : direction.toNat ≤ 1) :
    pathQueryEffect heading direction s = respond 0x10 .ok (pathBody s (heading.toNat % 4096) direction) s :=
  if_neg (Nat.not_lt.mpr known)

/-- Settles O37: the least gap is the constraining record's, and the body reads it. -/
theorem pathQueryFindsTheLeastGap : Obligations.PathQueryFindsTheLeastGap := by
  unfold Obligations.PathQueryFindsTheLeastGap
  intro heading direction s ready
  rw [exec_pathQuery_eq]
  refine ⟨fun unknown => onRequest_answered ready (if_pos unknown), fun known d gap probe hd hgap hprobe => ?_⟩
  have gaps : ∀ l, gap l = pathGap s.config s.pose d l := by
    intro l
    rw [hgap l, pathGap_by_hazard]
    cases l.record.hazard <;> first
      | rfl
      | exact (gapOf_eq _ _ _ _).symm
  have answer : onRequest (pathQueryEffect heading direction) s =
      .next (answered 0x10 .ok (pathBody s (heading.toNat % 4096) direction) s) :=
    onRequest_answered ready (pathQueryEffect_accepted known)
  refine ⟨fun clear => ?_, fun l g live hg least => ?_⟩
  · have none : constraining s.config s.table s.pose d true = none :=
      (constraining_eq_none_iff _ _ _ _).mpr fun l live => (gaps l).symm.trans (clear l live)
    rw [answer, pathBody_clear hd hprobe none]
  · have found : constraining s.config s.table s.pose d true = some ⟨l.ref, g⟩ :=
      constraining_of_least live ((gaps l).symm.trans hg) fun l' g' live' hg' => least l' g' live' ((gaps l').trans hg')
    rw [answer, pathBody_found hd hprobe found]

end Sys2Proof.Machine
end

section
/-! The request frames (R176, R177, R179): what the encoder writes is what the decoder reads. -/

namespace Sys2Proof.Machine

/-- A field of the frame read back from its two bytes (R179). -/
theorem halfAt_of_bytes {bytes : List Byte} {k : Nat} {v : Half} (high : Frame.byteAt bytes k = v.extractLsb' 8 8)
    (low : Frame.byteAt bytes (k + 1) = v.extractLsb' 0 8) : Frame.halfAt bytes k = v := by
  rw [Frame.halfAt, high, low, halfOf_halfBytes]

/-- A code above 0x17 is that of no request (R176). -/
theorem decodeFrame_unknown {code : Byte} (unknown : 0x17 < code.toNat) (rest : List Byte) :
    Frame.decodeFrame (code :: rest) = .unknownRequest code := by
  have first : Frame.byteAt (code :: rest) 0 = code := rfl
  obtain ⟨n, hn⟩ := Nat.exists_eq_add_of_le' (show 24 ≤ code.toNat from unknown)
  simp [Frame.decodeFrame, first, hn]

theorem requestBody_code (c : Instr) : (Frame.requestBody c).map Prod.fst = requestCode c := by
  cases c <;> rfl

/-- The decoder reads from a request's frame that request (R177, R179). -/
theorem decodeFrame_encode {c : Instr} {f : List Byte} (encoded : Frame.encode c = some f) (ok : c.wellFormed = true) :
    Frame.decodeFrame f = c := by
  cases c <;> first
    | cases encoded <;> done
    | obtain rfl := Option.some.inj encoded
  case unknownRequest code => exact decodeFrame_unknown (by simpa [Instr.wellFormed] using ok) _
  case configSet it value => exact congrArg (Instr.configSet it) (halfAt_of_bytes rfl rfl)
  case recordPut slot generation kind flags order g8 g10 g12 g14 limit =>
    show Instr.recordPut slot generation kind flags order _ _ _ _ _ = _
    congr 1 <;> exact halfAt_of_bytes rfl rfl
  case pointQuery x y =>
    show Instr.pointQuery _ _ = _
    congr 1 <;> exact halfAt_of_bytes rfl rfl
  case pathQuery heading direction => exact congrArg (Instr.pathQuery · direction) (halfAt_of_bytes rfl rfl)
  case poseSet x y heading u =>
    show Instr.poseSet _ _ _ _ = _
    congr 1 <;> exact halfAt_of_bytes rfl rfl
  case segmentAdd tag kind direction hold amount speed =>
    show Instr.segmentAdd tag kind direction hold _ _ = _
    congr 1 <;> exact halfAt_of_bytes rfl rfl
  all_goals rfl

/-- A transaction of a frame and any bytes after it is that frame's request (R176). -/
theorem decodeTransaction_append {f : List Byte} (whole : f.length = 20) (more : List Byte) :
    Frame.decodeTransaction (f ++ more) = Frame.decodeFrame f := by
  rw [Frame.decodeTransaction, if_neg (by simp [whole]), List.take_append_of_le_length (by omega),
    List.take_of_length_le (by omega)]

/-- Settles O60, one command at a time. -/
theorem requestFramesComeBack : Obligations.RequestFramesComeBack := by
  unfold Obligations.RequestFramesComeBack
  refine ⟨fun c code request ok => ?_, fun c none => ?_, fun bytes short => if_pos short⟩
  · obtain ⟨body, hbody, first⟩ := Option.map_eq_some_iff.mp ((requestBody_code c).trans request)
    have encoded : Frame.encode c = some (body.1 :: padTo 19 body.2) := by simp [Frame.encode, hbody]
    obtain ⟨whole, head⟩ := Laws.encodedLength c _ encoded
    refine ⟨_, encoded, whole, head.trans ((requestBody_code c).trans request), fun more => ?_⟩
    rw [decodeTransaction_append whole, decodeFrame_encode encoded ok]
  · have noBody : Frame.requestBody c = Option.none :=
      Option.map_eq_none_iff.mp ((requestBody_code c).trans none)
    simp [Frame.encode, noBody]

end Sys2Proof.Machine
end

section
/-! The judgement of a running LINE or DOCK at a new pose or table (R27, R53, R57 to R66): what the classification and the
evaluation give, the cause that blocks it, and its record where the wheels are at rest. -/

namespace Sys2Proof.Machine

/-! ### The link through a classification -/

/-- Nothing of the link has changed but the notices and their timer. -/
structure AnswerKept (s t : State) : Prop where
  response : t.link.response = s.link.response
  dataOut : t.link.dataOut = s.link.dataOut
  silence : t.link.silence = s.link.silence
  timeBase : t.link.timeBase = s.link.timeBase

theorem offerNotice_answer (n : Notice) (s : State) : AnswerKept s (offerNotice n s) := by
  rcases offerNotice_cases n s with ⟨-, joined⟩ | ⟨-, dropped⟩
  · rw [joined]
    exact ⟨rfl, rfl, rfl, rfl⟩
  · rw [dropped]
    exact ⟨rfl, rfl, rfl, rfl⟩

theorem classify_answer (cause : NoticeCause) (s : State) : AnswerKept s (classify cause s) := by
  rcases classify_cases cause s with ⟨same, -⟩ | ⟨new, -⟩
  · rw [same]
    exact ⟨rfl, rfl, rfl, rfl⟩
  · rw [new]
    obtain ⟨response, dataOut, silence, timeBase⟩ := offerNotice_answer
      (zoneNotice cause s (classification s).centre) (classifySilently s)
    exact ⟨response, dataOut, silence, timeBase⟩

/-! ### The last record -/

/-- The record of the one segment queued: what follows it starts nothing (R92, R167, R169). -/
theorem settle_last {s : State} (due : s.canWrite = true) (last : s.segments.queue.tail = []) :
    settle s = parkIfDrained (leaveStopping (writeRecord s)) := by
  obtain ⟨c, running⟩ := running_of_canWrite s due
  obtain ⟨e, cause⟩ := Option.isSome_iff_exists.mp ((canWrite_iff s c running).mp due).1
  have written : (leaveStopping (writeRecord s)).segments = (writeRecord s).segments := leaveStopping_segments _
  have idle : (writeRecord s).segments.running = none ∧ (writeRecord s).segments.queue = [] := by
    rw [writeRecord_running_eq s c e running cause]
    exact ⟨rfl, last⟩
  have loop : settleLoop (2 * s.segments.queue.length + 2) s = leaveStopping (writeRecord s) := by
    rw [settleLoop, if_pos (by simp [due]), show settleOnce s = leaveStopping (writeRecord s) from if_pos due]
    exact settleLoop_of_done _ _ (canWrite_of_no_running _ (by rw [written]; exact idle.1))
      (canStart_of_no_queue _ (by rw [written]; exact idle.2))
  rw [settle, loop]

theorem settle_last_segments {s : State} {c : Context} {e : EndCause} (running : s.segments.running = some c)
    (cause : c.cause = some e) (rest : AtRest s) (last : s.segments.queue.tail = []) :
    (settle s).segments = ⟨[], none, s.segments.completions ++
      [⟨c.segment, e.kind, c.cancelSeen, travelledOf c, e.record, s.drive.retries, s.link.timeBase⟩]⟩ := by
  have due : s.canWrite = true := (canWrite_iff s c running).mpr ⟨by simp [cause], rest⟩
  rw [settle_last due last, parkIfDrained_segments, leaveStopping_segments, writeRecord_running_eq s c e running cause,
    last]

/-! ### What an evaluation finds -/

/-- The record that constrains the path of a running LINE or DOCK (R54, R57). -/
def pathOf (s : State) (m : Motion) : Option InPath :=
  constraining s.config s.table s.pose (directionOf s.pose.heading m.isReverse) (!m.isDock)

/-- The probe point of a running LINE or DOCK (R27). -/
def probeOf (s : State) (m : Motion) : ClassResult :=
  classAt s.table (s.pose.px + probeDistance s.config * (directionOf s.pose.heading m.isReverse).c / 4096)
    (s.pose.py + probeDistance s.config * (directionOf s.pose.heading m.isReverse).s / 4096)

/-- The results of the Classifier for a running LINE or DOCK at the present pose and table (R26 to R29). -/
structure PathClassified (s : State) (m : Motion) : Prop where
  centre : s.zones.centre = classAt s.table s.pose.px s.pose.py
  probe : s.zones.probe = probeOf s m
  limit : ZoneLimitIs s (s.pose.px + probeDistance s.config * (directionOf s.pose.heading m.isReverse).c / 4096)
    (s.pose.py + probeDistance s.config * (directionOf s.pose.heading m.isReverse).s / 4096)

theorem pathClassified_of_same {s t : State} {m : Motion} (h : PathClassified s m) (zones : t.zones = s.zones)
    (config : t.config = s.config) (table : t.table = s.table) (pose : t.pose = s.pose) : PathClassified t m := by
  obtain ⟨centre, probe, limit⟩ := h
  unfold probeOf at probe
  unfold ZoneLimitIs at limit
  constructor
  · rw [zones, table, pose]
    exact centre
  · unfold probeOf
    rw [zones, config, table, pose]
    exact probe
  · unfold ZoneLimitIs
    rw [zones, config, table, pose]
    exact limit

theorem straightRunning_of_running {s : State} {c : Context} (running : s.segments.running = some c)
    (straight : c.segment.motion.isStraight = true) : s.straightRunning = some c := by
  simp [State.straightRunning, running, Option.filter, straight]

theorem classifySilently_path {s : State} {c : Context} (straight : s.straightRunning = some c) :
    PathClassified (classifySilently s) c.segment.motion := by
  have point : s.probePoint = probeFrom s.config s.pose.px s.pose.py
      (directionOf s.pose.heading c.segment.motion.isReverse) := by simp [State.probePoint, straight]
  have limit := (classify_limit .table s).1
  rw [point] at limit
  exact ⟨rfl, by simp only [classifySilently, classification, point]; rfl, limit⟩

theorem classify_path {s : State} {c : Context} (cause : NoticeCause) (straight : s.straightRunning = some c) :
    PathClassified (classify cause s) c.segment.motion :=
  pathClassified_of_same (classifySilently_path straight) (classify_limit cause s).2 (by simp [classifySilently])
    (by simp [classifySilently]) (by simp [classifySilently])

/-- KEEPOUT is the class of a rectangle (R22). -/
theorem record_of_keepout {t : Table} {x y : Int} (keepout : (classAt t x y).cls = .keepout) :
    ∃ r, classAt t x y = ⟨.keepout, some r⟩ := by
  cases found : scan t x y with
  | none => simp [classAt_of_scan_none found] at keepout
  | some l =>
    rw [classAt_of_scan_some found] at keepout ⊢
    exact ⟨l.ref, by simpa using keepout⟩

theorem evaluation_pending_clear {s : State} {c : Context}
    (free : ∀ p, pathOf s c.segment.motion = some p → blockGap s.config ≤ p.gap)
    (passable : s.zones.probe.cls ≠ .keepout) : (evaluation s c).pending = .none := by
  have zone : zoneBlock s.zones.probe = .none := by
    unfold zoneBlock
    split
    next r probe => exact absurd (by rw [probe]) passable
    · rfl
  show blockingCause s (pathOf s c.segment.motion) = .none
  unfold blockingCause
  split
  next p found => rw [if_neg (Nat.not_lt.mpr (free p found)), zone]
  · exact zone

theorem evaluation_pending_blocked {s : State} {c : Context} {p : InPath} (found : pathOf s c.segment.motion = some p)
    (close : p.gap < blockGap s.config) : (evaluation s c).pending = .blocked p.ref := by
  show blockingCause s (pathOf s c.segment.motion) = _
  rw [found]
  exact if_pos close

theorem evaluation_pending_zone {s : State} {c : Context} {r : Ref}
    (free : ∀ p, pathOf s c.segment.motion = some p → blockGap s.config ≤ p.gap)
    (keepout : s.zones.probe = ⟨.keepout, some r⟩) : (evaluation s c).pending = .blockedZone r := by
  show blockingCause s (pathOf s c.segment.motion) = _
  unfold blockingCause
  split
  next p found => rw [if_neg (Nat.not_lt.mpr (free p found)), keepout]; rfl
  · rw [keepout]
    rfl

/-- The allowance of an evaluation is the least of its terms (R58 to R61). -/
theorem allowance_least (s : State) (c : Context) (gap : Option Nat) :
    AllowanceIsLeast s c gap s.zones.limit s.pose.u (some (leastTerm (allowanceTerms s c gap))) := by
  obtain ⟨mem, least⟩ := leastTerm_spec (min c.segment.motion.speed (speedMax s.config))
    (allowanceTerms s c gap).tail
  refine ⟨_, allowanceTerms s c gap, rfl, mem, least, ?_⟩
  cases gap <;> rfl

/-- An evaluation of a running LINE or DOCK whose results stand at the present pose and table (R52 to R65). -/
theorem clearanceJudged_of_evaluation {w t : State} {c : Context} (clearance : t.clearance = evaluation w c)
    (zones : t.zones = w.zones) (config : t.config = w.config) (table : t.table = w.table) (pose : t.pose = w.pose)
    (suspects : t.anySuspect = w.anySuspect) (classified : PathClassified w c.segment.motion) :
    ClearanceJudged c (pathOf t c.segment.motion) (probeOf t c.segment.motion) t := by
  have path : pathOf t c.segment.motion = pathOf w c.segment.motion := by
    unfold pathOf
    rw [config, table, pose]
  have probe : probeOf t c.segment.motion = w.zones.probe := by
    rw [classified.probe]
    unfold probeOf
    rw [config, table, pose]
  have here := pathClassified_of_same classified zones config table pose
  have allowance : AllowanceIsLeast t c ((pathOf w c.segment.motion).map InPath.gap) t.zones.limit t.pose.u
      (evaluation w c).allowance := by
    have least := allowance_least w c ((pathOf w c.segment.motion).map InPath.gap)
    unfold AllowanceIsLeast at least ⊢
    rw [config, zones, pose, suspects]
    exact least
  refine ⟨?_, ?_, ?_, ?_, ?_, here.centre, ?_, ?_, ?_, ?_⟩
  · rw [clearance, path]
    rfl
  · rw [clearance, path]
    rfl
  · rw [clearance, path, config]
    show ((pathOf w c.segment.motion).map InPath.gap).map (gapTermOf w.config) = _
    rw [Option.map_map]
    rfl
  · rw [clearance, path]
    exact allowance
  · rw [zones, probe]
  · rintro d rfl
    exact here.limit
  · intro p found close
    rw [path] at found
    rw [config] at close
    rw [clearance]
    exact evaluation_pending_blocked found close
  · intro free r keepout
    rw [path, config] at free
    rw [probe] at keepout
    rw [clearance]
    exact evaluation_pending_zone free keepout
  · intro free passable
    rw [path, config] at free
    rw [probe] at passable
    rw [clearance]
    exact evaluation_pending_clear free passable

/-! ### The cause that an evaluation hands -/

/-- The end cause that blocks a running LINE or DOCK: BLOCKED, or else BLOCKED_ZONE (R64, R65). -/
def Blocks (s : State) (m : Motion) (e : EndCause) : Prop :=
  (∃ p, pathOf s m = some p ∧ p.gap < blockGap s.config ∧ e = ⟨.blocked, some p.ref⟩) ∨
    ((∀ p, pathOf s m = some p → blockGap s.config ≤ p.gap) ∧ (probeOf s m).cls = .keepout ∧
      e = ⟨.blockedZone, (probeOf s m).record⟩)

/-- An evaluation that finds a blocking cause hands it (R64, R65). -/
theorem evaluate_blocked {s : State} {c : Context} {e : EndCause} (running : s.segments.running = some c)
    (straight : c.segment.motion.isStraight = true) (classified : PathClassified s c.segment.motion)
    (blocks : Blocks s c.segment.motion e) :
    evaluate s = handCause e.kind e.record { s with clearance := evaluation s c } := by
  rw [evaluate_straight s c running straight]
  rcases blocks with ⟨p, found, close, rfl⟩ | ⟨free, keepout, rfl⟩
  · rw [evaluation_pending_blocked found close]
    rfl
  · obtain ⟨r, probe⟩ := record_of_keepout keepout
    rw [evaluation_pending_zone free (classified.probe.trans probe)]
    show handCause .blockedZone (some r) _ = handCause .blockedZone (probeOf s c.segment.motion).record _
    rw [show (probeOf s c.segment.motion).record = some r from congrArg ClassResult.record probe]

theorem evaluate_clear {s : State} {c : Context} (running : s.segments.running = some c)
    (straight : c.segment.motion.isStraight = true) (classified : PathClassified s c.segment.motion)
    (free : ∀ p, pathOf s c.segment.motion = some p → blockGap s.config ≤ p.gap)
    (passable : (probeOf s c.segment.motion).cls ≠ .keepout) :
    evaluate s = { s with clearance := evaluation s c } := by
  rw [evaluate_straight s c running straight, evaluation_pending_clear free (by rw [classified.probe]; exact passable)]
  rfl

/-- A LINE or DOCK is blocked or it is free. -/
theorem blocks_or_free (s : State) (m : Motion) : (∃ e, Blocks s m e) ∨
    ((∀ p, pathOf s m = some p → blockGap s.config ≤ p.gap) ∧ (probeOf s m).cls ≠ .keepout) := by
  by_cases close : ∃ p, pathOf s m = some p ∧ p.gap < blockGap s.config
  · obtain ⟨p, found, close⟩ := close
    exact .inl ⟨_, .inl ⟨p, found, close, rfl⟩⟩
  · have free : ∀ p, pathOf s m = some p → blockGap s.config ≤ p.gap :=
      fun p found => Nat.not_lt.mp fun lt => close ⟨p, found, lt⟩
    by_cases keepout : (probeOf s m).cls = .keepout
    · exact .inl ⟨_, .inr ⟨free, keepout, rfl⟩⟩
    · exact .inr ⟨free, keepout⟩

/-- The kinds that block are stopped by a RAMP and end no wait for a result (R90). -/
theorem blocks_kind {s : State} {m : Motion} {e : EndCause} (blocks : Blocks s m e) :
    e.kind = .blocked ∨ e.kind = .blockedZone := by
  rcases blocks with ⟨p, -, -, rfl⟩ | ⟨-, -, rfl⟩
  · exact .inl rfl
  · exact .inr rfl

theorem blocked_dropped {c : Context} {kind : EndKind} (stands : c.cause ≠ none)
    (kinds : kind = .blocked ∨ kind = .blockedZone) : takesCause c kind = false := by
  obtain ⟨old, cause⟩ := Option.ne_none_iff_exists'.mp stands
  rcases kinds with rfl | rfl <;> simp [takesCause, cause, replacesCause]

/-- The first cause of a running segment, of a kind that asks for a RAMP: with no stop in progress the RAMP begins (R90,
R107). -/
theorem handCause_first {kind : EndKind} {record : Option Ref} {s : State} {c : Context}
    (running : s.segments.running = some c) (first : c.cause = none)
    (asked : stopForCause s.config c.segment.motion kind = some .ramp) (floor : dropPendingResponse kind s.floor = s.floor)
    (stop : s.drive.stop = .none) :
    handCause kind record s = { s with
      segments := { s.segments with running := some { c with cause := some ⟨kind, record⟩, phase := .stopping } }
      drive := rampFrom c.holdTarget s.drive } := by
  rw [handCause_taken kind record s c running (takesCause_first c kind first), floor]
  simp only [asked, combineStop_none _ _ _ _ _ stop, beginRamp_eq]

theorem blocked_first {s : State} {c : Context} {kind : EndKind} {record : Option Ref}
    (running : s.segments.running = some c) (first : c.cause = none) (kinds : kind = .blocked ∨ kind = .blockedZone)
    (stop : s.drive.stop = .none) :
    handCause kind record s = { s with
      segments := { s.segments with running := some { c with cause := some ⟨kind, record⟩, phase := .stopping } }
      drive := rampFrom c.holdTarget s.drive } := by
  refine handCause_first running first ?_ ?_ stop
  · rcases kinds with rfl | rfl <;> rfl
  · rcases kinds with rfl | rfl <;> rfl

theorem rampFrom_wheels (hold : Option Nat) (d : Drive) :
    (rampFrom hold d).wheels.left.setpoint = d.wheels.left.setpoint ∧
      (rampFrom hold d).wheels.right.setpoint = d.wheels.right.setpoint := by
  unfold rampFrom
  dsimp only
  split <;> exact ⟨rfl, rfl⟩

theorem atRest_of_setpoints {s t : State} (left : t.drive.wheels.left.setpoint = s.drive.wheels.left.setpoint)
    (right : t.drive.wheels.right.setpoint = s.drive.wheels.right.setpoint) : t.atRest = s.atRest := by
  simp only [State.atRest, left, right]

/-- A RAMP just begun at rest holds no record back (R92). -/
theorem atRest_of_ramp {s t : State} {hold : Option Nat} (drive : t.drive = rampFrom hold s.drive)
    (rest : s.atRest = true) (noResult : t.floor.resultPending = false) : AtRest t := by
  obtain ⟨left, right⟩ := rampFrom_wheels hold s.drive
  refine ⟨?_, by rw [drive]; rfl, by rw [drive]; rfl, noResult⟩
  rw [atRest_of_setpoints (s := s) (by rw [drive, left]) (by rw [drive, right]), rest]

theorem travelledOf_straight {c : Context} (straight : c.segment.motion.isStraight = true) :
    travelledOf c = c.progress.tdiv 1000 := by
  rw [travelledOf_eq]
  cases motion : c.segment.motion <;> simp_all [Motion.isStraight]

/-! ### The judgement at an event -/

theorem evaluate_straight_clearance {s : State} {c : Context} (running : s.segments.running = some c)
    (straight : c.segment.motion.isStraight = true) : (evaluate s).clearance = evaluation s c := by
  rw [evaluate_straight s c running straight]
  unfold handPending
  split <;> simp

theorem handCause_floor {kind : EndKind} (record : Option Ref) (s : State) (lifted : kind ≠ .lifted)
    (linkLost : kind ≠ .linkLost) : (handCause kind record s).floor = s.floor := by
  cases running : s.segments.running with
  | none => rw [handCause_idle _ _ _ running]
  | some c =>
    cases taken : takesCause c kind with
    | false => rw [handCause_dropped _ _ _ c running taken]
    | true =>
      rw [handCause_taken _ _ _ c running taken]
      exact dropPendingResponse_other kind s.floor lifted linkLost

theorem evaluate_floor (s : State) : (evaluate s).floor = s.floor := by
  unfold evaluate
  split
  · rfl
  · unfold handPending
    split
    · rfl
    · exact handCause_floor _ _ (by decide) (by decide)
    · exact handCause_floor _ _ (by decide) (by decide)

theorem anySuspect_of_floor {s t : State} (floor : t.floor = s.floor) : t.anySuspect = s.anySuspect := by
  unfold State.anySuspect
  rw [floor]

/-- The state judged: where nothing is due after the evaluation, its items are those of the pose and the table (R52). -/
theorem clearanceJudged_of_settled {s : State} {c : Context} (running : s.segments.running = some c)
    (straight : c.segment.motion.isStraight = true) (classified : PathClassified s c.segment.motion)
    (settled : settle (evaluate s) = evaluate s) :
    ClearanceJudged c (pathOf (refresh (settle (evaluate s))) c.segment.motion)
      (probeOf (refresh (settle (evaluate s))) c.segment.motion) (refresh (settle (evaluate s))) := by
  rw [settled]
  exact clearanceJudged_of_evaluation (w := s) (t := refresh (evaluate s)) (evaluate_straight_clearance running straight)
    (by simp) (by simp) (by simp) (by simp) (anySuspect_of_floor (evaluate_floor s)) classified

theorem evaluate_queue_ne {s : State} (queued : s.segments.queue ≠ []) : (evaluate s).segments.queue ≠ [] := by
  simpa using queued

/-- The wheels turn before an evaluation and after it (R107). -/
theorem evaluate_atRest (s : State) : (evaluate s).atRest = s.atRest :=
  atRest_of_setpoints (evaluate_stands s).drive.left_stands (evaluate_stands s).drive.right_stands

theorem evaluate_stopping {s : State} {c : Context} (running : s.segments.running = some c)
    (straight : c.segment.motion.isStraight = true) (stands : c.cause ≠ none) :
    evaluate s = { s with clearance := evaluation s c } := by
  rw [evaluate_straight s c running straight]
  unfold handPending
  split
  · rfl
  · exact handCause_dropped _ _ _ c running (blocked_dropped stands (.inl rfl))
  · exact handCause_dropped _ _ _ c running (blocked_dropped stands (.inr rfl))

/-- What a pose fix or a table change leaves of a running LINE or DOCK: `u` is the state after the change, which touches
neither the segments nor the drive (R9, R46, R53, R64 to R66, R90, R92). -/
theorem judgedAgain_of_change {cause : NoticeCause} {c : Context} {s u : State} (running : s.segments.running = some c)
    (queued : s.segments.queue ≠ []) (straight : c.segment.motion.isStraight = true) (segments : u.segments = s.segments)
    (drive : u.drive = s.drive) (floor : u.floor = s.floor) (time : u.link.timeBase = s.link.timeBase) :
    JudgedAgain c s (refresh (settle (evaluate (classify cause u)))) := by
  obtain ⟨w, hw⟩ : ∃ w, w = classify cause u := ⟨_, rfl⟩
  rw [← hw]
  have wsegments : w.segments = s.segments := by rw [hw, classify_segments, segments]
  have wdrive : w.drive = s.drive := by rw [hw, classify_drive, drive]
  have wfloor : w.floor = s.floor := by rw [hw, classify_floor, floor]
  have wtime : w.link.timeBase = s.link.timeBase := by rw [hw, (classify_answer cause u).timeBase, time]
  have wrunning : w.segments.running = some c := by rw [wsegments, running]
  have wqueued : w.segments.queue ≠ [] := by rw [wsegments]; exact queued
  have wrest : w.atRest = s.atRest := atRest_of_setpoints (by rw [wdrive]) (by rw [wdrive])
  have classified : PathClassified w c.segment.motion := by
    rw [hw]
    exact classify_path cause (straightRunning_of_running (by rw [segments, running]) straight)
  have kept : ∀ t, t = refresh (settle (evaluate w)) → pathOf t c.segment.motion = pathOf w c.segment.motion ∧
      probeOf t c.segment.motion = probeOf w c.segment.motion ∧ blockGap t.config = blockGap w.config := by
    rintro t rfl
    unfold pathOf probeOf
    simp
  obtain ⟨path, probe, gap⟩ := kept _ rfl
  rintro d found point rfl hfound hpoint
  have hfound : found = pathOf (refresh (settle (evaluate w))) c.segment.motion := hfound
  have hpoint : point = probeOf (refresh (settle (evaluate w))) c.segment.motion := hpoint
  subst hfound hpoint
  refine ⟨fun quiet => ?_, fun first free passable => ?_, fun e first stop blocks => ?_⟩
  · refine clearanceJudged_of_settled wrunning straight classified ?_
    rcases quiet with moving | ⟨stands, held⟩
    · obtain ⟨d, hd⟩ : ∃ d, (evaluate w).segments.running = some d := by
        have same : (evaluate w).segments.running.map Context.segment = some c.segment := by simp [wrunning]
        obtain ⟨d, hd, -⟩ := Option.map_eq_some_iff.mp same
        exact ⟨d, hd⟩
      exact settle_of_moving _ d hd (by rw [evaluate_atRest, wrest, moving]) (evaluate_queue_ne wqueued)
    · rw [evaluate_stopping wrunning straight stands]
      refine settle_of_no_write _ c wrunning ?_ wqueued
      rw [← wdrive] at held
      rcases held with move | unjam
      · simp [State.canWrite, wrunning, move]
      · have busy : w.drive.unjam.isNone = false :=
          Option.isNone_eq_false_iff.mpr (Option.isSome_iff_ne_none.mpr unjam)
        simp [State.canWrite, wrunning, busy]
  · rw [path, gap] at free
    rw [probe] at passable
    have clear := evaluate_clear wrunning straight classified free passable
    have settled : settle (evaluate w) = evaluate w := by
      rw [clear]
      exact settle_of_no_cause _ c wrunning first wqueued
    refine ⟨clearanceJudged_of_settled wrunning straight classified settled, ?_, ?_⟩
    · rw [settled, clear]
      exact wsegments
    · rw [settled, clear]
      exact wdrive
  · rw [path, probe, gap] at blocks
    have handed := (evaluate_blocked wrunning straight classified blocks).trans
      (blocked_first (s := { w with clearance := evaluation w c }) wrunning first (blocks_kind blocks)
        (by rw [← stop, ← wdrive]))
    obtain ⟨v, hv⟩ : ∃ v, v = evaluate w := ⟨_, rfl⟩
    rw [← hv] at handed
    have vsegments : v.segments = { s.segments with
        running := some { c with cause := some e, phase := .stopping } } := by
      rw [handed, ← wsegments]
    have vdrive : v.drive = rampFrom c.holdTarget s.drive := by rw [handed, ← wdrive]
    have vrunning : v.segments.running = some { c with cause := some e, phase := .stopping } := by rw [vsegments]
    rw [← hv]
    refine ⟨fun moving => ?_, fun rest result => ?_⟩
    · have settled : settle v = v := by
        refine settle_of_moving v _ vrunning ?_ (by rw [vsegments]; exact queued)
        rw [hv, evaluate_atRest, wrest, moving]
      rw [settled]
      exact ⟨vsegments, vdrive⟩
    · have vrest : AtRest v := atRest_of_ramp vdrive rest (by rw [hv, evaluate_floor, wfloor, result])
      have travelled : travelledOf { c with cause := some e, phase := .stopping } = c.progress.tdiv 1000 :=
        travelledOf_straight straight
      have record : (⟨c.segment, e.kind, c.cancelSeen, travelledOf { c with cause := some e, phase := .stopping },
          e.record, v.drive.retries, v.link.timeBase⟩ : Completion) =
          ⟨c.segment, e.kind, c.cancelSeen, c.progress.tdiv 1000, e.record, s.drive.retries, s.link.timeBase⟩ := by
        rw [travelled, vdrive, hv, evaluate_link, wtime]
        rfl
      by_cases single : s.segments.queue = [c.segment]
      · have last := settle_last_segments vrunning rfl vrest (by rw [vsegments, single]; rfl)
        rw [record, vsegments] at last
        exact ⟨[], by rw [refresh_segments, last], fun _ => ⟨rfl, by rw [refresh_segments, last],
          by rw [refresh_segments, last]⟩⟩
      · obtain ⟨more, written⟩ := settle_writes v _ e vrunning rfl vrest
        rw [record, vsegments] at written
        exact ⟨more, written, fun single' => absurd single' single⟩

end Sys2Proof.Machine
end

section
/-! The requests that change the table or the pose: RECORD_PUT (R11 to R13), RECORD_RETIRE (R19) and POSE_SET (R46), with
what the change brings about at the Classifier and at a running LINE or DOCK (R9). -/

namespace Sys2Proof.Machine

/-! ### A change and its answer -/

/-- The part after a request that sets the table and the pose and answers: both points classified, a running LINE or DOCK
judged, and all that is due brought about (R9, R46). -/
def changeAnswered (cause : NoticeCause) (code : Byte) (body : List Byte) (table : Table) (pose : Pose) (s : State) :
    State :=
  settle (evaluate (classify cause { s with table := table, pose := pose, link := answerLink code .ok body s }))

section Change

variable (cause : NoticeCause) (code : Byte) (body : List Byte) (table : Table) (pose : Pose) (s : State)

theorem changeAnswered_table : (refresh (changeAnswered cause code body table pose s)).table = table := by
  simp [changeAnswered]

theorem changeAnswered_pose : (refresh (changeAnswered cause code body table pose s)).pose = pose := by
  simp [changeAnswered]

theorem changeAnswered_config : (refresh (changeAnswered cause code body table pose s)).config = s.config := by
  simp [changeAnswered]

theorem changeAnswered_ageing : (refresh (changeAnswered cause code body table pose s)).ageing = s.ageing := by
  simp [changeAnswered]

theorem changeAnswered_world : KeepsWorld s (refresh (changeAnswered cause code body table pose s)) := by
  constructor <;> simp [changeAnswered]

theorem changeAnswered_responds : Responds code .ok body s (refresh (changeAnswered cause code body table pose s)) := by
  obtain ⟨response, dataOut, silence, timeBase⟩ :=
    classify_answer cause { s with table := table, pose := pose, link := answerLink code .ok body s }
  constructor <;> simp only [changeAnswered, refresh_link, settle_link, evaluate_link]
  · exact response
  · exact dataOut
  · exact silence
  · exact timeBase

theorem changeAnswered_centre :
    (refresh (changeAnswered cause code body table pose s)).zones.centre = classAt table pose.px pose.py := by
  have centre : CentreOk (refresh (changeAnswered cause code body table pose s)) :=
    centreOk_of_same (settle_centreOk _ (evaluate_centreOk _ (classify_centreOk cause _))) rfl rfl rfl
  unfold CentreOk at centre
  rwa [changeAnswered_table, changeAnswered_pose] at centre

theorem noticesJoined_of_same {joined : List Notice} {u t : State} (h : NoticesJoined joined u t)
    (notices : u.link.notices = s.link.notices) (timer : u.link.noticeTimer = s.link.noticeTimer)
    (config : u.config = s.config) : NoticesJoined joined s t := by
  obtain ⟨queue, loaded, left⟩ := h
  rw [notices] at queue loaded left
  rw [config] at loaded
  rw [timer] at left
  exact ⟨queue, loaded, left⟩

/-- With no LINE or DOCK running and nothing due, the change is classified and reported, and nothing moves (R26 to R31). -/
theorem changeAnswered_still (straight : s.straightRunning = none) (settled : Settled s) :
    KeepsMotion s (refresh (changeAnswered cause code body table pose s)) ∧
      (refresh (changeAnswered cause code body table pose s)).clearance = freshClearance ∧
      ZoneReported cause s (refresh (changeAnswered cause code body table pose s)) ∧
      CentreClassified (refresh (changeAnswered cause code body table pose s)) := by
  obtain ⟨u, hu⟩ : ∃ u : State, u = { s with table := table, pose := pose, link := answerLink code .ok body s } :=
    ⟨_, rfl⟩
  have ustraight : u.straightRunning = none := by rw [hu]; exact straight
  have still : refresh (changeAnswered cause code body table pose s) =
      refresh { classify cause u with clearance := freshClearance } := by
    rw [changeAnswered, ← hu, settle_evaluate_classify cause u ustraight
      (settled_of_same settled (by rw [hu]) (by rw [hu]) (by rw [hu]) (by rw [hu]) (by rw [hu]))]
  rw [still]
  have notices : u.link.notices = s.link.notices ∧ u.link.noticeTimer = s.link.noticeTimer ∧ u.config = s.config ∧
      u.zones = s.zones ∧ u.latches = s.latches ∧ u.link.timeBase = s.link.timeBase := by
    rw [hu]
    exact ⟨rfl, rfl, rfl, rfl, rfl, rfl⟩
  obtain ⟨queue, timer, config, zones, latches, time⟩ := notices
  have reported := classify_reported cause u
  refine ⟨⟨?_, ?_, ?_, ?_, ?_⟩, rfl, ⟨fun same => ?_, fun new room => ?_, fun new full => ?_⟩, ?_⟩
  · simp [hu]
  · simp [hu]
  · simp [hu]
  · simp [hu]
  · simp [hu]
  · obtain ⟨joined, kept⟩ := reported.1 (same.trans (by rw [zones]))
    obtain ⟨a, b, d⟩ := noticesJoined_of_same s joined queue timer config
    exact ⟨⟨a, b, d⟩, kept.trans latches⟩
  · obtain ⟨kept, joined⟩ := reported.2.1 (fun same => new (same.trans (by rw [zones]))) (by rw [queue]; exact room)
    rw [time] at joined
    obtain ⟨a, b, d⟩ := noticesJoined_of_same s joined queue timer config
    exact ⟨kept.trans latches, ⟨a, b, d⟩⟩
  · obtain ⟨joined, kept⟩ := reported.2.2 (fun same => new (same.trans (by rw [zones]))) (by rw [queue]; exact full)
    obtain ⟨a, b, d⟩ := noticesJoined_of_same s joined queue timer config
    rw [latches] at kept
    exact ⟨⟨a, b, d⟩, kept⟩
  · obtain ⟨centre, probe, limit⟩ := classifySilently_centre u ustraight
    have same : (refresh { classify cause u with clearance := freshClearance }).zones = (classifySilently u).zones :=
      (classify_limit cause u).2
    refine ⟨?_, ?_, ?_⟩
    · rw [same]
      simpa using centre
    · rw [same]
      exact probe
    · rw [same]
      simpa using limit

/-- A running LINE or DOCK is judged at the change (R27, R46, R53, R64 to R66). -/
theorem changeAnswered_judged {c : Context} (running : s.segments.running = some c) (queued : s.segments.queue ≠ [])
    (straight : c.segment.motion.isStraight = true) :
    JudgedAgain c s (refresh (changeAnswered cause code body table pose s)) :=
  judgedAgain_of_change running queued straight rfl rfl rfl rfl

end Change

/-! ### RECORD_PUT -/

/-- An accepted put on a slot (R12, R13). -/
theorem putAt_accepted {k : Nat} {h : Hazard} {pinned : Bool} {s : State}
    (room : pinned = true → (∃ r, (slotAt s.table k).record = some r ∧ r.pinned = true) ∨ pinnedCount s.table < 32) :
    putAt k h pinned (acceptFrame s) = changeAnswered .table 0x0B
      (slotBody s.config (putTable s.table k h pinned) k) (putTable s.table k h pinned) s.pose s := by
  have accepted : pinRefused (acceptFrame s).table k pinned = false := by
    cases pinned with
    | false => rfl
    | true =>
      rcases room rfl with ⟨r, live, was⟩ | few
      · simp [pinRefused, live, was]
      · simp [pinRefused, Nat.not_le.mpr few]
  rw [putAt, accepted]
  rfl

theorem slotAt_putTable {t : Table} {k : Nat} (h : Hazard) (pinned : Bool) (inside : k < 96) :
    slotAt (putTable t k h pinned) k =
      ⟨if (slotAt t k).record = none then (slotAt t k).generation + 1 else (slotAt t k).generation,
        some (putRecord t k h pinned)⟩ := by
  rw [putTable, slotAt_placeRecord _ _ _ _ inside, if_pos rfl]
  simp only [Option.isNone_iff_eq_none]

/-- Settles O29: the target slot by either name, and the change that the put is. -/
theorem recordPutWritesTheRecord : Obligations.RecordPutWritesTheRecord := by
  unfold Obligations.RecordPutWritesTheRecord
  intro slot generation kind flags order g8 g10 g12 g14 limit s k h ready inside target taken room
  have put := (recordPutEffect_target (s := acceptFrame s) (flags := flags) inside taken target).trans
    (putAt_accepted (h := h) (pinned := pinnedBit flags) room)
  have slotNow := slotAt_putTable (t := s.table) h (pinnedBit flags) inside
  refine ⟨_, putRecord s.table k h (pinnedBit flags), _, exec_effect rfl ready put, rfl, ?_, ?_, fun j other => ?_, ?_, ?_,
    changeAnswered_world _ _ _ _ _ _, changeAnswered_config _ _ _ _ _ _, changeAnswered_pose _ _ _ _ _ _,
    changeAnswered_ageing _ _ _ _ _ _, changeAnswered_still _ _ _ _ _ _, fun c running queued straight =>
      changeAnswered_judged _ _ _ _ _ _ running queued straight⟩
  · simp only [putRecord, hostRecord]
    cases (slotAt s.table k).record <;> rfl
  · rw [changeAnswered_table, slotNow]
  · rw [changeAnswered_table, putTable, slotAt_placeRecord _ _ _ _ inside, if_neg other]
  · have body : slotBody s.config (putTable s.table k h (pinnedBit flags)) k =
        recordBody s.config ⟨k, (slotAt (putTable s.table k h (pinnedBit flags)) k).generation⟩
          (putRecord s.table k h (pinnedBit flags)) :=
      slotBody_live (by rw [slotNow])
    have answer := changeAnswered_responds .table 0x0B (slotBody s.config (putTable s.table k h (pinnedBit flags)) k)
      (putTable s.table k h (pinnedBit flags)) s.pose s
    rw [show recordBody s.config ⟨k, if (slotAt s.table k).record = none then (slotAt s.table k).generation + 1
        else (slotAt s.table k).generation⟩ (putRecord s.table k h (pinnedBit flags)) =
        slotBody s.config (putTable s.table k h (pinnedBit flags)) k by rw [body, slotNow]]
    exact answer
  · rw [changeAnswered_centre, changeAnswered_table]

/-! ### RECORD_RETIRE -/

theorem exec_recordRetire_eq (slot generation : Byte) (s : State) :
    exec (.recordRetire slot generation) s = onRequest (recordRetireEffect slot generation) s := rfl

/-- Settles O34: the four rows of R19. -/
theorem recordRetireFreesTheSlot : Obligations.RecordRetireFreesTheSlot := by
  unfold Obligations.RecordRetireFreesTheSlot
  intro slot generation s ready
  refine ⟨fun outside => onRequest_answered ready (if_pos outside), fun inside free => ?_, fun inside live other => ?_,
    fun inside live named => ?_⟩
  · refine onRequest_answered ready ?_
    simp [recordRetireEffect, free, Nat.not_le.mpr inside]
  · refine onRequest_answered ready ?_
    simp [recordRetireEffect, live, other, Nat.not_le.mpr inside, liveByte_eq]
  · have retired : recordRetireEffect slot generation (acceptFrame s) = changeAnswered .table 0x0D [slot, generation]
        (freeSlot s.table slot.toNat) s.pose s := by
      subst named
      simp only [recordRetireEffect, acceptFrame_table, Nat.not_le.mpr inside, if_false, Option.isNone_iff_eq_none, live,
        if_true]
      rfl
    refine ⟨_, exec_effect rfl ready retired, ?_, fun j other => ?_, changeAnswered_responds _ _ _ _ _ _, ?_,
      changeAnswered_world _ _ _ _ _ _, changeAnswered_config _ _ _ _ _ _, changeAnswered_pose _ _ _ _ _ _,
      changeAnswered_ageing _ _ _ _ _ _, changeAnswered_still _ _ _ _ _ _, fun c running queued straight =>
        changeAnswered_judged _ _ _ _ _ _ running queued straight⟩
    · rw [changeAnswered_table, slotAt_freeSlot _ _ _ inside, if_pos rfl, named]
    · rw [changeAnswered_table, slotAt_freeSlot _ _ _ inside, if_neg other]
    · rw [changeAnswered_centre, changeAnswered_table]

/-! ### POSE_SET -/

theorem poseSetEffect_eq (x y heading u : Half) (s : State) : poseSetEffect x y heading u (acceptFrame s) =
    changeAnswered .poseFix 0x11 (fixBody x y heading u) s.table (fixPose x y heading u s.pose) s := rfl

/-- The pose a fix sets, in whole millimetres (R46). -/
theorem fixPose_px (x y heading u : Half) (p : Pose) :
    (fixPose x y heading u p).px = clampRoom x.toInt ∧ (fixPose x y heading u p).py = clampRoom y.toInt := by
  simp [Pose.px, Pose.py, fixPose, floorDiv]

/-- Settles O38: the pose as taken, and the change that the fix is. -/
theorem poseSetReplacesThePose : Obligations.PoseSetReplacesThePose := by
  unfold Obligations.PoseSetReplacesThePose
  intro x y heading u s cx cy ready hcx hcy
  rw [← clampRoom_eq] at hcx hcy
  subst hcx hcy
  obtain ⟨px, py⟩ := fixPose_px x y heading u s.pose
  refine ⟨_, exec_effect rfl ready (poseSetEffect_eq x y heading u s), changeAnswered_pose _ _ _ _ _ _,
    changeAnswered_responds _ _ _ _ _ _, ?_, changeAnswered_world _ _ _ _ _ _, changeAnswered_table _ _ _ _ _ _,
    changeAnswered_config _ _ _ _ _ _, changeAnswered_ageing _ _ _ _ _ _, changeAnswered_still _ _ _ _ _ _⟩
  rw [changeAnswered_centre, px, py]

/-- Settles O47: the judgement of the change. -/
theorem poseFixJudgesTheRunningSegment : Obligations.PoseFixJudgesTheRunningSegment := by
  unfold Obligations.PoseFixJudgesTheRunningSegment
  intro x y heading u s c ready running queued straight
  obtain ⟨px, py⟩ := fixPose_px x y heading u s.pose
  refine ⟨_, exec_effect rfl ready (poseSetEffect_eq x y heading u s), changeAnswered_table _ _ _ _ _ _,
    changeAnswered_config _ _ _ _ _ _, ?_, ?_, ?_, ?_, changeAnswered_judged _ _ _ _ _ _ running queued straight⟩
  · rw [changeAnswered_pose, px, clampRoom_eq]
  · rw [changeAnswered_pose, py, clampRoom_eq]
  · rw [changeAnswered_pose]
    rfl
  · rw [changeAnswered_pose]
    rfl

end Sys2Proof.Machine
end

section
/-! The writing of the running segment's record (R92, R93) and what follows the last one: STOPPING and PARKING are left
(R167 to R169). -/

namespace Sys2Proof.Machine

/-! ### What a record leaves -/

theorem writeRecord_wheels (s : State) : (writeRecord s).drive.wheels = s.drive.wheels := by
  unfold writeRecord
  split
  · split <;> rfl
  · rfl

theorem writeRecord_atRest (s : State) : (writeRecord s).atRest = s.atRest := by
  simp only [State.atRest, writeRecord_wheels]

theorem writeRecord_guardsClear (s : State) : (writeRecord s).guardsClear = s.guardsClear := by
  simp only [State.guardsClear, writeRecord_wheels]

theorem writeRecord_queue_last {s : State} (due : s.canWrite = true) (last : s.segments.queue.tail = []) :
    (writeRecord s).segments.queue = [] := by
  obtain ⟨c, running⟩ := running_of_canWrite s due
  obtain ⟨e, cause⟩ := Option.isSome_iff_exists.mp ((canWrite_iff s c running).mp due).1
  rw [writeRecord_running_eq s c e running cause]
  exact last

/-- The last record, in a mode that waits for none (R92). -/
theorem settle_last_stays {s : State} (due : s.canWrite = true) (last : s.segments.queue.tail = [])
    (stopping : s.modes.mode ≠ .stopping) (parking : s.modes.mode ≠ .parking) : settle s = writeRecord s := by
  rw [settle_last due last, leaveStopping_stays _ (.inl (by simpa using stopping)),
    parkIfDrained_of_not _ fun parks => parking (by simpa using parks.1)]

/-- The last record in STOPPING (R167). -/
theorem settle_last_config {s : State} (due : s.canWrite = true) (last : s.segments.queue.tail = [])
    (mode : s.modes.mode = .stopping) (pending : s.modes.haltPending = false) :
    settle s = latchModeReached (enterMode .config (writeRecord s)) := by
  have left : leaveStopping (writeRecord s) = latchModeReached (enterMode .config (writeRecord s)) := by
    unfold leaveStopping
    rw [if_pos ⟨by simpa using mode, writeRecord_queue_last due last⟩, if_neg (by simp [pending])]
  rw [settle_last due last, left]
  exact parkIfDrained_of_not _ fun parks => by cases parks.1

/-- The last record in STOPPING with halt pending (R168). -/
theorem settle_last_halted {s : State} (due : s.canWrite = true) (last : s.segments.queue.tail = [])
    (mode : s.modes.mode = .stopping) (pending : s.modes.haltPending = true) :
    settle s = fallToHalted .linkLost (writeRecord s) := by
  have left : leaveStopping (writeRecord s) = fallToHalted .linkLost (writeRecord s) := by
    unfold leaveStopping
    rw [if_pos ⟨by simpa using mode, writeRecord_queue_last due last⟩, if_pos (by simp [pending])]
  rw [settle_last due last, left]
  exact parkIfDrained_of_not _ fun parks => by cases parks.1

theorem leaveStopping_parking {s : State} (mode : s.modes.mode = .parking) : leaveStopping (writeRecord s) = writeRecord s :=
  leaveStopping_stays _ (.inl (by simp [mode]))

/-- The last record in PARKING with both guards clear (R169). -/
theorem settle_last_parked {s : State} (due : s.canWrite = true) (last : s.segments.queue.tail = [])
    (mode : s.modes.mode = .parking) (guards : s.guardsClear = true) :
    settle s = latchModeReached (enterMode .parked (writeRecord s)) := by
  rw [settle_last due last, leaveStopping_parking mode]
  refine if_pos ⟨by simpa using mode, ?_⟩
  simp [State.drained, writeRecord_queue_last due last, writeRecord_atRest, atRest_of_canWrite due,
    writeRecord_guardsClear, guards]

/-- The last record in PARKING with a guard running (R169). -/
theorem settle_last_parking {s : State} (due : s.canWrite = true) (last : s.segments.queue.tail = [])
    (mode : s.modes.mode = .parking) (guards : s.guardsClear = false) : settle s = writeRecord s := by
  rw [settle_last due last, leaveStopping_parking mode]
  exact parkIfDrained_of_not _ fun parks => by
    simp [State.drained, writeRecord_guardsClear, guards] at parks

theorem settle_completions (s : State) : ∃ more, (settle s).segments.completions = s.segments.completions ++ more := by
  obtain ⟨more, written⟩ := settleLoop_completions (2 * s.segments.queue.length + 2) s
  exact ⟨more, by rw [settle, parkIfDrained_segments, written]⟩

/-! ### COMPLETION_RECORD_WRITE -/

/-- The command to write does what settling does where the record is the last, and otherwise the first step of it (R92). -/
theorem completionWriteEffect_due {s : State} (due : s.canWrite = true) :
    completionWriteEffect s = settle (leaveStopping (writeRecord s)) := if_pos due

theorem completionWriteEffect_last {s : State} (due : s.canWrite = true) (last : s.segments.queue.tail = []) :
    completionWriteEffect s = settle s := by
  have segments : (leaveStopping (writeRecord s)).segments = (writeRecord s).segments := leaveStopping_segments _
  have queue : (leaveStopping (writeRecord s)).segments.queue = [] := by
    rw [segments]
    exact writeRecord_queue_last due last
  have running : (leaveStopping (writeRecord s)).segments.running = none := by
    rw [segments]
    exact writeRecord_running s due
  rw [completionWriteEffect_due due, settle_last due last, settle,
    settleLoop_of_done _ _ (canWrite_of_no_running _ running) (canStart_of_no_queue _ queue)]

theorem completionWrite_completions {s : State} {c : Context} {e : EndCause} (running : s.segments.running = some c)
    (cause : c.cause = some e) (due : s.canWrite = true) :
    ∃ more, (completionWriteEffect s).segments.completions = s.segments.completions ++
      ⟨c.segment, e.kind, c.cancelSeen, travelledOf c, e.record, s.drive.retries, s.link.timeBase⟩ :: more := by
  obtain ⟨more, written⟩ := settle_completions (leaveStopping (writeRecord s))
  refine ⟨more, ?_⟩
  rw [completionWriteEffect_due due, written, leaveStopping_segments, writeRecord_running_eq s c e running cause]
  simp

theorem completionWrite_world (s : State) : KeepsWorld s (refresh (completionWriteEffect s)) := by
  constructor <;> simp

theorem completionWrite_plan (s : State) : KeepsPlan s (refresh (completionWriteEffect s)) := by
  constructor <;> simp

/-! ### PAUSE_TIMER_EXPIRY -/

theorem pauseTimerEffect_pause {s : State} {c : Context} {time : Nat} (running : s.segments.running = some c)
    (pause : c.segment.motion = .pause time) : pauseTimerEffect s = settle (handCause .completed none
      { s with segments := { s.segments with running := some (pauseElapsed time c) } }) := by
  simp only [pauseTimerEffect, running, pause]

theorem pauseTimerEffect_other {s : State}
    (other : ∀ c, s.segments.running = some c → c.segment.motion.isPause = false) : pauseTimerEffect s = s := by
  unfold pauseTimerEffect
  split
  next c running =>
    split
    next time pause =>
      have notPause := other c running
      simp [pause, Motion.isPause] at notPause
    · rfl
  · rfl

theorem pauseTimer_world (s : State) : KeepsWorld s (refresh (pauseTimerEffect s)) := by
  constructor <;> simp

theorem pauseTimer_plan (s : State) : KeepsPlan s (refresh (pauseTimerEffect s)) := by
  constructor <;> simp

/-- A completed PAUSE asks for no stop: its cause alone is set (R81, R90). -/
theorem handCause_pause {s : State} {c : Context} {time : Nat} (running : s.segments.running = some c)
    (pause : c.segment.motion = .pause time) (first : c.cause = none) :
    handCause .completed none s = { s with segments := { s.segments with
      running := some { c with cause := some ⟨.completed, none⟩, phase := .stopping } } } := by
  rw [handCause_taken _ _ _ c running (takesCause_first c _ first)]
  simp [stopForCause, pause, Motion.isPause, dropPendingResponse]

theorem pause_dropped {c : Context} {time : Nat} {e : EndCause} (pause : c.segment.motion = .pause time)
    (cause : c.cause = some e) : takesCause c .completed = false := by
  simp [takesCause, cause, replacesCause, pause]

theorem atRest_of_same {s t : State} (h : AtRest s) (drive : t.drive = s.drive) (floor : t.floor = s.floor) :
    AtRest t := by
  obtain ⟨rest, move, unjam, result⟩ := h
  exact ⟨atRest_of_drive drive rest, by rw [drive, move], by rw [drive, unjam], by rw [floor, result]⟩

/-- Settles O51: the last record by the mode that waits for it, and the PAUSE whose time has run out. -/
theorem runningRecordIsWritten : Obligations.RunningRecordIsWritten := by
  unfold Obligations.RunningRecordIsWritten
  intro s ready
  refine ⟨fun notDue => exec_effect rfl ready (if_neg (by simp [notDue])), ?_, ?_, ?_,
    fun other => exec_effect rfl ready (pauseTimerEffect_other other)⟩
  · rintro c e rest r running cause queue atRest rfl
    have due : s.canWrite = true := (canWrite_iff s c running).mpr ⟨by simp [cause], atRest⟩
    have record := writeRecord_running_eq s c e running cause
    refine ⟨_, exec_effect rfl ready rfl, completionWrite_world s, completionWrite_plan s, by simp,
      completionWrite_completions running cause due, fun single stopping parking => ?_, fun single mode pending => ?_,
      fun single mode pending => ?_, fun single mode => ⟨fun guards => ?_, fun guards => ?_⟩⟩
    all_goals
      have last : s.segments.queue.tail = [] := by rw [queue, single]; rfl
      rw [completionWriteEffect_last due last]
    · rw [settle_last_stays due last stopping parking, record, last]
      rfl
    · rw [settle_last_config due last mode pending]
      exact ⟨by simp [enterMode, isRestMode, latchModeReached], by simp [latchModeReached]⟩
    · rw [settle_last_halted due last mode pending, fallToHalted_eq]
      exact ⟨by simp, by simp⟩
    · rw [settle_last_parked due last mode guards]
      exact ⟨by simp [enterMode, isRestMode, latchModeReached], by simp [latchModeReached], sensorPowerOn_parked rfl⟩
    · rw [settle_last_parking due last mode guards]
      exact ⟨by simp, by simp⟩
  · intro c e time rest running cause pause queue result
    refine exec_effect rfl ready ?_
    rw [pauseTimerEffect_pause running pause, handCause_dropped _ _ _ (pauseElapsed time c) rfl (pause_dropped pause cause)]
    exact settle_of_no_write _ (pauseElapsed time c) rfl (canWrite_of_result_pending _ result) (by simp [queue])
  · intro c time rest running first pause queue atRest
    have elapsed := pauseTimerEffect_pause running pause
    rw [handCause_pause (c := pauseElapsed time c) rfl pause first] at elapsed
    obtain ⟨more, written⟩ := settle_writes
      { s with segments := { s.segments with
        running := some { pauseElapsed time c with cause := some ⟨.completed, none⟩, phase := .stopping } } } _
      ⟨.completed, none⟩ rfl rfl (atRest_of_same atRest rfl rfl)
    refine ⟨_, more, exec_effect rfl ready rfl, pauseTimer_world s, pauseTimer_plan s, ?_⟩
    have travelled : travelledOf { pauseElapsed time c with cause := some ⟨.completed, none⟩, phase := .stopping } =
        max c.progress time := by
      rw [travelledOf_eq]
      simp only [pauseElapsed, pause]
    rw [travelled] at written
    rw [refresh_segments, elapsed]
    exact written

end Sys2Proof.Machine
end

section
/-! SEGMENT_CANCEL and SEGMENT_FLUSH (R94, R96): a waiting segment, and the running one by whether it is at rest and has its
cause. -/

namespace Sys2Proof.Machine

/-! ### Tags -/

/-- Distinct tags name one segment each (R75). -/
theorem eq_of_tag {l : List Segment} (distinct : (l.map Segment.tag).Nodup) {x y : Segment} (hx : x ∈ l) (hy : y ∈ l)
    (same : x.tag = y.tag) : x = y := List.inj_on_of_nodup_map distinct hx hy same

theorem find_tag {l : List Segment} (distinct : (l.map Segment.tag).Nodup) {g : Segment} {tag : Nat} (mem : g ∈ l)
    (tagged : g.tag = tag) : (l.find? fun x => decide (x.tag = tag)) = some g := by
  obtain ⟨x, found⟩ : ∃ x, (l.find? fun x => decide (x.tag = tag)) = some x :=
    Option.isSome_iff_exists.mp (List.find?_isSome.mpr ⟨g, mem, by simpa using tagged⟩)
  have same : x.tag = tag := by simpa using List.find?_some found
  rw [found, eq_of_tag distinct (List.mem_of_find?_eq_some found) mem (same.trans tagged.symm)]

/-- The queue closes up behind the segment that leaves (R94). -/
theorem erase_eq_filter_tag {l : List Segment} (distinct : (l.map Segment.tag).Nodup) {g : Segment} {tag : Nat}
    (mem : g ∈ l) (tagged : g.tag = tag) : l.erase g = l.filter fun x => decide (x.tag ≠ tag) := by
  rw [distinct.of_map.erase_eq_filter]
  refine List.filter_congr fun x hx => ?_
  rw [Bool.eq_iff_iff, bne_iff_ne, decide_eq_true_eq]
  refine not_congr ⟨fun same => by rw [same, tagged], fun same => ?_⟩
  exact eq_of_tag distinct hx mem (same.trans tagged.symm)

theorem tagRunning_running {s : State} {c : Context} {tag : Nat} (running : s.segments.running = some c) :
    tagRunning s tag = decide (c.segment.tag = tag) := by simp [tagRunning, running]

theorem tagRunning_none {s : State} {tag : Nat} (running : s.segments.running = none) : tagRunning s tag = false := by
  simp [tagRunning, running]

theorem waiting_of_running {g : Segments} {c : Context} {rest : List Segment} (running : g.running = some c)
    (queue : g.queue = c.segment :: rest) : g.waiting = rest := by simp [Segments.waiting, running, queue]

theorem waiting_of_none {g : Segments} (running : g.running = none) : g.waiting = g.queue := by
  simp [Segments.waiting, running]

/-! ### SEGMENT_CANCEL -/

theorem segmentCancelEffect_running {tag : Byte} {s : State} {c : Context} (running : s.segments.running = some c)
    (tagged : c.segment.tag = tag.toNat) : segmentCancelEffect tag s = cancelRunning tag s :=
  if_pos (by rw [tagRunning_running running]; simpa using tagged)

theorem segmentCancelEffect_waiting {tag : Byte} {s : State} {g : Segment} (notRunning : tagRunning s tag.toNat = false)
    (found : (s.segments.waiting.find? fun x => decide (x.tag = tag.toNat)) = some g) :
    segmentCancelEffect tag s =
      settle (respond 0x14 .ok (cancelBody tag 1 (cancelWaiting g s)) (cancelWaiting g s)) := by
  rw [segmentCancelEffect, if_neg (by simp [notRunning]), found]

theorem segmentCancelEffect_notFound {tag : Byte} {s : State} (notRunning : tagRunning s tag.toNat = false)
    (none : (s.segments.waiting.find? fun x => decide (x.tag = tag.toNat)) = Option.none) :
    segmentCancelEffect tag s = respond 0x14 .notFound [tag, 0] s := by
  rw [segmentCancelEffect, if_neg (by simp [notRunning]), none]

/-- A waiting segment is cancelled: where nothing is due, its record and the answer are all (R94). -/
theorem cancelWaiting_settled {tag : Byte} {s : State} {g : Segment} (ok : SegmentsOk s.segments)
    (mem : g ∈ s.segments.queue) (tagged : g.tag = tag.toNat) (notRunning : tagRunning s tag.toNat = false)
    (waits : g ∈ s.segments.waiting) (distinct : (s.segments.waiting.map Segment.tag).Nodup)
    (quiet : ∀ t : State, t.segments.running = s.segments.running → t.segments.queue = s.segments.queue.erase g →
      t.drive = s.drive → t.floor = s.floor → t.dock = s.dock → t.modes = s.modes → settle t = t) :
    segmentCancelEffect tag (acceptFrame s) = { s with
      segments := { s.segments with
        queue := s.segments.queue.filter fun x => decide (x.tag ≠ tag.toNat)
        completions := s.segments.completions ++ [⟨g, .cancelled, true, 0, none, 0, s.link.timeBase⟩] }
      link := answerLink 0x14 .ok [tag, 1, toByte (s.segments.queue.length - 1)] s } := by
  rw [segmentCancelEffect_waiting (s := acceptFrame s) notRunning (find_tag distinct waits tagged),
    ← erase_eq_filter_tag ok.tags_distinct mem tagged, ← List.length_erase_of_mem mem]
  exact quiet (respond 0x14 .ok (cancelBody tag 1 (cancelWaiting g (acceptFrame s)))
    (cancelWaiting g (acceptFrame s))) rfl rfl rfl rfl rfl rfl

/-! ### The running segment -/

/-- The running segment marked (R94). -/
theorem markCancelled_running {s : State} {c : Context} (running : s.segments.running = some c) :
    markCancelled s = { s with segments := { s.segments with running := some { c with cancelSeen := true } } } := by
  simp [markCancelled, running]

theorem stopForCause_cancelled (cfg : Settings) (m : Motion) : stopForCause cfg m .cancelled = some .ramp := rfl

theorem stopForCause_flushed (cfg : Settings) (m : Motion) : stopForCause cfg m .flushed = some .ramp := rfl

theorem takesCause_later {c : Context} {e : EndCause} (cause : c.cause = some e) {kind : EndKind}
    (kinds : kind = .cancelled ∨ kind = .flushed) : takesCause c kind = false := by
  rcases kinds with rfl | rfl <;> simp [takesCause, cause, replacesCause]

/-- The first cause of a running segment that a cancel names (R94). -/
theorem markedCause_first {s : State} {c : Context} (running : s.segments.running = some c) (first : c.cause = none)
    (stop : s.drive.stop = .none) : handCause .cancelled none (markCancelled s) = { s with
      segments := { s.segments with
        running := some { c with cancelSeen := true, cause := some ⟨.cancelled, none⟩, phase := .stopping } }
      drive := rampFrom c.holdTarget s.drive } := by
  rw [markCancelled_running running,
    handCause_first (c := { c with cancelSeen := true }) ?_ first (stopForCause_cancelled _ _) ?_ ?_]
  · rfl
  · rfl
  · exact stop

/-- A cancel of a segment that is stopping only marks it (R94). -/
theorem markedCause_later {s : State} {c : Context} {e : EndCause} (running : s.segments.running = some c)
    (cause : c.cause = some e) : handCause .cancelled none (markCancelled s) =
      { s with segments := { s.segments with running := some { c with cancelSeen := true } } } := by
  rw [markCancelled_running running,
    handCause_dropped _ _ _ { c with cancelSeen := true } ?_ (takesCause_later (e := e) cause (.inl rfl))]
  rfl

/-- A cancel of a running segment whose record is not due (R94). -/
theorem cancelRunning_moving {tag : Byte} {s u : State} {d : Context}
    (handed : handCause .cancelled none (markCancelled s) = u) (running : u.segments.running = some d)
    (notDue : u.canWrite = false) (queued : u.segments.queue ≠ []) :
    cancelRunning tag s = respond 0x14 .ok [tag, 2, toByte u.segments.queue.length] u := by
  have settled : settle (respond 0x14 .ok (cancelBody tag 2 u) u) = respond 0x14 .ok (cancelBody tag 2 u) u :=
    settle_of_no_write _ d running notDue queued
  unfold cancelRunning
  rw [handed, show writeDue u = u from if_neg (by simp [notDue])]
  exact settled

theorem canWrite_of_not_atRest {s : State} (h : ¬ AtRest s) : s.canWrite = false := by
  cases running : s.segments.running with
  | none => exact canWrite_of_no_running s running
  | some c => exact Bool.eq_false_iff.mpr fun due => h ((canWrite_iff s c running).mp due).2

theorem not_atRest_of_same {s t : State} (h : ¬ AtRest s) (drive : t.drive = s.drive) (floor : t.floor = s.floor) :
    ¬ AtRest t := fun rest => h (atRest_of_same rest drive.symm floor.symm)

/-- A first cause of a moving segment waits for its stop: nothing is due (R92). -/
theorem canWrite_of_ramp {s t : State} {hold : Option Nat} (drive : t.drive = rampFrom hold s.drive)
    (moving : s.atRest = false) : t.canWrite = false := by
  obtain ⟨left, right⟩ := rampFrom_wheels hold s.drive
  refine canWrite_of_moving t ?_
  rw [atRest_of_setpoints (s := s) (by rw [drive, left]) (by rw [drive, right]), moving]

/-! ### SEGMENT_FLUSH -/

theorem flushWaiting_running {s : State} {c : Context} (running : s.segments.running = some c) :
    flushWaiting s = { s with segments := ⟨s.segments.queue.take 1, some c, s.segments.completions ++
      s.segments.queue.tail.map (waitingRecord .flushed false s.link.timeBase)⟩ } := by
  simp [flushWaiting, Segments.waiting, running]

theorem flushWaiting_none {s : State} (running : s.segments.running = none) :
    flushWaiting s = { s with segments := ⟨[], none, s.segments.completions ++
      s.segments.queue.map (waitingRecord .flushed false s.link.timeBase)⟩ } := by
  simp [flushWaiting, Segments.waiting, running]

theorem flushBody_running {s : State} {c : Context} (running : s.segments.running = some c) :
    flushBody s = [toByte s.segments.queue.tail.length, 1] := by
  simp [flushBody, Segments.waiting, running, flagByte]

theorem flushBody_none {s : State} (running : s.segments.running = none) :
    flushBody s = [toByte s.segments.queue.length, 0] := by
  simp [flushBody, Segments.waiting, running, flagByte]

theorem segmentFlushEffect_running {s : State} {c : Context} (running : s.segments.running = some c) :
    segmentFlushEffect (acceptFrame s) = settle (handCause .flushed none { s with
      segments := ⟨s.segments.queue.take 1, some c, s.segments.completions ++
        s.segments.queue.tail.map (waitingRecord .flushed false s.link.timeBase)⟩
      link := answerLink 0x15 .ok [toByte s.segments.queue.tail.length, 1] s }) := by
  rw [segmentFlushEffect, flushBody_running (s := acceptFrame s) running,
    flushWaiting_running (s := respond 0x15 .ok _ (acceptFrame s)) running]
  rfl

theorem take_one_ne_nil {l : List Segment} (h : l ≠ []) : l.take 1 ≠ [] := by
  cases l with
  | nil => exact absurd rfl h
  | cons x l => simp

/-- A flush of a running segment with no cause, moving (R96). -/
theorem segmentFlush_moving {s : State} {c : Context} (running : s.segments.running = some c) (moving : s.atRest = false)
    (stop : s.drive.stop = .none) (first : c.cause = none) (queued : s.segments.queue ≠ []) :
    segmentFlushEffect (acceptFrame s) = { s with
      segments := ⟨s.segments.queue.take 1, some { c with cause := some ⟨.flushed, none⟩, phase := .stopping },
        s.segments.completions ++ s.segments.queue.tail.map (waitingRecord .flushed false s.link.timeBase)⟩
      drive := rampFrom c.holdTarget s.drive
      link := answerLink 0x15 .ok [toByte s.segments.queue.tail.length, 1] s } := by
  rw [segmentFlushEffect_running running, handCause_first (c := c) ?_ first (stopForCause_flushed _ _) ?_ ?_]
  · exact settle_of_no_write _ _ rfl (canWrite_of_ramp (s := s) rfl moving) (take_one_ne_nil queued)
  · rfl
  · rfl
  · exact stop

/-- A flush of a running segment that is stopping (R96). -/
theorem segmentFlush_stopping {s : State} {c : Context} {e : EndCause} (running : s.segments.running = some c)
    (notAtRest : ¬ AtRest s) (cause : c.cause = some e) (queued : s.segments.queue ≠ []) :
    segmentFlushEffect (acceptFrame s) = { s with
      segments := ⟨s.segments.queue.take 1, some c, s.segments.completions ++
        s.segments.queue.tail.map (waitingRecord .flushed false s.link.timeBase)⟩
      link := answerLink 0x15 .ok [toByte s.segments.queue.tail.length, 1] s } := by
  rw [segmentFlushEffect_running running, handCause_dropped _ _ _ c rfl (takesCause_later cause (.inr rfl))]
  exact settle_of_no_write _ c rfl (canWrite_of_not_atRest (not_atRest_of_same notAtRest rfl rfl))
    (take_one_ne_nil queued)

theorem segmentFlush_idle {s : State} (running : s.segments.running = none) (mode : s.modes.mode ≠ .parking) :
    segmentFlushEffect (acceptFrame s) = { s with
      segments := ⟨[], none, s.segments.completions ++
        s.segments.queue.map (waitingRecord .flushed false s.link.timeBase)⟩
      link := answerLink 0x15 .ok [toByte s.segments.queue.length, 0] s } := by
  rw [segmentFlushEffect, flushBody_none (s := acceptFrame s) running,
    flushWaiting_none (s := respond 0x15 .ok _ (acceptFrame s)) running, handCause_idle _ _ _ rfl]
  exact settle_of_idle _ ⟨rfl, rfl, mode⟩

/-- Where the flushed one is at rest its record comes last (R92, R96). -/
theorem segmentFlush_resting {s : State} {c : Context} {rest : List Segment} (running : s.segments.running = some c)
    (queue : s.segments.queue = c.segment :: rest) (still : s.atRest = true) (result : s.floor.resultPending = false)
    (stop : s.drive.stop = .none) (first : c.cause = none) :
    (segmentFlushEffect (acceptFrame s)).segments = ⟨[], none, s.segments.completions ++
      rest.map (waitingRecord .flushed false s.link.timeBase) ++
      [⟨c.segment, .flushed, c.cancelSeen, travelledOf c, none, s.drive.retries, s.link.timeBase⟩]⟩ := by
  rw [segmentFlushEffect_running running, handCause_first (c := c) ?_ first (stopForCause_flushed _ _) ?_ ?_]
  · rw [queue]
    refine (settle_last_segments (c := { c with cause := some ⟨.flushed, none⟩, phase := .stopping })
      (e := ⟨.flushed, none⟩) ?_ ?_ ?_ ?_).trans ?_
    · rfl
    · rfl
    · exact atRest_of_ramp (s := s) (hold := c.holdTarget) rfl still result
    · rfl
    · rfl
  · rfl
  · rfl
  · exact stop

theorem respondsTo {code : Byte} {body : List Byte} {s t : State} (link : t.link = answerLink code .ok body s) :
    Responds code .ok body s t := by
  constructor <;> rw [link] <;> rfl

/-- A cancel at rest: the record is written, and then the answer formed (R92, R94; log 21). -/
theorem cancelRunning_resting {tag : Byte} {s : State} {c : Context} {rest : List Segment}
    (running : s.segments.running = some c) (queue : s.segments.queue = c.segment :: rest) (still : s.atRest = true)
    (result : s.floor.resultPending = false) (stop : s.drive.stop = .none) (first : c.cause = none) :
    ∃ u more, cancelRunning tag s = settle u ∧ u.link = (respond 0x14 .ok [tag, 2, toByte rest.length] s).link ∧
      u.segments.running = none ∧ u.segments.queue = rest ∧ (settle u).segments.completions = s.segments.completions ++
        ⟨c.segment, .cancelled, true, travelledOf c, none, s.drive.retries, s.link.timeBase⟩ :: more ∧
      (rest = [] → more = [] ∧ (settle u).segments.queue = [] ∧ (settle u).segments.running = none) := by
  obtain ⟨v, hv⟩ : ∃ v, v = handCause .cancelled none (markCancelled s) := ⟨_, rfl⟩
  have handed := hv.trans (markedCause_first running first stop)
  have vrunning : v.segments.running = some { c with
      cause := some ⟨.cancelled, none⟩, phase := .stopping, cancelSeen := true } := by rw [handed]
  have vrest : AtRest v := atRest_of_ramp (s := s) (by rw [handed]) still (by rw [handed]; exact result)
  have due : v.canWrite = true := (canWrite_iff v _ vrunning).mpr ⟨rfl, vrest⟩
  obtain ⟨w, hw⟩ : ∃ w, w = leaveStopping (writeRecord v) := ⟨_, rfl⟩
  have wsegments : w.segments = ⟨rest, none, s.segments.completions ++
      [⟨c.segment, .cancelled, true, travelledOf c, none, s.drive.retries, s.link.timeBase⟩]⟩ := by
    rw [hw, leaveStopping_segments, writeRecord_running_eq v _ ⟨.cancelled, none⟩ vrunning rfl, handed]
    simp only [queue]
    rfl
  have wlink : w.link = s.link := by rw [hw, handed]; simp
  have written : cancelRunning tag s = settle (respond 0x14 .ok [tag, 2, toByte rest.length] w) := by
    unfold cancelRunning
    rw [← hv, show writeDue v = w from (if_pos due).trans hw.symm]
    simp only [cancelBody, wsegments]
  obtain ⟨more, grown⟩ := settle_completions (respond 0x14 .ok [tag, 2, toByte rest.length] w)
  have completions : (settle (respond 0x14 .ok [tag, 2, toByte rest.length] w)).segments.completions =
      s.segments.completions ++
        ⟨c.segment, .cancelled, true, travelledOf c, none, s.drive.retries, s.link.timeBase⟩ :: more := by
    rw [grown, respond_segments, wsegments]
    simp
  have still (last : rest = []) : (settle (respond 0x14 .ok [tag, 2, toByte rest.length] w)).segments = w.segments := by
    have idleQueue : w.segments.queue = [] := by rw [wsegments, last]
    have idleRunning : w.segments.running = none := by rw [wsegments]
    obtain ⟨u, hu⟩ : ∃ u, u = respond 0x14 .ok [tag, 2, toByte rest.length] w := ⟨_, rfl⟩
    have same : u.segments = w.segments := by rw [hu, respond_segments]
    rw [← hu, settle, settleLoop_of_done _ _ (canWrite_of_no_running u (same ▸ idleRunning))
      (canStart_of_no_queue u (same ▸ idleQueue)), parkIfDrained_segments, same]
  refine ⟨_, more, written, ?_, ?_, ?_, completions, fun last => ⟨?_, ?_, ?_⟩⟩
  · simp only [respond, wlink]
  · rw [respond_segments, wsegments]
  · rw [respond_segments, wsegments]
  · rw [still last, wsegments] at completions
    simpa using completions
  · rw [still last, wsegments]
    exact last
  · rw [still last, wsegments]

/-- Settles O53: a waiting segment by its tag, the running one by its cause and its wheels. -/
theorem cancelAndFlushEndSegments : Obligations.CancelAndFlushEndSegments := by
  unfold Obligations.CancelAndFlushEndSegments
  intro tag s ready ok
  refine ⟨fun absent => ?_, fun g c mem tagged running other quiet => ?_, fun g mem tagged running parking quiet => ?_,
    fun c running moving stop first => ⟨fun tagged => ?_, ?_⟩,
    fun c rest running queue still result stop first => ⟨fun tagged => ?_, ?_⟩,
    fun c e running notAtRest cause => ⟨fun tagged => ?_, ?_⟩, fun running parking => ?_⟩
  · have notRunning : tagRunning (acceptFrame s) tag.toNat = false := by
      cases running : s.segments.running with
      | none => exact tagRunning_none running
      | some c =>
        obtain ⟨rest, queue⟩ := ok.queue_of_running running
        rw [tagRunning_running (s := acceptFrame s) running]
        exact decide_eq_false (absent c.segment (by simp [queue]))
    have none : ((acceptFrame s).segments.waiting.find? fun x => decide (x.tag = tag.toNat)) = Option.none := by
      refine List.find?_eq_none.mpr fun x hx => ?_
      have mem : x ∈ s.segments.queue := by
        unfold Segments.waiting at hx
        split at hx
        · exact List.mem_of_mem_tail hx
        · exact hx
      simpa using absent x mem
    exact onRequest_answered ready (segmentCancelEffect_notFound notRunning none)
  · obtain ⟨rest, queue⟩ := ok.queue_of_running running
    have notRunning : tagRunning s tag.toNat = false := by
      rw [tagRunning_running running]
      refine decide_eq_false fun same => other ?_
      exact eq_of_tag ok.tags_distinct (by simp [queue]) mem (same.trans tagged.symm)
    have inRest : g ∈ rest := by
      rw [queue] at mem
      exact (List.mem_cons.mp mem).resolve_left fun same => other same.symm
    have waiting := waiting_of_running running queue
    have distinct : (rest.map Segment.tag).Nodup := by
      have all := ok.tags_distinct
      rw [queue] at all
      exact (List.nodup_cons.mp all).2
    refine exec_effect rfl ready (cancelWaiting_settled ok mem tagged notRunning (by rw [waiting]; exact inRest)
      (by rw [waiting]; exact distinct) fun t hr hq hd hf _ _ => ?_)
    have notDue : t.canWrite = false := by
      rcases quiet with first | notAtRest
      · exact canWrite_of_no_cause t c (hr.trans running) first
      · exact canWrite_of_not_atRest (not_atRest_of_same notAtRest hd hf)
    refine settle_of_no_write t c (hr.trans running) notDue ?_
    rw [hq, queue, List.erase_cons_tail (by simpa using other)]
    exact List.cons_ne_nil _ _
  · have waiting := waiting_of_none running
    refine exec_effect rfl ready (cancelWaiting_settled ok mem tagged (tagRunning_none running)
      (by rw [waiting]; exact mem) (by rw [waiting]; exact ok.tags_distinct) fun t hr _ hd _ hk hm => ?_)
    refine settle_of_settled t ⟨canWrite_of_no_running t (hr.trans running), ?_, fun parks => ?_⟩
    · refine Bool.eq_false_iff.mpr fun start => ?_
      obtain ⟨-, -, mode, -, undock⟩ := (canStart_iff t).mp start
      rw [hm] at mode
      rw [hk] at undock
      rcases quiet with notActive | wait
      · exact mode.elim notActive parking
      · exact undock wait
    · rw [hm] at parks
      exact parking parks.1
  · obtain ⟨rest, queue⟩ := ok.queue_of_running running
    refine exec_effect rfl ready ((segmentCancelEffect_running (s := acceptFrame s) running tagged).trans ?_)
    refine (cancelRunning_moving (markedCause_first (s := acceptFrame s) running first stop) rfl
      (canWrite_of_ramp (s := s) rfl moving) (by simp [queue])).trans rfl
  · obtain ⟨rest, queue⟩ := ok.queue_of_running running
    exact exec_effect rfl ready (segmentFlush_moving running moving stop first (by simp [queue]))
  · obtain ⟨u, more, cancelled, link, -, -, completions, last⟩ :=
      cancelRunning_resting (tag := tag) (s := acceptFrame s) running queue still result stop first
    refine ⟨_, more, exec_effect rfl ready
      ((segmentCancelEffect_running (s := acceptFrame s) running tagged).trans cancelled), ?_, completions, last⟩
    exact respondsTo (by rw [refresh_link, settle_link, link]; rfl)
  · refine ⟨_, exec_effect rfl ready rfl, respondsTo ?_, segmentFlush_resting running queue still result stop first⟩
    rw [refresh_link, segmentFlushEffect_running running, queue]
    simp
  · obtain ⟨rest, queue⟩ := ok.queue_of_running running
    refine exec_effect rfl ready ((segmentCancelEffect_running (s := acceptFrame s) running tagged).trans ?_)
    refine (cancelRunning_moving (markedCause_later (s := acceptFrame s) running cause) rfl
      (canWrite_of_not_atRest (not_atRest_of_same notAtRest rfl rfl)) (by simp [queue])).trans rfl
  · obtain ⟨rest, queue⟩ := ok.queue_of_running running
    exact exec_effect rfl ready (segmentFlush_stopping running notAtRest cause (by simp [queue]))
  · exact exec_effect rfl ready (segmentFlush_idle running parking)

end Sys2Proof.Machine
end

section
/-! Link silence, MODE_CONFIG and PARK: the flush of the segments and the way to HALTED, CONFIG and PARKED (R119, R163, R167 to
R169). -/

namespace Sys2Proof.Machine

/-! ### Link silence -/

/-- A part in HALTED with nothing queued at most writes the record that its rest makes due (R92). -/
theorem settle_halted {s : State} (mode : s.modes.mode = .halted) (queue : s.segments.queue = []) :
    (settle s).modes = s.modes ∧ (settle s).latches = s.latches ∧ (settle s).segments.queue = [] := by
  cases due : s.canWrite with
  | true =>
    rw [settle_last_stays due (by rw [queue]; rfl) (by simp [mode]) (by simp [mode])]
    refine ⟨writeRecord_modes s, writeRecord_latches s, ?_⟩
    exact writeRecord_queue_last due (by rw [queue]; rfl)
  | false =>
    rw [settle_of_settled s ⟨due, canStart_of_no_queue s queue, fun parks => by simp [mode] at parks⟩]
    exact ⟨rfl, rfl, queue⟩

/-- LINK_LOST over any cause but LIFTED (R90): the response still pending is dropped, and a RAMP joins the stop. -/
theorem handCause_linkLost {s : State} {c : Context} (running : s.segments.running = some c)
    (notLifted : ∀ e, c.cause = some e → e.kind ≠ .lifted) :
    handCause .linkLost none s = { s with
      segments := { s.segments with running := some { c with cause := some ⟨.linkLost, none⟩, phase := .stopping } }
      floor := if s.floor.resultPending then { s.floor with response := none } else s.floor
      drive := if s.drive.stop = .none then rampFrom c.holdTarget s.drive else s.drive } := by
  have taken : takesCause c .linkLost = true := by
    cases cause : c.cause with
    | none => exact takesCause_first c .linkLost cause
    | some e => simp [takesCause, cause, replacesCause, notLifted e cause]
  have stop : combineStop s.config c.segment.motion.isStraight c.holdTarget.isSome .ramp s.drive =
      if s.drive.stop = .none then rampFrom c.holdTarget s.drive else s.drive := by
    by_cases none : s.drive.stop = .none
    · rw [combineStop_none _ _ _ _ _ none, if_pos none]
      exact beginRamp_eq _ _
    · cases stop : s.drive.stop <;> simp_all [combineStop]
  rw [handCause_taken .linkLost none s c running taken, ← stop]
  rfl

/-- The state in which LINK_LOST stands, before its record (R163). -/
def lostWith (c : Context) (rest : List Segment) (s : State) : State :=
  { s with
    segments := ⟨[c.segment], some { c with cause := some ⟨.linkLost, none⟩, phase := .stopping },
      s.segments.completions ++ rest.map (waitingRecord .flushed false s.link.timeBase)⟩
    floor := if s.floor.resultPending then { s.floor with response := none } else s.floor
    drive := if s.drive.stop = .none then rampFrom c.holdTarget s.drive else s.drive }

theorem lostWith_eq {s : State} {c : Context} {rest : List Segment} (running : s.segments.running = some c)
    (queue : s.segments.queue = c.segment :: rest) (notLifted : ∀ e, c.cause = some e → e.kind ≠ .lifted) :
    handCause .linkLost none (flushWaiting s) = lostWith c rest s := by
  rw [flushWaiting_running running, handCause_linkLost (c := c) ?_ notLifted, queue]
  · rfl
  · rfl

theorem lostWith_atRest (c : Context) (rest : List Segment) (s : State) : (lostWith c rest s).atRest = s.atRest := by
  obtain ⟨left, right⟩ := rampFrom_wheels c.holdTarget s.drive
  unfold lostWith State.atRest
  by_cases none : s.drive.stop = .none
  · simp [none, left, right]
  · simp [none]

theorem lostWith_retries (c : Context) (rest : List Segment) (s : State) :
    (lostWith c rest s).drive.retries = s.drive.retries := by
  unfold lostWith
  by_cases none : s.drive.stop = .none
  · simp [none, rampFrom]
  · simp [none]

/-- LINK_LOST waits for the wheels and for the move in progress (R92). -/
theorem lostWith_notDue {c : Context} {rest : List Segment} {s : State}
    (h : s.atRest = false ∨ s.drive.stop.moveInProgress = true) : (lostWith c rest s).canWrite = false := by
  refine canWrite_of_not_atRest fun still => ?_
  rcases h with moving | move
  · have := still.rest
    rw [lostWith_atRest, moving] at this
    cases this
  · have noMove : (if s.drive.stop = .none then rampFrom c.holdTarget s.drive else s.drive).stop.moveInProgress = false :=
      still.no_move
    rw [if_neg (fun none => by rw [none] at move; cases move), move] at noMove
    cases noMove

theorem lostWith_due {c : Context} {rest : List Segment} {s : State} (still : s.atRest = true)
    (noMove : s.drive.stop.moveInProgress = false) (unjam : s.drive.unjam = none ∨ s.drive.stop = .none) :
    (lostWith c rest s).canWrite = true := by
  refine (canWrite_iff _ _ rfl).mpr ⟨rfl, (lostWith_atRest c rest s).trans still, ?_, ?_, ?_⟩
  · by_cases none : s.drive.stop = .none
    · simp [lostWith, none, rampFrom, Stop.moveInProgress]
    · simp [lostWith, none, noMove]
  · by_cases none : s.drive.stop = .none
    · simp [lostWith, none, rampFrom]
    · simp [lostWith, none, unjam.resolve_right none]
  · cases pending : s.floor.resultPending with
    | true => exact congrArg Floor.resultPending (if_pos pending)
    | false => exact (congrArg Floor.resultPending (if_neg (by simp [pending]))).trans pending

theorem flushWaiting_queue {s : State} (left : (flushWaiting s).segments.queue ≠ []) :
    (∃ c, s.segments.running = some c) ∧ (flushWaiting s).segments.queue = s.segments.queue.take 1 := by
  cases running : s.segments.running with
  | none => exact absurd (by rw [flushWaiting_none running]) left
  | some c => exact ⟨⟨c, rfl⟩, by rw [flushWaiting_running running]⟩

/-- What the flush and the cause leave in the queue is the running segment or nothing (R96, R163). -/
theorem queue_flushed (kind : EndKind) (s : State) :
    (writeIfDue (handCause kind none (flushWaiting s))).segments.queue = [] ∨
      (∃ c, s.segments.running = some c) ∧ (handCause kind none (flushWaiting s)).canWrite = false ∧
        (handCause kind none (flushWaiting s)).segments.queue = s.segments.queue.take 1 ∧
        s.segments.queue.take 1 ≠ [] := by
  by_cases empty : (flushWaiting s).segments.queue = []
  · refine .inl ?_
    unfold writeIfDue
    split
    · next due => exact writeRecord_queue_last due (by rw [handCause_queue, empty]; rfl)
    · rw [handCause_queue, empty]
  · obtain ⟨running, queue⟩ := flushWaiting_queue empty
    cases due : (handCause kind none (flushWaiting s)).canWrite with
    | true =>
      refine .inl ?_
      rw [writeIfDue, if_pos due]
      exact writeRecord_queue_last due (by
        rw [handCause_queue, queue]
        cases s.segments.queue <;> rfl)
    | false =>
      exact .inr ⟨running, rfl, (handCause_queue _ _ _).trans queue, queue ▸ empty⟩

theorem linkLost_halts {s : State} (empty : (writeIfDue (handCause .linkLost none (flushWaiting s))).segments.queue = []) :
    linkLost s = fallToHalted .linkLost (writeIfDue (handCause .linkLost none (flushWaiting s))) := by
  simp [linkLost, empty]

theorem linkLost_stops {s u : State} (handed : handCause .linkLost none (flushWaiting s) = u)
    (notDue : u.canWrite = false) (left : u.segments.queue ≠ []) :
    linkLost s = { u with modes := { u.modes with mode := .stopping, wakeTimer := none, haltPending := true } } := by
  have written : writeIfDue u = u := by rw [writeIfDue, if_neg (by simp [notDue])]
  rw [linkLost, handed, written, if_neg (by simpa using left), enterMode_moving .stopping u rfl]

/-- LINK_SILENCE_EXPIRY in a taking mode, by what is left in the queue (R163). -/
theorem linkLost_modes (s : State) :
    ((settle (linkLost s)).segments.queue = [] → (settle (linkLost s)).modes.mode = .halted ∧
      (settle (linkLost s)).modes.haltReason = .linkLost ∧
      (settle (linkLost s)).latches = { s.latches with modeReached := true, halt := true }) ∧
    ((settle (linkLost s)).segments.queue ≠ [] → (settle (linkLost s)).modes.mode = .stopping ∧
      (settle (linkLost s)).modes.haltPending = true ∧ (settle (linkLost s)).latches = s.latches ∧
      (settle (linkLost s)).segments.queue = s.segments.queue.take 1) := by
  rcases queue_flushed .linkLost s with empty | ⟨⟨c, running⟩, notDue, queue, left⟩
  · have halts := linkLost_halts empty
    obtain ⟨modes, latches, settled⟩ := settle_halted (s := linkLost s) (by rw [halts]; rfl)
      (by rw [halts, fallToHalted_segments]; exact empty)
    refine ⟨fun _ => ?_, fun h => absurd settled h⟩
    rw [modes, latches, halts, fallToHalted_eq]
    exact ⟨rfl, rfl, by simp [flushWaiting]⟩
  · obtain ⟨u, hu⟩ : ∃ u, u = handCause .linkLost none (flushWaiting s) := ⟨_, rfl⟩
    rw [← hu] at notDue queue
    have stops := linkLost_stops hu.symm notDue (by rw [queue]; exact left)
    have settled : settle (linkLost s) = linkLost s := by
      obtain ⟨d, urunning⟩ : ∃ d, u.segments.running = some d := by
        have kept := handCause_segment .linkLost none (flushWaiting s)
        rw [← hu, flushWaiting_running running] at kept
        obtain ⟨d, hd, -⟩ := Option.map_eq_some_iff.mp kept
        exact ⟨d, hd⟩
      rw [stops]
      exact settle_of_no_write _ d urunning notDue (by
        rw [queue]
        exact left)
    rw [settled]
    refine ⟨fun none => ?_, fun _ => ?_⟩
    · rw [stops] at none
      exact absurd (queue.symm.trans none) left
    · rw [stops]
      exact ⟨rfl, rfl, by simp [hu, flushWaiting], queue⟩

/-- Settles O19: what is left in the queue decides between HALTED and STOPPING. -/
theorem linkSilenceHaltsThePart : Obligations.LinkSilenceHaltsThePart := by
  unfold Obligations.LinkSilenceHaltsThePart
  intro s k ready counting
  have effect : linkSilenceEffect s = if isTaking s.modes.mode
      then settle (linkLost { s with link := { s.link with silence := .expired } })
      else { s with link := { s.link with silence := .expired } } := by
    simp [linkSilenceEffect, counting]
  refine ⟨fun notTaking => exec_effect rfl ready (effect.trans (by simp [notTaking])), fun taking => ?_⟩
  rw [if_pos taking] at effect
  obtain ⟨t, ht⟩ : ∃ t, t = { s with link := { s.link with silence := .expired } } := ⟨_, rfl⟩
  rw [← ht] at effect
  obtain ⟨halts, stops⟩ := linkLost_modes t
  refine ⟨_, exec_effect rfl ready effect, ?_, ?_, ?_, ?_, ?_, fun idle => ?_, fun c rest running queue notLifted => ⟨?_, ?_⟩⟩
  · simp [linkLost_link, ht]
  · constructor <;> simp [ht]
  · constructor <;> simp [ht]
  · simpa [ht] using halts
  · simpa [ht] using stops
  · have flushed := flushWaiting_none (s := t) (by rw [ht]; exact idle)
    have written : writeIfDue (handCause .linkLost none (flushWaiting t)) = flushWaiting t := by
      rw [handCause_idle _ _ _ (by rw [flushed]), writeIfDue,
        if_neg (by rw [canWrite_of_no_running _ (by rw [flushed])]; exact Bool.false_ne_true)]
    rw [refresh_segments, linkLost_halts (by rw [written, flushed]), written, flushed,
      settle_of_idle _ ⟨rfl, rfl, Mode.noConfusion⟩, ht]
    rfl
  · intro waits
    have handed := lostWith_eq (s := t) (by rw [ht]; exact running) (by rw [ht]; exact queue) notLifted
    have notDue : (lostWith c rest t).canWrite = false := lostWith_notDue (by rw [ht]; exact waits)
    have settled := settle_of_no_write (linkLost t) { c with cause := some ⟨.linkLost, none⟩, phase := .stopping }
      (by rw [linkLost_stops handed notDue (List.cons_ne_nil _ _)]; rfl)
      (by rw [linkLost_stops handed notDue (List.cons_ne_nil _ _)]; exact notDue)
      (by rw [linkLost_stops handed notDue (List.cons_ne_nil _ _)]; exact List.cons_ne_nil _ _)
    rw [refresh_segments, refresh_drive, refresh_floor, settled, linkLost_stops handed notDue (List.cons_ne_nil _ _), ht]
    exact ⟨rfl, rfl, rfl⟩
  · intro still noMove unjam
    have handed := lostWith_eq (s := t) (by rw [ht]; exact running) (by rw [ht]; exact queue) notLifted
    have due : (lostWith c rest t).canWrite = true := lostWith_due (by rw [ht]; exact still) (by rw [ht]; exact noMove)
      (by rw [ht]; exact unjam)
    have written : writeIfDue (handCause .linkLost none (flushWaiting t)) = writeRecord (lostWith c rest t) := by
      rw [handed, writeIfDue, if_pos due]
    have record := writeRecord_running_eq (lostWith c rest t) _ _ rfl rfl
    have halted : (settle (linkLost t)).segments = (writeRecord (lostWith c rest t)).segments := by
      rw [linkLost_halts (by rw [written, record]; rfl), written, settle_of_idle _ ⟨by rw [fallToHalted_segments, record],
        by rw [fallToHalted_segments, record]; rfl, Mode.noConfusion⟩, fallToHalted_segments]
    rw [refresh_segments, halted, record, ht]
    rw [lostWith_retries]
    rfl

end Sys2Proof.Machine
end

section
/-! MODE_CONFIG by what the flush leaves (R167). -/

namespace Sys2Proof.Machine

theorem flushToConfig_enters {s : State} (empty : (writeIfDue (handCause .flushed none (flushWaiting s))).segments.queue = []) :
    flushToConfig s = enterMode .config (writeIfDue (handCause .flushed none (flushWaiting s))) := by
  simp [flushToConfig, empty]

theorem flushToConfig_stopping {s u : State} (handed : handCause .flushed none (flushWaiting s) = u)
    (notDue : u.canWrite = false) (left : u.segments.queue ≠ []) :
    flushToConfig s = { u with modes := { u.modes with mode := .stopping, wakeTimer := none } } := by
  have written : writeIfDue u = u := by rw [writeIfDue, if_neg (by simp [notDue])]
  rw [flushToConfig, handed, written, if_neg (by simpa using left), enterMode_moving .stopping u rfl]

theorem modeConfigEffect_taking {s : State} (taking : isTaking s.modes.mode = true) :
    modeConfigEffect s = answerMode 0x05 (flushToConfig s) := by
  unfold modeConfigEffect
  cases mode : s.modes.mode <;> simp_all [isTaking]

theorem modeConfigEffect_resting {s : State} (resting : s.modes.mode = .halted ∨ s.modes.mode = .parked) :
    modeConfigEffect s = answerMode 0x05 (enterMode .config s) := by
  unfold modeConfigEffect
  rcases resting with mode | mode <;> rw [mode]

/-- A RAMP request leaves setpoints, guards and direction levels, so that rest after it is rest before it (R107). -/
theorem released_of_ramp {cfg : Settings} {hold : Option Nat} {d e : Drive}
    (released : WheelsReleased cfg (rampFrom hold d) e) : WheelsReleased cfg d e := by
  have left : (rampFrom hold d).wheels.left.guard = d.wheels.left.guard ∧
      (rampFrom hold d).wheels.left.forward = d.wheels.left.forward := by
    unfold rampFrom
    dsimp only
    split <;> exact ⟨rfl, rfl⟩
  have right : (rampFrom hold d).wheels.right.guard = d.wheels.right.guard ∧
      (rampFrom hold d).wheels.right.forward = d.wheels.right.forward := by
    unfold rampFrom
    dsimp only
    split <;> exact ⟨rfl, rfl⟩
  obtain ⟨leftSetpoint, rightSetpoint⟩ := rampFrom_wheels hold d
  obtain ⟨l0, r0, lt, rt, ls, rs, lf, rf, lg, rg, period⟩ := released
  rw [leftSetpoint, left.1] at lg
  rw [rightSetpoint, right.1] at rg
  exact ⟨l0, r0, lt, rt, ls, rs, lf.trans left.2, rf.trans right.2, lg, rg, period⟩

/-- FLUSHED as the first cause, with the others flushed (R96). -/
theorem handCause_flushed {s : State} {c : Context} (running : s.segments.running = some c) (first : c.cause = none)
    (stop : s.drive.stop = .none) : handCause .flushed none (flushWaiting s) = { s with
      segments := ⟨s.segments.queue.take 1, some { c with cause := some ⟨.flushed, none⟩, phase := .stopping },
        s.segments.completions ++ s.segments.queue.tail.map (waitingRecord .flushed false s.link.timeBase)⟩
      drive := rampFrom c.holdTarget s.drive } := by
  rw [flushWaiting_running running, handCause_first (c := c) ?_ first (stopForCause_flushed _ _) ?_ ?_]
  · rfl
  · rfl
  · exact stop

/-- FLUSHED over a standing cause is dropped (R90). -/
theorem handCause_flushed_later {s : State} {c : Context} {e : EndCause} (running : s.segments.running = some c)
    (cause : c.cause = some e) : handCause .flushed none (flushWaiting s) = { s with
      segments := ⟨s.segments.queue.take 1, some c, s.segments.completions ++
        s.segments.queue.tail.map (waitingRecord .flushed false s.link.timeBase)⟩ } := by
  rw [flushWaiting_running running, handCause_dropped _ _ _ c ?_ (takesCause_later cause (.inr rfl))]
  rfl

/-- Settles O23: what is left in the queue decides between CONFIG and STOPPING. -/
theorem modeConfigFlushesTheSegments : Obligations.ModeConfigFlushesTheSegments := by
  unfold Obligations.ModeConfigFlushesTheSegments
  intro s ready
  have taken (taking : isTaking s.modes.mode = true) := modeConfigEffect_taking (s := acceptFrame s) taking
  refine ⟨fun resting => ?_, fun taking idle => ?_, fun c taking ⟨running, first, queued⟩ moving stop => ?_,
    fun c rest taking _ running first queue still result stop => ?_,
    fun c e rest taking running cause queue notAtRest => ?_⟩
  · exact ⟨_, exec_effect rfl ready (modeConfigEffect_resting (s := acceptFrame s) resting), rfl,
      forcedRest_released s.config s.drive, rfl⟩
  · have flushed := flushWaiting_none (s := acceptFrame s) idle
    have written : writeIfDue (handCause .flushed none (flushWaiting (acceptFrame s))) = flushWaiting (acceptFrame s) := by
      rw [handCause_idle _ _ _ (by rw [flushed]), writeIfDue,
        if_neg (by rw [canWrite_of_no_running _ (by rw [flushed])]; exact Bool.false_ne_true)]
    have effect := taken taking
    rw [flushToConfig_enters (by rw [written, flushed]), written, flushed] at effect
    exact ⟨_, exec_effect rfl ready effect, rfl, forcedRest_released s.config s.drive, rfl⟩
  · have effect := taken taking
    rw [flushToConfig_stopping (handCause_flushed (s := acceptFrame s) running first stop)
      (canWrite_of_ramp (s := s) rfl moving) (take_one_ne_nil queued)] at effect
    exact ⟨_, exec_effect rfl ready effect, rfl⟩
  · have effect := taken taking
    have handed := handCause_flushed (s := acceptFrame s) running first stop
    have due : (handCause .flushed none (flushWaiting (acceptFrame s))).canWrite = true := by
      rw [handed]
      exact (canWrite_iff _ _ rfl).mpr ⟨rfl, atRest_of_ramp (s := s) rfl still result⟩
    have written : writeIfDue (handCause .flushed none (flushWaiting (acceptFrame s))) = { s with
        segments := ⟨[], none, s.segments.completions ++ rest.map (waitingRecord .flushed false s.link.timeBase) ++
          [⟨c.segment, .flushed, c.cancelSeen, travelledOf c, none, s.drive.retries, s.link.timeBase⟩]⟩
        drive := { rampFrom c.holdTarget s.drive with stop := .none, unjam := none }
        floor := { s.floor with response := none }
        dock := if s.dock.undock = .leaving then { s.dock with undock := .none } else s.dock
        link := (acceptFrame s).link } := by
      rw [writeIfDue, if_pos due, handed, writeRecord_running_eq _ _ _ rfl rfl]
      simp only [acceptFrame_segments, queue]
      rfl
    rw [flushToConfig_enters (by rw [written]), written] at effect
    exact ⟨_, exec_effect rfl ready effect, released_of_ramp (hold := c.holdTarget) (released_of_wheels rfl rfl), rfl⟩
  · have effect := taken taking
    rw [flushToConfig_stopping (handCause_flushed_later (s := acceptFrame s) running cause)
      (canWrite_of_not_atRest (not_atRest_of_same notAtRest rfl rfl)) (take_one_ne_nil (by simp [queue]))] at effect
    simp only [acceptFrame_segments, queue] at effect
    exact exec_effect rfl ready effect

end Sys2Proof.Machine
end

section
/-! PARK and the end of PARKING (R168, R169). -/

namespace Sys2Proof.Machine

/-! ### The parts of a control period -/

/-- What one block does at a control period expiry, before the settling. -/
def partAction (tag : Option Nat) (h : Handed) : PeriodPart → State → State
  | .segment => takeProgress tag h
  | .drive => takeBackoff h
  | .monitor => evaluate
  | .slew => slewStep

theorem periodPart_eq (tag : Option Nat) (h : Handed) (part : PeriodPart) (s : State) :
    periodPart tag h part s = settle (partAction tag h part s) := by cases part <;> rfl

theorem partAction_modes (tag : Option Nat) (h : Handed) (part : PeriodPart) (s : State) :
    (partAction tag h part s).modes = s.modes := by cases part <;> simp [partAction]

theorem partAction_latches (tag : Option Nat) (h : Handed) (part : PeriodPart) (s : State) :
    (partAction tag h part s).latches = s.latches := by cases part <;> simp [partAction]

theorem partAction_ok (tag : Option Nat) (h : Handed) (part : PeriodPart) {s : State} (ok : SegmentsOk s.segments) :
    SegmentsOk (partAction tag h part s).segments := by
  cases part with
  | segment =>
    obtain ⟨running, queue, completions⟩ := takeProgress_segments tag h s
    exact segmentsOk_of_same ok queue completions running
  | drive => simpa [partAction] using ok
  | monitor => exact segmentsOk_of_same ok (by simp [partAction]) (by simp [partAction]) (by simp [partAction])
  | slew => simpa [partAction] using ok

theorem takeProgress_idle (tag : Option Nat) (h : Handed) {s : State} (idle : s.segments.running = none) :
    takeProgress tag h s = s := by simp [takeProgress, idle]

theorem evaluate_idle {s : State} (idle : s.segments.running = none) :
    evaluate s = { s with clearance := freshClearance } := by
  rw [evaluate, straightRunning_none s fun c running => by simp [idle] at running]

theorem partAction_idle (tag : Option Nat) (h : Handed) (part : PeriodPart) {s : State}
    (idle : s.segments.running = none) : (partAction tag h part s).segments = s.segments := by
  cases part with
  | segment => rw [partAction, takeProgress_idle tag h idle]
  | drive => simp [partAction]
  | monitor => rw [partAction, evaluate_idle idle]
  | slew => simp [partAction]

/-! ### A parked part -/

/-- A part in PARKED: nothing is queued, the wheels are at rest and both guards are clear (R162, R169). -/
structure ParkedWith (g : Segments) (s : State) : Prop where
  mode : s.modes.mode = .parked
  segments : s.segments = g
  queue : g.queue = []
  running : g.running = none
  rest : s.atRest = true
  guards : s.guardsClear = true
  latched : s.latches.modeReached = true

theorem forcedRest_clear {s t : State} (rest : s.atRest = true) (guards : s.guardsClear = true)
    (wheels : t.drive.wheels = s.drive.wheels.map (restWheel s.config)) :
    t.atRest = true ∧ t.guardsClear = true := by
  obtain ⟨left, right⟩ := (atRest_iff s).mp rest
  obtain ⟨leftGuard, rightGuard⟩ := (guardsClear_iff s).mp guards
  rw [atRest_iff, guardsClear_iff, wheels]
  exact ⟨⟨rfl, rfl⟩, (if_pos left).trans leftGuard, (if_pos right).trans rightGuard⟩

theorem takeBackoff_wheels (h : Handed) (s : State) :
    (takeBackoff h s).drive.wheels = s.drive.wheels ∨
      (takeBackoff h s).drive.wheels = s.drive.wheels.map zeroTarget := by
  unfold takeBackoff
  split
  · dsimp only
    split
    · exact .inr rfl
    · exact .inl rfl
  · exact .inl rfl

/-- A period leaves a parked part parked (R162). -/
theorem ParkedWith.partAction {g : Segments} {s : State} (parked : ParkedWith g s) (tag : Option Nat) (h : Handed)
    (part : PeriodPart) : ParkedWith g (partAction tag h part s) := by
  have idle : s.segments.running = none := by rw [parked.segments, parked.running]
  have still : (Machine.partAction tag h part s).atRest = true ∧ (Machine.partAction tag h part s).guardsClear = true := by
    cases part with
    | segment =>
      rw [Machine.partAction, takeProgress_idle tag h idle]
      exact ⟨parked.rest, parked.guards⟩
    | drive =>
      rcases takeBackoff_wheels h s with same | zeroed
      · simp only [Machine.partAction, State.atRest, State.guardsClear, same]
        exact ⟨parked.rest, parked.guards⟩
      · simp only [Machine.partAction, State.atRest, State.guardsClear, zeroed]
        exact ⟨parked.rest, parked.guards⟩
    | monitor =>
      rw [Machine.partAction, evaluate_idle idle]
      exact ⟨parked.rest, parked.guards⟩
    | slew =>
      have held : s.heldAtRest = true := by simp [State.heldAtRest, parked.mode, isRestMode]
      exact forcedRest_clear parked.rest parked.guards (slewStep_of_held held)
  exact ⟨by rw [partAction_modes, parked.mode], by rw [partAction_idle tag h part idle, parked.segments], parked.queue,
    parked.running, still.1, still.2, by rw [partAction_latches, parked.latched]⟩

theorem ParkedWith.periodPart {g : Segments} {s : State} (parked : ParkedWith g s) (tag : Option Nat) (h : Handed)
    (part : PeriodPart) : ParkedWith g (periodPart tag h part s) := by
  have after := parked.partAction tag h part
  rw [periodPart_eq, settle_of_idle _ ⟨by rw [after.segments, after.running], by rw [after.segments, after.queue],
    by rw [after.mode]; exact Mode.noConfusion⟩]
  exact after

theorem ParkedWith.periodParts {g : Segments} {s : State} (parked : ParkedWith g s) (tag : Option Nat) (h : Handed)
    (parts : List PeriodPart) : ParkedWith g (parts.foldl (fun t part => Machine.periodPart tag h part t) s) := by
  induction parts generalizing s with
  | nil => exact parked
  | cons part parts ih => exact ih (parked.periodPart tag h part)

theorem drained_iff {s : State} :
    s.drained = true ↔ s.segments.queue = [] ∧ s.atRest = true ∧ s.guardsClear = true := by
  simp [State.drained, and_assoc]

theorem parkedWith_of_entry {s : State} (idle : s.segments.running = none) (queue : s.segments.queue = [])
    (rest : s.atRest = true) (guards : s.guardsClear = true) :
    ParkedWith s.segments (latchModeReached (enterMode .parked s)) := by
  obtain ⟨still, clear⟩ := forcedRest_clear (t := latchModeReached (enterMode .parked s)) rest guards rfl
  exact ⟨rfl, rfl, queue, idle, still, clear, rfl⟩

/-- A settled part in PARKING has something left to wait for; a parked one has not (R169). -/
def ParkedOrWaiting (s : State) : Prop :=
  SegmentsOk s.segments ∧ (s.modes.mode = .parking ∧ s.drained = false ∨ ParkedWith s.segments s)

theorem settle_parking {s : State} (mode : s.modes.mode = .parking) (ok : SegmentsOk s.segments) :
    ParkedOrWaiting (settle s) := by
  refine ⟨settle_ok s ok, ?_⟩
  obtain ⟨u, hu⟩ : ∃ u, u = settleLoop (2 * s.segments.queue.length + 2) s := ⟨_, rfl⟩
  have umode : u.modes.mode = .parking := by
    rw [hu, (settleLoop_modes _ (by simp [mode])).1, mode]
  have settled : settle s = parkIfDrained u := by rw [hu, settle]
  rw [settled]
  cases drained : u.drained with
  | false =>
    rw [parkIfDrained_of_not u fun parks => by simp [drained] at parks]
    exact .inl ⟨umode, drained⟩
  | true =>
    have uok : SegmentsOk u.segments := hu ▸ settleLoop_ok _ s ok
    obtain ⟨queue, idle⟩ := idle_of_drained uok drained
    have both : u.atRest = true ∧ u.guardsClear = true := by
      simpa [State.drained, queue] using drained
    rw [show parkIfDrained u = latchModeReached (enterMode .parked u) from if_pos ⟨umode, drained⟩]
    exact .inr (parkedWith_of_entry idle queue both.1 both.2)

theorem periodPart_parking {s : State} (tag : Option Nat) (h : Handed) (part : PeriodPart)
    (ok : SegmentsOk s.segments) (mode : s.modes.mode = .parking ∨ ParkedWith s.segments s) :
    ParkedOrWaiting (periodPart tag h part s) := by
  rcases mode with parking | parked
  · rw [periodPart_eq]
    exact settle_parking (by rw [partAction_modes, parking]) (partAction_ok tag h part ok)
  · have after := parked.periodPart tag h part
    refine ⟨?_, .inr ?_⟩
    · rw [after.segments]
      exact ok
    · rw [after.segments]
      exact after

theorem periodParts_parking {s : State} (tag : Option Nat) (h : Handed) (parts : List PeriodPart)
    (waits : ParkedOrWaiting s) : ParkedOrWaiting (parts.foldl (fun t part => periodPart tag h part t) s) := by
  induction parts generalizing s with
  | nil => exact waits
  | cons part parts ih => exact ih (periodPart_parking tag h part waits.1 (waits.2.imp_left And.left))

/-! ### The slew step that brings the wheels to rest -/

/-- A wheel within one step of 0 reaches it; with no guard configured none starts (R103, R104). -/
theorem slewWheel_reaches {cfg : Settings} {rug : Bool} {w : Wheel} (near : w.setpoint.natAbs ≤ decelStep cfg)
    (clear : w.guard = none) (noGuard : reversalGuard cfg = 0) :
    (slewWheel cfg rug 0 w).setpoint = 0 ∧ (slewWheel cfg rug 0 w).guard = none := by
  have reached : slewed cfg w.guard w.setpoint 0 = 0 := by
    simp only [slewed, approach, clear, guardHolds, signOf]
    split_ifs <;> omega
  have setpoint : (slewWheel cfg rug 0 w).setpoint = 0 := by rw [slewWheel_setpoint, clampTo_zero, reached]
  refine ⟨setpoint, ?_⟩
  have guard : (slewWheel cfg rug 0 w).guard = if (slewWheel cfg rug 0 w).setpoint = 0
    then (if w.setpoint = 0 then w.guard else guardFrom cfg w.setpoint) else none := rfl
  rw [guard, if_pos setpoint, clear]
  simp [guardFrom, noGuard]

theorem slewStep_unjam (s : State) : (slewStep s).drive.unjam = s.drive.unjam := rfl

theorem slewStep_retries (s : State) : (slewStep s).drive.retries = s.drive.retries := rfl

theorem slewStep_reaches {s : State} (free : s.heldAtRest = false) (stop : s.drive.stop = .ramp none)
    (left : s.drive.wheels.left.setpoint.natAbs ≤ decelStep s.config)
    (right : s.drive.wheels.right.setpoint.natAbs ≤ decelStep s.config) (guards : s.guardsClear = true)
    (noGuard : reversalGuard s.config = 0) : (slewStep s).atRest = true ∧ (slewStep s).guardsClear = true := by
  obtain ⟨leftGuard, rightGuard⟩ := (guardsClear_iff s).mp guards
  have targets : slewTargets (advanced s) = bothTargets 0 :=
    slewTargets_of_holdsZero (by simp [advanced, stop, advanceStop, Stop.holdsZero])
  rw [atRest_iff, guardsClear_iff, slewStep_of_free free, slewWheels, targets]
  obtain ⟨l0, lg⟩ := slewWheel_reaches (cfg := s.config) (rug := (advanced s).onRug) left leftGuard noGuard
  obtain ⟨r0, rg⟩ := slewWheel_reaches (cfg := s.config) (rug := (advanced s).onRug) right rightGuard noGuard
  exact ⟨⟨l0, r0⟩, lg, rg⟩

theorem orderOf_wellFormed {order : List PeriodPart} (wf : (Instr.controlPeriodExpiry order).wellFormed = true) :
    orderOf order = order := if_pos wf

/-- Settles O24: a settled part in PARKING is one with something left to wait for. -/
theorem parkParksOrDrains : Obligations.ParkParksOrDrains := by
  unfold Obligations.ParkParksOrDrains
  refine ⟨fun s ready active => ⟨fun queue rest guards => ?_, fun waits => ?_⟩, fun order s ready parking ok => ?_,
    fun order s c e ready parking wf running cause queue stop unjam result lifted left right guards noGuard => ?_⟩
  · have drained : (acceptFrame s).drained = true := by
      show s.drained = true
      simp [State.drained, queue, rest, guards]
    have effect : parkEffect (acceptFrame s) = answerMode 0x06 (enterMode .parked (acceptFrame s)) := by
      rw [parkEffect, if_neg (by simp [active]), if_pos drained]
    exact ⟨_, exec_effect rfl ready effect, forcedRest_released s.config s.drive, sensorPowerOn_parked rfl, rfl⟩
  · have notDrained : s.drained = false := by
      rcases waits with ⟨c, runs⟩ | ⟨-, -, moving | guard⟩
      · simp [State.drained, runs.queued]
      · simp [State.drained, moving]
      · simp [State.drained, guard]
    have effect : parkEffect (acceptFrame s) = settle (answerMode 0x06 (enterMode .parking (acceptFrame s))) := by
      rw [parkEffect, if_neg (by simp [active]), if_neg (show ¬ (acceptFrame s).drained = true from Bool.eq_false_iff.mp notDrained)]
    have settled : settle (answerMode 0x06 (enterMode .parking (acceptFrame s))) =
        answerMode 0x06 (enterMode .parking (acceptFrame s)) := by
      rcases waits with ⟨c, runs⟩ | ⟨empty, idle, -⟩
      · exact settle_of_no_cause _ c runs.running runs.no_cause runs.queued
      · refine settle_of_settled _ ⟨canWrite_of_no_running _ idle, canStart_of_no_queue _ empty, fun parks => ?_⟩
        have drained : s.drained = true := parks.2
        simp [notDrained] at drained
    exact exec_effect rfl ready (effect.trans settled)
  · obtain ⟨part, parts, order⟩ : ∃ part parts, orderOf order = part :: parts := by
      cases parts : orderOf order with
      | nil => simpa [parts, canonicalOrder] using orderOf_perm order
      | cons part rest => exact ⟨part, rest, rfl⟩
    have first := periodPart_parking (s := periodUpdate s) s.runningTag (handedOn s) part (by simpa [periodUpdate] using ok)
      (.inl (by simpa [periodUpdate] using parking))
    obtain ⟨ok', waits⟩ := periodParts_parking s.runningTag (handedOn s) parts first
    rw [← List.foldl_cons (f := fun t part => periodPart s.runningTag (handedOn s) part t), ← order] at ok' waits
    refine ⟨_, exec_effect rfl ready rfl, ?_⟩
    rcases waits with ⟨mode, notDrained⟩ | parked
    · refine ⟨.inl mode, ⟨fun parked => absurd (mode.symm.trans parked) Mode.noConfusion, fun ⟨empty, still, clear⟩ => ?_⟩,
        fun parked => absurd (mode.symm.trans parked) Mode.noConfusion⟩
      have drained := drained_iff.mpr ⟨empty, (atRest_iff _).mpr still, (guardsClear_iff _).mpr clear⟩
      exact absurd (notDrained.symm.trans drained) Bool.false_ne_true
    · exact ⟨.inr parked.mode, ⟨fun _ => ⟨parked.queue, (atRest_iff _).mp parked.rest, (guardsClear_iff _).mp parked.guards⟩,
        fun _ => parked.mode⟩, fun _ => ⟨parked.latched, sensorPowerOn_parked parked.mode⟩⟩
  · obtain ⟨u, hu⟩ : ∃ u, u = periodUpdate s := ⟨_, rfl⟩
    have ustop : u.drive.stop = .ramp none := by rw [hu]; simpa [periodUpdate] using stop
    have free : u.heldAtRest = false := by
      rw [hu]
      simp [periodUpdate, State.heldAtRest, parking, isRestMode, State.lifted] at lifted ⊢
      exact lifted
    have reached := slewStep_reaches free ustop (by rw [hu]; simpa [periodUpdate] using left)
      (by rw [hu]; simpa [periodUpdate] using right) (by rw [hu]; simpa [periodUpdate, State.guardsClear] using guards)
      (by rw [hu]; simpa [periodUpdate] using noGuard)
    have vrunning : (slewStep u).segments.running = some c := by rw [hu]; simpa [periodUpdate] using running
    have vqueue : (slewStep u).segments.queue = [c.segment] := by rw [hu]; simpa [periodUpdate] using queue
    have due : (slewStep u).canWrite = true := by
      refine (canWrite_iff _ c vrunning).mpr ⟨by simp [cause], reached.1, ?_, ?_, ?_⟩
      · rw [slewStep_stop, ustop]
        rfl
      · rw [slewStep_unjam, hu]
        simpa [periodUpdate] using unjam
      · rw [hu]
        simpa [periodUpdate] using result
    have parks := settle_last_parked due (by rw [vqueue]; rfl) (by rw [hu]; simpa [periodUpdate] using parking) reached.2
    have record := writeRecord_running_eq (slewStep u) c e vrunning cause
    have written : (writeRecord (slewStep u)).segments = ⟨[], none, s.segments.completions ++
        [⟨c.segment, e.kind, c.cancelSeen, travelledOf c, e.record, s.drive.retries, s.link.timeBase⟩]⟩ := by
      rw [record, slewStep_retries, hu]
      simp [periodUpdate, queue, (classify_answer _ _).timeBase]
    have entry := parkedWith_of_entry (s := writeRecord (slewStep u)) (by rw [written]) (by rw [written])
      (by rw [writeRecord_atRest, reached.1]) (by rw [writeRecord_guardsClear, reached.2])
    rw [← parks] at entry
    have parked := entry.periodParts s.runningTag (handedOn s) order
    have effect : controlPeriodEffect (.slew :: order) s =
        order.foldl (fun t part => periodPart s.runningTag (handedOn s) part t) (settle (slewStep u)) := by
      rw [controlPeriodEffect, orderOf_wellFormed wf, hu]
      rfl
    rw [← effect] at parked
    refine ⟨_, exec_effect rfl ready rfl, parked.mode, parked.latched, sensorPowerOn_parked parked.mode, ?_⟩
    rw [refresh_segments, parked.segments, written]
    rfl

end Sys2Proof.Machine
end

section
/-! The start of a segment: its context, its admission check and what the settling makes of it (R62, R63, R74, R87, R88,
R156). -/

namespace Sys2Proof.Machine

/-- The context that a start makes of a segment (R74, R77, R155). -/
def startContext (g : Segment) (s : State) : Context :=
  ⟨g, s.pose.heading, holdTargetAt s g.motion, 0, if beginsUndock s g.motion then .waiting else .moving, none, false⟩

/-- The state in which a start evaluates: context, drive and dock afresh, both points classified (R62). -/
def opened (g : Segment) (s : State) : State := classifySilently (openContext g s)

theorem opened_running (g : Segment) (s : State) : (opened g s).segments.running = some (startContext g s) := rfl

theorem opened_path (g : Segment) (s : State) (straight : g.motion.isStraight = true) :
    PathClassified (opened g s) g.motion :=
  classifySilently_path (s := openContext g s) (straightRunning_of_running (opened_running g s) straight)

theorem opened_centre (g : Segment) (s : State) (straight : g.motion.isStraight = false) :
    CentreClassified (opened g s) := by
  refine classifySilently_centre _ (straightRunning_none _ fun c running => ?_)
  cases Option.some.inj running
  exact straight

theorem dockedAtStart_other {m : Motion} {s : State} (h : s.dock.docked = false ∨ m.isDock = false) :
    dockedAtStart m s = s := by
  rcases h with h | h <;> simp [dockedAtStart, h]

theorem isDock_of_turning {m : Motion} (turning : m.isStraight = false) : m.isDock = false := by
  cases m <;> simp_all [Motion.isStraight, Motion.isDock]

variable {g : Segment} {rest : List Segment} {s : State}

/-- A started segment with the results of its evaluation (R62). -/
def startedWith (found : Clearance) (g : Segment) (s : State) : State := { opened g s with clearance := found }

/-- The start of a SPIN or a PAUSE (R62). -/
theorem startSegment_turning (queue : s.segments.queue = g :: rest) (turning : g.motion.isStraight = false) :
    startSegment s = startedWith freshClearance g s := by
  rw [startSegment_eq s g rest queue, dockedAtStart_other (.inr (isDock_of_turning turning)),
    evaluate_of_not_straight _ (straightRunning_none _ fun c running => by cases Option.some.inj running; exact turning)]
  rfl

/-- The start of a LINE or a DOCK that its admission check leaves (R62, R63). -/
theorem startSegment_free (queue : s.segments.queue = g :: rest) (straight : g.motion.isStraight = true)
    (free : ∀ p, pathOf s g.motion = some p → blockGap s.config ≤ p.gap) (passable : (probeOf s g.motion).cls ≠ .keepout) :
    startSegment s = dockedAtStart g.motion (startedWith (evaluation (opened g s) (startContext g s)) g s) := by
  rw [startSegment_eq s g rest queue]
  exact congrArg (dockedAtStart g.motion)
    (evaluate_clear (opened_running g s) straight (opened_path g s straight) free passable)

/-- The start of a segment that ends at its start with the cause `e` (R63, R156). -/
def endedAtStart (e : EndCause) (g : Segment) (s : State) : State :=
  { opened g s with
    clearance := evaluation (opened g s) (startContext g s)
    segments := { s.segments with running := some { startContext g s with cause := some e, phase := .stopping } }
    drive := rampFrom (holdTargetAt s g.motion) (opened g s).drive }

/-- A LINE or a DOCK that its admission check blocks; DOCKED comes too late for it (R63, R90). -/
theorem startSegment_blocked {e : EndCause} (queue : s.segments.queue = g :: rest) (straight : g.motion.isStraight = true)
    (blocks : Blocks s g.motion e) : startSegment s = endedAtStart e g s := by
  have handed : evaluate (opened g s) = endedAtStart e g s := by
    rw [evaluate_blocked (opened_running g s) straight (opened_path g s straight) blocks]
    rcases blocks_kind blocks with kind | kind
    · rw [kind, handCause_first (c := startContext g s) ?_ rfl ?_ ?_ ?_]
      · rw [← kind]
        rfl
      all_goals rfl
    · rw [kind, handCause_first (c := startContext g s) ?_ rfl ?_ ?_ ?_]
      · rw [← kind]
        rfl
      all_goals rfl
  have late : handCause .docked none (endedAtStart e g s) = endedAtStart e g s :=
    handCause_dropped _ _ _ _ rfl (by simp [takesCause, replacesCause])
  rw [startSegment_eq s g rest queue]
  refine (congrArg (dockedAtStart g.motion) handed).trans ?_
  unfold dockedAtStart
  split
  · exact late
  · rfl

/-- A DOCK that starts docked (R156). -/
theorem startSegment_docked (queue : s.segments.queue = g :: rest) (dock : g.motion.isDock = true)
    (docked : s.dock.docked = true) (straight : g.motion.isStraight = true)
    (free : ∀ p, pathOf s g.motion = some p → blockGap s.config ≤ p.gap) (passable : (probeOf s g.motion).cls ≠ .keepout) :
    startSegment s = endedAtStart ⟨.docked, none⟩ g s := by
  have stays : (opened g s).dock.docked = true := by
    simp [opened, openContext, beginsUndock, dock, docked]
  rw [startSegment_free queue straight free passable]
  refine (if_pos (by rw [dock]; exact stays)).trans ?_
  rw [handCause_first (c := startContext g s) ?_ rfl ?_ ?_ ?_]
  all_goals rfl

/-- What ends at its start is at rest (R92). -/
theorem endedAtStart_atRest (e : EndCause) (still : s.atRest = true) (result : s.floor.resultPending = false) :
    AtRest (endedAtStart e g s) := atRest_of_ramp (s := opened g s) rfl still result

theorem endedAtStart_written (e : EndCause) (still : s.atRest = true) (result : s.floor.resultPending = false) :
    ∃ more, (settle (endedAtStart e g s)).segments.completions = s.segments.completions ++
      ⟨g, e.kind, false, 0, e.record, 0, s.link.timeBase⟩ :: more := by
  obtain ⟨more, written⟩ := settle_writes (endedAtStart e g s) _ e rfl rfl (endedAtStart_atRest e still result)
  refine ⟨more, written.trans ?_⟩
  have travelled : travelledOf { startContext g s with cause := some e, phase := .stopping } = 0 := by
    unfold travelledOf startContext
    cases g.motion <;> rfl
  rw [travelled]
  rfl

/-- A start with no end cause has nothing due (R92). -/
theorem settle_startedWith (found : Clearance) (queue : s.segments.queue = g :: rest) :
    settle (startedWith found g s) = startedWith found g s :=
  settle_of_no_cause _ (startContext g s) rfl rfl (by
    show s.segments.queue ≠ []
    simp [queue])

theorem startContext_eq {phase : Phase} (h : (if beginsUndock s g.motion then Phase.waiting else .moving) = phase) :
    startContext g s = ⟨g, s.pose.heading, holdTargetAt s g.motion, 0, phase, none, false⟩ := by
  rw [← h]
  rfl

theorem holdTargetAt_turning {m : Motion} (turning : m.isStraight = false) : holdTargetAt s m = none := by
  cases m <;> simp_all [Motion.isStraight, holdTargetAt]

theorem startedWith_segments (found : Clearance) :
    (startedWith found g s).segments = { s.segments with running := some (startContext g s) } := rfl

theorem startedWith_dock (found : Clearance) : (startedWith found g s).dock =
    if beginsUndock s g.motion then { s.dock with undock := .wait, undockTimer := some 0 } else s.dock := rfl

theorem holdTargetAt_eq (s : State) (m : Motion) : holdTargetAt s m = (match m with
    | .line _ _ _ true => some s.pose.heading
    | .dock _ _ => some ((lowestDockHeading s.table).getD s.pose.heading)
    | _ => none) := by
  cases m with
  | line reverse distance speed hold => cases hold <;> rfl
  | spin angle speed => rfl
  | dock distance speed => rfl
  | pause time => rfl

theorem segmentStart_world (s : State) : KeepsWorld s (refresh (settle (startSegment s))) := by
  constructor <;> simp

theorem segmentStart_plan (s : State) : KeepsPlan s (refresh (settle (startSegment s))) := by
  constructor <;> simp

/-- Settles O50: a start is SPIN or PAUSE, free, blocked or docked already. -/
theorem segmentStartOpensTheContext : Obligations.SegmentStartOpensTheContext := by
  unfold Obligations.SegmentStartOpensTheContext
  intro s ready
  refine ⟨fun blocked => exec_effect rfl ready (if_neg (by simp [blocked])),
    fun g rest hold queue idle mode still undock result holds => ?_⟩
  have starts : segmentStartEffect s = settle (startSegment s) :=
    if_pos ((canStart_iff s).mpr ⟨by simp [queue], idle, mode, still, undock⟩)
  have held : hold = holdTargetAt s g.motion := holds.trans (holdTargetAt_eq s g.motion).symm
  refine ⟨_, exec_effect rfl ready starts, segmentStart_world s, segmentStart_plan s, by simp, fun undocked turning => ?_,
    fun docked turning => ?_, ?_⟩
  · have moves : beginsUndock s g.motion = false := by simp [beginsUndock, undocked]
    have centre := opened_centre g s turning
    rw [startSegment_turning queue turning, settle_startedWith _ queue]
    refine ⟨?_, rfl, ?_, rfl, rfl, rfl, rfl, ⟨centre.centre, centre.probe, centre.limit⟩⟩
    · rw [refresh_segments, startedWith_segments, startContext_eq (if_neg (by simp [moves])), holdTargetAt_turning turning]
    · exact if_neg (by simp [moves])
  · have undocks : beginsUndock s g.motion = true := by simp [beginsUndock, docked, isDock_of_turning turning]
    have centre := opened_centre g s turning
    have dock : (startedWith freshClearance g s).dock = { s.dock with undock := .wait, undockTimer := some 0 } :=
      if_pos undocks
    rw [startSegment_turning queue turning, settle_startedWith _ queue]
    refine ⟨?_, dock, ?_, rfl, ⟨centre.centre, centre.probe, centre.limit⟩⟩
    · rw [refresh_segments, startedWith_segments, startContext_eq (if_pos undocks), holdTargetAt_turning turning]
    · show (startedWith freshClearance g s).chargeOn = false
      simp [State.chargeOn, dock]
  · rintro d found probe straight rfl hfound hprobe
    refine ⟨fun free passable undocked => ?_, fun free passable docked dock => ?_, fun p path close => ?_,
      fun free keepout => ?_⟩
    · subst hfound hprobe
      have classified := opened_path g s straight
      have undocks : beginsUndock s g.motion = s.dock.docked := by
        rcases undocked with notDocked | other
        · simp [beginsUndock, notDocked]
        · simp [beginsUndock, other]
      rw [startSegment_free queue straight free passable, dockedAtStart_other ?_, settle_startedWith _ queue]
      · refine ⟨?_, ?_, classified.probe, classified.centre, classified.limit, rfl, ?_⟩
        · rw [refresh_segments, startedWith_segments, startContext_eq rfl, undocks, held]
        · rw [refresh_dock, startedWith_dock, undocks]
        · rw [held]
          exact allowance_least (opened g s) (startContext g s) _
      · refine undocked.imp_left fun notDocked => ?_
        rw [startedWith_dock, undocks, notDocked]
        exact notDocked
    · subst hfound hprobe
      rw [refresh_segments, startSegment_docked queue dock docked straight free passable]
      exact endedAtStart_written ⟨.docked, none⟩ still result
    · subst hfound
      have blocks : Blocks s g.motion ⟨.blocked, some p.ref⟩ := .inl ⟨p, path, close, rfl⟩
      rw [refresh_segments, startSegment_blocked queue straight blocks]
      exact endedAtStart_written ⟨.blocked, some p.ref⟩ still result
    · subst hfound hprobe
      have blocks : Blocks s g.motion ⟨.blockedZone, (probeOf s g.motion).record⟩ := .inr ⟨free, keepout, rfl⟩
      rw [refresh_segments, startSegment_blocked queue straight blocks]
      exact endedAtStart_written ⟨.blockedZone, (probeOf s g.motion).record⟩ still result

end Sys2Proof.Machine
end

section
/-! SEGMENT_ADD: the parameters as taken and the place in the queue (R82 to R84, R88). -/

namespace Sys2Proof.Machine

/-! ### The parameters -/

theorem takeMotion_rows (cfg : Settings) (direction hold : Byte) (amount speed : Half) (v : Nat)
    (taken : v = takeSpeed cfg speed) :
    (direction.toNat ≤ 1 → takeMotion cfg 0 direction hold amount speed =
      some (.line (decide (direction = 1)) (min amount.toNat 30000) v (decide (hold ≠ 0)))) ∧
    takeMotion cfg 1 direction hold amount speed = some (.spin (max (-4095) (min 4095 amount.toInt)) v) ∧
    takeMotion cfg 2 direction hold amount speed = some (.dock (min amount.toNat 2000) v) ∧
    takeMotion cfg 3 direction hold amount speed = some (.pause (min amount.toNat 10000)) := by
  subst taken
  refine ⟨fun low => if_pos low, ?_, rfl, rfl⟩
  rw [← clampTo_eq _ _ _ (by decide)]
  rfl

/-- A motion as taken is of the kind that the request names (R82). -/
theorem takeMotion_kindByte {cfg : Settings} {kind direction hold : Byte} {amount speed : Half} {m : Motion}
    (taken : takeMotion cfg kind direction hold amount speed = some m) : m.kindByte = kind := by
  have byte (k : Byte) (code : kind.toNat = k.toNat) : k = kind := (BitVec.eq_of_toNat_eq code).symm
  unfold takeMotion at taken
  split at taken
  · next code =>
    split at taken
    · cases Option.some.inj taken
      exact byte 0 code
    · cases taken
  · next code =>
    cases Option.some.inj taken
    exact byte 1 code
  · next code =>
    cases Option.some.inj taken
    exact byte 2 code
  · next code =>
    cases Option.some.inj taken
    exact byte 3 code
  · cases taken

/-! ### What a start leaves -/

variable {g : Segment} {rest : List Segment} {s : State}

theorem isStraight_or (m : Motion) : m.isStraight = true ∨ m.isStraight = false := by cases m.isStraight <;> simp

/-- A start leaves the segment under way, or with its end cause (R62, R63, R156). -/
theorem startSegment_cases (queue : s.segments.queue = g :: rest) :
    (∃ found, startSegment s = startedWith found g s) ∨ ∃ e, startSegment s = endedAtStart e g s := by
  rcases isStraight_or g.motion with straight | turning
  · rcases blocks_or_free s g.motion with ⟨e, blocks⟩ | ⟨free, passable⟩
    · exact .inr ⟨e, startSegment_blocked queue straight blocks⟩
    · by_cases docks : g.motion.isDock = true ∧ s.dock.docked = true
      · exact .inr ⟨_, startSegment_docked queue docks.1 docks.2 straight free passable⟩
      · refine .inl ⟨_, (startSegment_free queue straight free passable).trans (dockedAtStart_other ?_)⟩
        by_cases dock : g.motion.isDock = true
        · have undocked : s.dock.docked = false := Bool.eq_false_iff.mpr fun docked => docks ⟨dock, docked⟩
          rw [startedWith_dock, show beginsUndock s g.motion = false by simp [beginsUndock, dock]]
          exact .inl undocked
        · exact .inr (Bool.eq_false_iff.mpr dock)
  · exact .inl ⟨_, startSegment_turning queue turning⟩

/-- The only segment of an ACTIVE part that may start runs, or has its record (R88, R92). -/
theorem settle_starts (start : s.canStart = true) (queue : s.segments.queue = [g]) (mode : s.modes.mode = .active) :
    (∃ d, d.segment = g ∧ (settle s).segments = { s.segments with running := some d }) ∨
      ∃ r, r.segment = g ∧ r.travelled = 0 ∧ (settle s).segments = ⟨[], none, s.segments.completions ++ [r]⟩ := by
  have notDue : s.canWrite = false := canWrite_of_no_running s ((canStart_iff s).mp start).2.1
  have first : settleLoop (2 * s.segments.queue.length + 2) s = settleLoop 3 (startSegment s) := by
    rw [queue]
    show settleLoop (3 + 1) s = _
    rw [settleLoop, if_pos (by simp [start]), settleOnce, if_neg (by simp [notDue]), if_pos start]
  have settled : (settle s).segments = (settleLoop 3 (startSegment s)).segments := by
    rw [settle, first, parkIfDrained_segments]
  rcases startSegment_cases queue with ⟨found, started⟩ | ⟨e, ended⟩
  · rw [started, settleLoop_of_done _ _ (canWrite_of_no_cause _ (startContext g s) rfl rfl)
      (canStart_of_running _ (startContext g s) rfl)] at settled
    exact .inl ⟨startContext g s, rfl, settled⟩
  · rw [ended] at settled
    cases due : (endedAtStart e g s).canWrite with
    | false =>
      rw [settleLoop_of_done _ _ due (canStart_of_running _ _ rfl)] at settled
      exact .inl ⟨_, rfl, settled⟩
    | true =>
      have record := writeRecord_running_eq (endedAtStart e g s) _ e rfl rfl
      have written : (writeRecord (endedAtStart e g s)).segments = ⟨[], none, s.segments.completions ++
          [⟨g, e.kind, false, travelledOf { startContext g s with cause := some e, phase := .stopping }, e.record, 0,
            s.link.timeBase⟩]⟩ := by
        rw [record, show (endedAtStart e g s).segments.queue = [g] from queue]
        rfl
      have last : settleLoop 3 (endedAtStart e g s) = writeRecord (endedAtStart e g s) := by
        have stays : leaveStopping (writeRecord (endedAtStart e g s)) = writeRecord (endedAtStart e g s) :=
          leaveStopping_stays _ (.inl (by
            rw [writeRecord_modes]
            show s.modes.mode ≠ .stopping
            simp [mode]))
        rw [settleLoop, if_pos (by simp [due]), settleOnce, if_pos due, stays]
        exact settleLoop_of_done _ _ (canWrite_of_no_running _ (by rw [written])) (canStart_of_no_queue _ (by rw [written]))
      rw [last, written] at settled
      refine .inr ⟨_, rfl, ?_, settled⟩
      unfold travelledOf startContext
      cases g.motion <;> rfl

/-! ### SEGMENT_ADD -/

/-- The segment body of R179 for a request as taken. -/
theorem segmentBody_taken {cfg : Settings} {tag kind direction hold : Byte} {amount speed : Half} {m : Motion} :
    takeMotion cfg kind direction hold amount speed = some m →
    segmentBody ⟨tag.toNat, m⟩ = [tag, kind] ++ (match m with
      | .line reverse distance v held =>
        [if reverse then 1 else 0, if held then 1 else 0] ++ int16 distance ++ int16 v
      | .spin angle v => [0, 0] ++ int16 angle ++ int16 v
      | .dock distance v => [0, 0] ++ int16 distance ++ int16 v
      | .pause time => [0, 0] ++ int16 time ++ [0, 0]) := by
  intro taken
  rw [segmentBody, toByte_toNat, takeMotion_kindByte taken]
  cases m with
  | pause time => rw [show int16 (Motion.pause time).speed = [0, 0] from int16_zero]; rfl
  | _ => rfl

/-- The state after the accepted request, before the settling (R84, R86). -/
def segmentJoined (g : Segment) (s : State) : State :=
  respond 0x13 .ok (segmentBody g ++ [toByte s.segments.queue.length, toByte (s.segments.queue.length + 1),
    toByte s.segments.completions.length]) (joinQueue g (acceptFrame s))

theorem acceptSegment_eq (g : Segment) (s : State) : acceptSegment g (acceptFrame s) = settle (segmentJoined g s) := by
  unfold acceptSegment segmentJoined countBytes
  simp [joinQueue]

theorem segmentJoined_running (g : Segment) (s : State) :
    (segmentJoined g s).segments.running = s.segments.running := rfl

theorem segmentJoined_queue (g : Segment) (s : State) :
    (segmentJoined g s).segments.queue = s.segments.queue ++ [g] := rfl

theorem segmentJoined_atRest (g : Segment) (s : State) : (segmentJoined g s).atRest = s.atRest := rfl

/-- Behind a segment whose record is not due, and in WAKING, the new one waits (R87, R92). -/
theorem settle_segmentJoined_waits (g : Segment) {s : State}
    (waits : (∃ c, s.segments.running = some c ∧ (c.cause = none ∨ s.atRest = false ∨
        s.drive.stop.moveInProgress = true ∨ s.floor.resultPending = true)) ∨
      (s.modes.mode = .waking ∧ s.segments.running = none)) : settle (segmentJoined g s) = segmentJoined g s := by
  rcases waits with ⟨c, running, waits⟩ | ⟨waking, idle⟩
  · have notDue : (segmentJoined g s).canWrite = false := by
      rcases waits with first | moving | move | result
      · exact canWrite_of_no_cause _ c running first
      · exact canWrite_of_moving _ moving
      · refine canWrite_of_not_atRest fun still => ?_
        have noMove : s.drive.stop.moveInProgress = false := still.no_move
        simp [move] at noMove
      · refine canWrite_of_not_atRest fun still => ?_
        have noResult : s.floor.resultPending = false := still.no_result
        simp [result] at noResult
    exact settle_of_no_write _ c running notDue (by simp [segmentJoined_queue])
  · refine settle_of_settled _ ⟨canWrite_of_no_running _ idle, canStart_of_mode _ ?_ ?_, fun parks => ?_⟩
    · show s.modes.mode ≠ .active
      simp [waking]
    · show s.modes.mode ≠ .parking
      simp [waking]
    · exact Mode.noConfusion (waking.symm.trans parks.1)

/-- Settles O48: behind a running segment or in WAKING it joins the queue; in an idle part it starts. -/
theorem segmentAddJoinsTheQueue : Obligations.SegmentAddJoinsTheQueue := by
  unfold Obligations.SegmentAddJoinsTheQueue
  refine ⟨fun cfg direction hold amount speed v taken => takeMotion_rows cfg direction hold amount speed v taken,
    fun tag kind direction hold amount speed s m g ready mode taken tagged amounts hg fresh short room => ?_⟩
  subst hg
  have accepted : segmentAddEffect tag kind direction hold amount speed (acceptFrame s) =
      settle (segmentJoined ⟨tag.toNat, m⟩ s) := by
    rw [segmentAddEffect_good (s := acceptFrame s) mode taken tagged amounts, if_neg, if_neg, acceptSegment_eq]
    · have notFull : queueFull s = false := by
        rw [queueFull, decide_eq_false (by omega), decide_eq_false (by omega)]
        rfl
      exact Bool.eq_false_iff.mp notFull
    · simpa using fresh
  refine ⟨_, exec_effect rfl ready accepted, ?_, ?_, ?_, ?_, fun waits => ?_, fun active idle empty still undock => ?_⟩
  · rw [refresh_link, settle_link]
    refine (?_ : _ = answerLink 0x13 .ok (segmentBody ⟨tag.toNat, m⟩ ++ _) s).trans
      (congrArg (fun body => answerLink 0x13 .ok (body ++ _) s) (segmentBody_taken (tag := tag) taken))
    rfl
  · constructor <;> simp [segmentJoined, joinQueue]
  · constructor <;> simp [segmentJoined, joinQueue]
  · have kept := (settle_modes (s := segmentJoined ⟨tag.toNat, m⟩ s)
      (by show s.modes.mode ≠ .stopping; rcases mode with mode | mode <;> simp [mode])
      (by show s.modes.mode ≠ .parking; rcases mode with mode | mode <;> simp [mode])).1
    exact kept
  · rw [settle_segmentJoined_waits _ waits]
    rfl
  · have queue : (segmentJoined ⟨tag.toNat, m⟩ s).segments.queue = [⟨tag.toNat, m⟩] := by
      rw [segmentJoined_queue, empty]
      rfl
    have start : (segmentJoined ⟨tag.toNat, m⟩ s).canStart = true :=
      (canStart_iff _).mpr ⟨by simp [queue], idle, .inl active, still, undock⟩
    rcases settle_starts start queue active with ⟨d, hd, started⟩ | ⟨r, hr, travelled, written⟩
    · refine .inl ?_
      rw [refresh_segments, started]
      exact ⟨queue, congrArg some hd, rfl⟩
    · refine .inr ?_
      rw [refresh_segments, written]
      exact ⟨rfl, rfl, r, rfl, hr, travelled⟩

end Sys2Proof.Machine
end

section
/-! The stall timer (R115, R116): unjams while retries are left, then STALL with its stop. -/

namespace Sys2Proof.Machine

variable {wheel : Side} {s : State} {c : Context}

/-! ### The branches of the expiry -/

theorem stallTimerEffect_none (stopped : (s.drive.wheels.get wheel).stall = none) : stallTimerEffect wheel s = s := by
  simp [stallTimerEffect, stopped]

theorem stallTimerEffect_doubles {timer : StallTimer} (counting : (s.drive.wheels.get wheel).stall = some timer)
    (rug : s.onRug = true) (single : timer.doubled = false) : stallTimerEffect wheel s = doubleStall wheel timer s := by
  simp [stallTimerEffect, counting, rug, single]

theorem stallTimerEffect_expired {timer : StallTimer} (counting : (s.drive.wheels.get wheel).stall = some timer)
    (doubled : s.onRug = true → timer.doubled = true) : stallTimerEffect wheel s = settle (stallExpired wheel s) := by
  rw [stallTimerEffect, counting]
  exact if_neg fun ⟨rug, single⟩ => single (doubled rug)

theorem stallExpired_unjams (running : s.segments.running = some c) (first : c.cause = none)
    (left : s.drive.retries < stallRetries s.config) : stallExpired wheel s = startUnjam s := by
  simp [stallExpired, running, first, left]

theorem stallExpired_stalls (running : s.segments.running = some c) (first : c.cause = none)
    (exhausted : stallRetries s.config ≤ s.drive.retries) :
    stallExpired wheel s = reloadWheel wheel (handCause .stall none s) := by
  simp [stallExpired, running, first, Nat.not_lt.mpr exhausted]

theorem stall_dropped {e : EndCause} (cause : c.cause = some e) : takesCause c .stall = false := by
  simp [takesCause, cause, replacesCause]

/-- With a cause standing and no BACKOFF move the stop goes on (R116). -/
theorem stallExpired_later {e : EndCause} (running : s.segments.running = some c) (cause : c.cause = some e)
    (noMove : s.drive.stop.moveInProgress = false) : stallExpired wheel s = reloadWheel wheel s := by
  rw [stallExpired, running]
  simp [cause, noMove, handCause_dropped .stall none s c running (stall_dropped cause)]

/-- The state after a HARD stop (R108). -/
def hardened (s : State) : State := { s with drive := hardStop s.config s.drive }

theorem hardened_atRest {s : State} (result : s.floor.resultPending = false) : AtRest (hardened s) :=
  ⟨(atRest_iff _).mpr ⟨rfl, rfl⟩, rfl, rfl, result⟩

/-- A BACKOFF move is ended by a HARD stop (R111, R116). -/
theorem stallExpired_hard {e : EndCause} (running : s.segments.running = some c) (cause : c.cause = some e)
    (move : s.drive.stop.moveInProgress = true) :
    stallExpired wheel s = hardened s := by
  have stop : combineStop s.config c.segment.motion.isStraight c.holdTarget.isSome .hard s.drive =
      hardStop s.config s.drive := by
    cases stop : s.drive.stop <;> simp_all [combineStop, Stop.moveInProgress]
  have requested : requestStop .hard s = { s with drive := hardStop s.config s.drive } := by
    rw [requestStop_running .hard s c running, stop]
  rw [stallExpired, running]
  simp only [cause, Option.isNone_some, move, if_true, requested]
  exact handCause_dropped .stall none _ c running (stall_dropped cause)

/-- STALL as the first cause, with a RAMP (R116). -/
theorem handCause_stall_ramp (running : s.segments.running = some c) (first : c.cause = none)
    (stop : s.drive.stop = .none) (ramps : stallResponseCode s.config ≠ 1) : handCause .stall none s = { s with
      segments := { s.segments with running := some { c with cause := some ⟨.stall, none⟩, phase := .stopping } }
      drive := rampFrom c.holdTarget s.drive } :=
  handCause_first running first (congrArg some (if_neg ramps)) rfl stop

/-- STALL as the first cause, with a RELEASE (R110, R116). -/
theorem handCause_stall_release (running : s.segments.running = some c) (first : c.cause = none)
    (stop : s.drive.stop = .none) (releases : stallResponseCode s.config = 1) : handCause .stall none s = { s with
      segments := { s.segments with running := some { c with cause := some ⟨.stall, none⟩, phase := .stopping } }
      drive := releaseStop s.config s.drive } := by
  have asked : stopForCause s.config c.segment.motion .stall = some .release := congrArg some (if_pos releases)
  rw [handCause_taken .stall none s c running (takesCause_first c .stall first), asked]
  simp only [combineStop_none _ _ _ _ _ stop]
  rfl

/-! ### Stall timers -/

theorem reloadStall_running {cfg : Settings} {rug : Bool} {w : Wheel} {timer : StallTimer} (counting : w.stall = some timer) :
    reloadStall cfg rug w = { w with stall := some (stallReload cfg rug) } := by simp [reloadStall, counting]

theorem reloadStall_stopped {cfg : Settings} {rug : Bool} {w : Wheel} (stopped : w.stall = none) :
    reloadStall cfg rug w = w := by
  cases w
  simp_all [reloadStall]

theorem reloadWheel_stopped (stopped : (s.drive.wheels.get wheel).stall = none) : reloadWheel wheel s = s := by
  rw [reloadWheel, reloadStall_stopped stopped]
  cases wheel <;> rfl

/-- A RAMP request and the reload of a stall timer touch different parts of the drive. -/
theorem rampFrom_set (hold : Option Nat) (d : Drive) (wheel : Side) (f : Wheel → Wheel)
    (setpoint : ∀ w, (f w).setpoint = w.setpoint) (target : ∀ w, f { w with target := 0 } = { f w with target := 0 }) :
    { rampFrom hold d with wheels := (rampFrom hold d).wheels.set wheel (f ((rampFrom hold d).wheels.get wheel)) } =
      rampFrom hold { d with wheels := d.wheels.set wheel (f (d.wheels.get wheel)) } := by
  have base : rampBaseOf hold { d with wheels := d.wheels.set wheel (f (d.wheels.get wheel)) } = rampBaseOf hold d := by
    cases wheel <;> cases hold <;> simp [rampBaseOf, Pair.set, Pair.get, setpoint]
  unfold rampFrom
  rw [base]
  dsimp only
  split
  · cases wheel <;> simp [Pair.set, Pair.get, target]
  · rfl

theorem signOf_eq_sign (v : Int) : signOf v = v.sign := by
  unfold signOf
  rcases Int.lt_trichotomy v 0 with neg | zero | pos
  · rw [if_neg (by omega), if_pos neg, Int.sign_eq_neg_one_of_neg neg]
  · rw [if_neg (by omega), if_neg (by omega), zero, Int.sign_zero]
  · rw [if_pos pos, Int.sign_eq_one_of_pos pos]

/-- A wheel's direction in an unjam is against its setpoint, or its target where that is 0 (R116). -/
theorem unjamTarget_eq (cfg : Settings) (w : Wheel) : unjamTarget cfg w =
    -(if w.setpoint ≠ 0 then w.setpoint.sign else w.target.sign) * (min (creepSpeed cfg) (speedMax cfg) : Nat) := by
  simp only [unjamTarget, signOf_eq_sign]
  split <;> simp

theorem atRest_released {d : Drive} {cfg : Settings} {u : State} (released : WheelsReleased cfg d u.drive) :
    u.atRest = true := (atRest_iff u).mpr ⟨released.left_zero, released.right_zero⟩

/-- The state that a RELEASE for STALL leaves, before the record (R110, R116). -/
def stallReleased (c : Context) (s : State) : State :=
  { s with
    segments := { s.segments with running := some { c with cause := some ⟨.stall, none⟩, phase := .stopping } }
    drive := releaseStop s.config s.drive }

theorem stallReleased_released (c : Context) (s : State) : WheelsReleased s.config s.drive (stallReleased c s).drive :=
  releaseStop_released s.config s.drive

theorem stallReleased_atRest (c : Context) {s : State} (result : s.floor.resultPending = false) :
    AtRest (stallReleased c s) :=
  ⟨atRest_released (stallReleased_released c s), rfl, rfl, result⟩

theorem stallExpired_release (running : s.segments.running = some c) (first : c.cause = none)
    (exhausted : stallRetries s.config ≤ s.drive.retries) (releases : stallResponseCode s.config = 1)
    (stop : s.drive.stop = .none) : stallExpired wheel s = stallReleased c s := by
  rw [stallExpired_stalls running first exhausted, handCause_stall_release running first stop releases]
  refine reloadWheel_stopped ?_
  cases wheel
  · exact (stallReleased_released c s).left_stall
  · exact (stallReleased_released c s).right_stall

/-- The last record and the transition after it leave the latch of a RELEASE (R110). -/
theorem settle_last_latch {u : State} (due : u.canWrite = true) (last : u.segments.queue.tail = []) :
    (settle u).drive.releaseLatch = u.drive.releaseLatch := by
  have record : (writeRecord u).drive.releaseLatch = u.drive.releaseLatch := by
    unfold writeRecord
    split
    · split <;> rfl
    · rfl
  have entry (m : Mode) (v : State) : (enterMode m v).drive.releaseLatch = v.drive.releaseLatch := by
    unfold enterMode
    split <;> rfl
  have left (v : State) : (leaveStopping v).drive.releaseLatch = v.drive.releaseLatch := by
    unfold leaveStopping
    split
    · split
      · exact entry .halted v
      · exact entry .config v
    · rfl
  have parked (v : State) : (parkIfDrained v).drive.releaseLatch = v.drive.releaseLatch := by
    unfold parkIfDrained
    split
    · exact entry .parked v
    · rfl
  rw [settle_last due last, parked, left, record]

theorem writeRecord_idle {u : State} (due : u.canWrite = true) : (writeRecord u).segments.running = none := by
  obtain ⟨c, running⟩ := running_of_canWrite u due
  obtain ⟨e, cause⟩ := Option.isSome_iff_exists.mp ((canWrite_iff u c running).mp due).1
  rw [writeRecord_running_eq u c e running cause]

/-- Where the last record leads in STOPPING and in PARKING (R167 to R169). -/
theorem settle_last_modes {u : State} (due : u.canWrite = true) (last : u.segments.queue.tail = []) :
    (u.modes.mode = .stopping → u.modes.haltPending = false →
      (settle u).modes = { u.modes with mode := .config, wakeTimer := none } ∧
      (settle u).latches = { u.latches with modeReached := true }) ∧
    (u.modes.mode = .stopping → u.modes.haltPending = true →
      (settle u).modes = { u.modes with
        mode := .halted
        wakeTimer := none
        haltReason := .linkLost
        haltPending := false } ∧
      (settle u).latches = { u.latches with modeReached := true, halt := true }) ∧
    (u.modes.mode = .parking → (settle u).modes.mode =
      if (settle u).drive.wheels.left.guard = none ∧ (settle u).drive.wheels.right.guard = none then .parked
      else .parking) := by
  refine ⟨fun mode pending => ?_, fun mode pending => ?_, fun mode => ?_⟩
  · rw [settle_last_config due last mode pending]
    exact ⟨by simp [latchModeReached, enterMode_rest .config _ rfl], by simp [latchModeReached]⟩
  · rw [settle_last_halted due last mode pending, fallToHalted_eq]
    exact ⟨by simp, by simp⟩
  · cases guards : u.guardsClear with
    | true =>
      have parks := parkedWith_of_entry (s := writeRecord u) (writeRecord_idle due) (writeRecord_queue_last due last)
        (by rw [writeRecord_atRest, atRest_of_canWrite due]) (by rw [writeRecord_guardsClear, guards])
      rw [← settle_last_parked due last mode guards] at parks
      rw [if_pos ((guardsClear_iff _).mp parks.guards), parks.mode]
    | false =>
      rw [settle_last_parking due last mode guards, if_neg, writeRecord_modes, mode]
      rw [← guardsClear_iff, writeRecord_guardsClear, guards]
      exact Bool.false_ne_true

/-- STALL with a RELEASE ends the segment at once (R110, R116). -/
theorem stall_releases {rest : List Segment} (ready : s.power = .ready)
    (effect : stallTimerEffect wheel s = settle (stallReleased c s)) (queue : s.segments.queue = c.segment :: rest)
    (result : s.floor.resultPending = false) :
    ∃ t more, exec (.stallTimerExpiry wheel) s = .next t ∧ WheelsReleased s.config s.drive t.drive ∧
      t.segments.completions = s.segments.completions ++ ⟨c.segment, .stall, c.cancelSeen, travelledOf c, none,
        s.drive.retries, s.link.timeBase⟩ :: more ∧
      (rest = [] → more = [] ∧ t.segments.queue = [] ∧ t.segments.running = none ∧ t.drive.releaseLatch = true ∧
        (s.modes.mode = .stopping → s.modes.haltPending = false →
          t.modes = { s.modes with mode := .config, wakeTimer := none } ∧
          t.latches = { s.latches with modeReached := true }) ∧
        (s.modes.mode = .stopping → s.modes.haltPending = true →
          t.modes = { s.modes with
            mode := .halted
            wakeTimer := none
            haltReason := .linkLost
            haltPending := false } ∧
          t.latches = { s.latches with modeReached := true, halt := true }) ∧
        (s.modes.mode = .parking → t.modes.mode =
          if t.drive.wheels.left.guard = none ∧ t.drive.wheels.right.guard = none then .parked else .parking)) := by
  obtain ⟨more, written⟩ := settle_writes (stallReleased c s) _ ⟨.stall, none⟩ rfl rfl (stallReleased_atRest c result)
  refine ⟨_, more, exec_effect rfl ready effect, settle_released (stallReleased_released c s), written, fun last => ?_⟩
  have tail : (stallReleased c s).segments.queue.tail = [] := by
    show s.segments.queue.tail = []
    rw [queue, last]
    rfl
  have due : (stallReleased c s).canWrite = true := (canWrite_iff _ _ rfl).mpr ⟨rfl, stallReleased_atRest c result⟩
  have segments := settle_last_segments (s := stallReleased c s) rfl rfl (stallReleased_atRest c result) tail
  refine ⟨?_, ?_, ?_, settle_last_latch due tail, settle_last_modes due tail⟩
  · have both := (congrArg Segments.completions segments).symm.trans written
    simpa [stallReleased, releaseStop, zeroWheels] using both
  · rw [refresh_segments, segments]
  · rw [refresh_segments, segments]

/-- Settles O45: by the retries left, the response and the stop in progress. -/
theorem stallTimerStartsUnjamsThenStops : Obligations.StallTimerStartsUnjamsThenStops := by
  unfold Obligations.StallTimerStartsUnjamsThenStops
  intro wheel s ready
  refine ⟨fun stopped => exec_effect rfl ready (stallTimerEffect_none stopped),
    fun timer counting rug single => exec_effect rfl ready (stallTimerEffect_doubles counting rug single),
    fun timer c reload counting doubled hreload queued running => ?_⟩
  have expired := stallTimerEffect_expired counting doubled
  refine ⟨fun first left => ?_, fun first exhausted moving stop ramps => ?_,
    fun first exhausted releases stop result queue _ _ => ?_, fun rest first exhausted releases stop result queue => ?_,
    fun e cause noMove moving => ?_, fun e cause move result => ?_, fun e rest cause move result queue => ?_⟩
  · rw [stallExpired_unjams running first left] at expired
    have settled : settle (startUnjam s) = startUnjam s :=
      settle_of_no_cause _ { c with phase := .unjam } (by simp [startUnjam, setPhase, running]) first queued
    refine ⟨⟨0, s.drive.wheels.map (unjamTarget s.config)⟩, _, exec_effect rfl ready (expired.trans settled), rfl,
      fun side => ?_, ?_⟩
    · cases side <;> exact unjamTarget_eq s.config _
    · subst hreload
      simp only [startUnjam, setPhase, running]
      rfl
  · rw [stallExpired_stalls running first exhausted, handCause_stall_ramp running first stop ramps] at expired
    have reloaded := rampFrom_set c.holdTarget s.drive wheel (reloadStall s.config s.onRug) (fun _ => rfl) (fun _ => rfl)
    rw [reloadStall_running counting, ← show reload = stallReload s.config s.onRug from hreload] at reloaded
    have notDue := canWrite_of_ramp (s := { s with drive := { s.drive with
        wheels := s.drive.wheels.set wheel { s.drive.wheels.get wheel with stall := some reload } } })
      (t := { s with
        drive := rampFrom c.holdTarget { s.drive with
          wheels := s.drive.wheels.set wheel { s.drive.wheels.get wheel with stall := some reload } }
        segments := { s.segments with running := some { c with cause := some ⟨.stall, none⟩, phase := .stopping } } })
      rfl (by cases wheel <;> exact moving)
    refine exec_effect rfl ready (expired.trans ?_)
    rw [← reloaded] at notDue ⊢
    exact settle_of_no_write _ _ rfl notDue queued
  · obtain ⟨t, more, run, released, written, last⟩ := stall_releases ready
      (expired.trans (congrArg settle (stallExpired_release running first exhausted releases stop))) queue result
    obtain ⟨none, noQueue, idle, latch, -⟩ := last rfl
    subst none
    refine ⟨t, run, released, latch, ?_⟩
    show (⟨t.segments.queue, t.segments.running, t.segments.completions⟩ : Segments) = _
    rw [noQueue, idle, written]
    rfl
  · exact stall_releases ready
      (expired.trans (congrArg settle (stallExpired_release running first exhausted releases stop))) queue result
  · rw [stallExpired_later running cause noMove] at expired
    have moves : (reloadWheel wheel s).atRest = false := by cases wheel <;> exact moving
    have settled := settle_of_no_write (reloadWheel wheel s) c running (canWrite_of_moving _ moves) queued
    refine exec_effect rfl ready (expired.trans (settled.trans ?_))
    rw [reloadWheel, reloadStall_running counting, hreload]
    rfl
  · rw [stallExpired_hard running cause move] at expired
    have waits : ¬ AtRest (hardened s) := fun still => by
      have none : s.floor.resultPending = false := still.no_result
      simp [result] at none
    have settled := settle_of_no_write (hardened s) c running (canWrite_of_not_atRest waits) queued
    exact ⟨_, exec_effect rfl ready (expired.trans settled), hardStop_released s.config s.drive, rfl, rfl⟩
  · rw [stallExpired_hard running cause move] at expired
    have released : WheelsReleased s.config s.drive (hardened s).drive := hardStop_released s.config s.drive
    obtain ⟨more, written⟩ := settle_writes (hardened s) c e running cause (hardened_atRest result)
    refine ⟨_, more, exec_effect rfl ready expired, settle_released released, written, fun last => ?_⟩
    have segments := settle_last_segments (s := hardened s) running cause (hardened_atRest result) (by
      show s.segments.queue.tail = []
      rw [queue, last]
      rfl)
    refine ⟨?_, ?_, ?_⟩
    · have both := (congrArg Segments.completions segments).symm.trans written
      simpa [hardened, hardStop, zeroWheels] using both
    · rw [refresh_segments, segments]
    · rw [refresh_segments, segments]

end Sys2Proof.Machine
end

section
/-! The dock contact, its settle and the undock wait (R156, R157, R159). -/

namespace Sys2Proof.Machine

/-! ### A start that settles -/

theorem settleLoop_succ_of_done {n : Nat} {s : State} (write : (settleLoop n s).canWrite = false)
    (start : (settleLoop n s).canStart = false) : settleLoop (n + 1) s = settleLoop n s := by
  induction n generalizing s with
  | zero => exact settleLoop_of_done 1 s write start
  | succ n ih =>
    by_cases more : (s.canWrite || s.canStart) = true
    · have step (k : Nat) : settleLoop (k + 1) s = settleLoop k (settleOnce s) := by rw [settleLoop, if_pos more]
      rw [step] at write start
      rw [step, step, ih write start]
    · obtain ⟨noWrite, noStart⟩ : s.canWrite = false ∧ s.canStart = false := by simpa using more
      rw [settleLoop_of_done _ s noWrite noStart, settleLoop_of_done _ s noWrite noStart]

/-- Where a start is due, settling begins with it (R87). -/
theorem settle_start {s : State} (ok : SegmentsOk s.segments) (start : s.canStart = true) :
    settle s = settle (startSegment s) := by
  have notDue : s.canWrite = false := canWrite_of_no_running s ((canStart_iff s).mp start).2.1
  have first : settleOnce s = startSegment s := by rw [settleOnce, if_neg (by simp [notDue]), if_pos start]
  have loop : settleLoop (2 * s.segments.queue.length + 2) s =
      settleLoop (2 * s.segments.queue.length + 1) (startSegment s) := by
    rw [settleLoop, if_pos (by simp [start]), first]
  have running : ∃ c, (startSegment s).segments.running = some c := by
    obtain ⟨queued, -⟩ := (canStart_iff s).mp start
    obtain ⟨g, rest, queue⟩ := List.exists_cons_of_ne_nil queued
    rcases startSegment_cases queue with ⟨found, started⟩ | ⟨e, ended⟩
    · exact ⟨startContext g s, by rw [started]; rfl⟩
    · exact ⟨_, by rw [ended]; rfl⟩
  obtain ⟨c, running⟩ := running
  have enough : settlingLeft (startSegment s) ≤ 2 * s.segments.queue.length + 1 := by
    simp [settlingLeft, running]
  obtain ⟨write, start'⟩ := settleLoop_done (startSegment_ok s ok) enough
  rw [settle, settle, loop, startSegment_queue, settleLoop_succ_of_done write start']

/-! ### The undock wait -/

variable {s : State}

theorem undockWaitEffect_running {n : Nat} (counting : s.dock.undockTimer = some n) :
    undockWaitEffect s = settle (endUndockWait s) := if_pos (by simp [counting])

theorem endUndockWait_running {c : Context} (running : s.segments.running = some c) : endUndockWait s = { s with
    dock := { s.dock with undock := .leaving, undockTimer := none }
    segments := { s.segments with running := some (leaveWaiting c) } } := by
  simp [endUndockWait, running]

theorem endUndockWait_idle (idle : s.segments.running = none) : endUndockWait s = { s with
    dock := { s.dock with undock := .none, undockTimer := none } } := by
  have same : ({ s.segments with running := none } : Segments) = s.segments := by rw [← idle]
  simp [endUndockWait, idle, same]

theorem leaveWaiting_first {c : Context} (first : c.cause = none) :
    leaveWaiting c = { c with phase := if c.phase = .waiting then .moving else c.phase } := by
  by_cases waiting : c.phase = .waiting
  · simp [leaveWaiting, first, waiting]
  · simp [leaveWaiting, waiting]

theorem leaveWaiting_later {c : Context} {e : EndCause} (cause : c.cause = some e) : leaveWaiting c = c := by
  simp [leaveWaiting, cause]

/-! ### The contact -/

/-- The contact items of a dock: all but those of the undock wait (R156, R157). -/
structure SameContact (d e : Dock) : Prop where
  contact : e.contact = d.contact
  docked : e.docked = d.docked
  settle : e.settle = d.settle

theorem SameContact.trans {d e f : Dock} (h : SameContact d e) (k : SameContact e f) : SameContact d f :=
  ⟨k.contact.trans h.contact, k.docked.trans h.docked, k.settle.trans h.settle⟩

theorem sameContact_of_eq {d e : Dock} (h : e = d) : SameContact d e := by
  subst h
  exact ⟨rfl, rfl, rfl⟩

theorem writeRecord_contact (s : State) : SameContact s.dock (writeRecord s).dock := by
  unfold writeRecord
  split
  · split
    · dsimp only
      split <;> exact ⟨rfl, rfl, rfl⟩
    · exact ⟨rfl, rfl, rfl⟩
  · exact ⟨rfl, rfl, rfl⟩

theorem opened_contact (g : Segment) (s : State) : SameContact s.dock (opened g s).dock := by
  unfold opened openContext
  dsimp only [classifySilently]
  split <;> exact ⟨rfl, rfl, rfl⟩

theorem startSegment_contact (s : State) : SameContact s.dock (startSegment s).dock := by
  cases queue : s.segments.queue with
  | nil =>
    have none : startSegment s = s := by simp [startSegment, queue]
    exact sameContact_of_eq (by rw [none])
  | cons g rest =>
    rcases startSegment_cases queue with ⟨found, started⟩ | ⟨e, ended⟩
    · rw [started]
      exact opened_contact g s
    · rw [ended]
      exact opened_contact g s

theorem settleOnce_contact (s : State) : SameContact s.dock (settleOnce s).dock := by
  unfold settleOnce
  split
  · exact (writeRecord_contact s).trans (sameContact_of_eq (leaveStopping_dock _))
  · split
    · exact startSegment_contact s
    · exact ⟨rfl, rfl, rfl⟩

/-- Settling leaves the contact items. -/
theorem settle_contact (s : State) : SameContact s.dock (settle s).dock := by
  have loop (n : Nat) (s : State) : SameContact s.dock (settleLoop n s).dock := by
    induction n generalizing s with
    | zero => exact ⟨rfl, rfl, rfl⟩
    | succ n ih =>
      rw [settleLoop]
      split
      · exact (settleOnce_contact s).trans (ih _)
      · exact ⟨rfl, rfl, rfl⟩
  exact (loop _ s).trans (sameContact_of_eq (parkIfDrained_dock _))

/-- The dock after a make that completes (R156). -/
def madeDock (s : State) : State := { s with dock := { s.dock with docked := true, settle := none } }

theorem completeMake_other (other : ∀ c, s.segments.running = some c → c.segment.motion.isDock = false) :
    completeMake s = offerNotice (dockNotice .dockMade s) (madeDock s) := by
  unfold completeMake handDocked
  split
  · next c running =>
    rw [offerNotice_segments] at running
    rw [if_neg (by simp [other c running])]
    rfl
  · rfl

/-- A make that hands nothing leaves a settled part settled. -/
theorem completeMake_settled (settled : Settled s)
    (other : ∀ c, s.segments.running = some c → c.segment.motion.isDock = false) :
    settle (completeMake s) = completeMake s := by
  have same : completeMake s = offerNotice (dockNotice .dockMade s) (madeDock s) := completeMake_other other
  refine settle_of_settled _ ⟨?_, ?_, ?_⟩
  · rw [same, ← settled.no_write]
    simp [State.canWrite, State.atRest, madeDock]
  · rw [same, ← settled.no_start]
    simp [State.canStart, State.atRest, madeDock]
  · rw [same]
    simpa [madeDock, State.drained, State.atRest, State.guardsClear] using settled.no_park

theorem completeMake_docks {c : Context} (running : s.segments.running = some c) (dock : c.segment.motion.isDock = true) :
    completeMake s = handCause .docked none (offerNotice (dockNotice .dockMade s) (madeDock s)) := by
  have runs : (offerNotice (dockNotice .dockMade s) (madeDock s)).segments.running = some c := by simpa [madeDock] using running
  unfold completeMake handDocked
  rw [show (offerNotice (dockNotice .dockMade s) { s with dock := { s.dock with docked := true, settle := none } }) =
    offerNotice (dockNotice .dockMade s) (madeDock s) from rfl, runs]
  exact if_pos dock

theorem completeMake_link (s : State) : (completeMake s).link = (offerNotice (dockNotice .dockMade s) (madeDock s)).link := by
  unfold completeMake handDocked
  split
  · split
    · simp [madeDock]
    · rfl
  · rfl

theorem completeMake_dock (s : State) : (completeMake s).dock = { s.dock with docked := true, settle := none } := by
  unfold completeMake handDocked
  split
  · split <;> simp
  · simp

theorem dockSettleEffect_running {timer : Settle} (counting : s.dock.settle = some timer) :
    dockSettleEffect s = settle (completeMake s) := if_pos (by simp [counting])

theorem noticesJoined_link {joined : List Notice} {t u : State} (h : NoticesJoined joined s t) (link : u.link = t.link) :
    NoticesJoined joined s u := by
  obtain ⟨queue, loaded, left⟩ := h
  rw [← link] at queue loaded left
  exact ⟨queue, loaded, left⟩

theorem completeMake_world (s : State) : KeepsWorld s (refresh (settle (completeMake s))) := by
  constructor <;> simp

theorem completeMake_plan (s : State) : KeepsPlan s (refresh (settle (completeMake s))) := by
  constructor <;> simp

/-- A break clears docked, with a DOCK_LOST where it is no departure (R157). -/
theorem dockContactBreak (ready : s.power = .ready) (made : s.dock.contact = true) :
    ∃ t, exec .dockContactBreak s = .next t ∧ t.outputs.chargeEnable = false ∧
      t.dock = ⟨false, none, false, if s.dock.undock = .leaving then .none else s.dock.undock, s.dock.undockTimer⟩ ∧
      t = refresh { s with
        lines := { s.lines with dockContact := false }
        dock := t.dock
        link := t.link
        latches := t.latches } ∧
      (s.dock.docked = false ∨ s.dock.undock ≠ .none → t.link = s.link ∧ t.latches = s.latches) ∧
      (s.dock.docked = true → s.dock.undock = .none →
        (s.link.notices.length < 16 → t.latches = s.latches ∧
          NoticesJoined [⟨.dockLost, none, none, none, s.pose.px, s.pose.py, none, s.link.timeBase⟩] s t ∧
          t.link = { s.link with notices := t.link.notices, noticeTimer := t.link.noticeTimer }) ∧
        (16 ≤ s.link.notices.length → t.link = s.link ∧
          t.latches = { s.latches with noticeOverflow := true })) := by
  obtain ⟨b, hb⟩ : ∃ b, b = { s with lines := { s.lines with dockContact := false }, dock := brokenDock s.dock } := ⟨_, rfl⟩
  have noCharge (t : State) (dock : t.dock = brokenDock s.dock) : (refresh t).outputs.chargeEnable = false := by
    show t.chargeOn = false
    simp [State.chargeOn, dock, brokenDock]
  by_cases lost : s.dock.docked = true ∧ s.dock.undock = .none
  · have effect : contactBreakEffect { s with lines := { s.lines with dockContact := false } } =
        offerNotice (dockNotice .dockLost s) b := by
      rw [hb]
      exact (if_pos made).trans (if_pos lost)
    have quiet (h : s.dock.docked = false ∨ s.dock.undock ≠ .none) : False := by
      rcases h with h | h
      · exact absurd (lost.1.symm.trans h) Bool.noConfusion
      · exact h lost.2
    rcases offerNotice_cases (dockNotice .dockLost s) b with ⟨short, offered⟩ | ⟨full, offered⟩
    · have joined := noticesJoined_of_same s (offerNotice_joined (dockNotice .dockLost s) b short) (by rw [hb]) (by rw [hb])
        (by rw [hb])
      refine ⟨_, exec_effect rfl ready effect, noCharge _ (by simp [hb]), by simp [hb, brokenDock], ?_,
        fun h => (quiet h).elim, fun _ _ => ⟨fun _ => ⟨?_, noticesJoined_link joined rfl, ?_⟩, fun full => ?_⟩⟩
      · rw [offered, hb]
        rfl
      · rw [offered, hb]
        rfl
      · rw [offered, hb]
        rfl
      · rw [hb] at short
        exact absurd short (Nat.not_lt.mpr full)
    · refine ⟨_, exec_effect rfl ready effect, noCharge _ (by simp [hb]), by simp [hb, brokenDock], ?_,
        fun h => (quiet h).elim, fun _ _ => ⟨fun short => ?_, fun _ => ⟨?_, ?_⟩⟩⟩
      · rw [offered, hb]
        rfl
      · rw [hb] at full
        exact absurd short (Nat.not_lt.mpr full)
      · rw [offered, hb]
        rfl
      · rw [offered, hb]
        rfl
  · have effect : contactBreakEffect { s with lines := { s.lines with dockContact := false } } = b := by
      rw [hb]
      exact (if_pos made).trans (if_neg lost)
    refine ⟨_, exec_effect rfl ready effect, noCharge b (by rw [hb]), by rw [hb]; rfl, by rw [hb]; rfl,
      fun _ => by rw [hb]; exact ⟨rfl, rfl⟩, fun docked undock => absurd ⟨docked, undock⟩ lost⟩

/-- Settles O59: the contact by its level, its settle, and the undock wait by the segment that runs. -/
theorem dockContactIsFollowed : Obligations.DockContactIsFollowed := by
  unfold Obligations.DockContactIsFollowed
  intro s ready
  refine ⟨fun broken => ⟨?_, ?_⟩, fun made => ⟨?_, ?_⟩, fun stopped => ?_, fun timer counting => ?_, fun stopped => ?_,
    fun n counting => ⟨fun c runs => ?_, fun c e running cause queued notAtRest => ?_, fun idle u hu => ⟨fun settled => ?_,
      fun ok queued mode still => ?_⟩⟩⟩
  · exact exec_effect rfl ready (if_neg (by simp [broken]))
  · exact exec_effect rfl ready (if_neg (by simp [broken]))
  · exact exec_effect rfl ready (if_pos made)
  · exact dockContactBreak ready made
  · exact exec_effect rfl ready (if_neg (by simp [stopped]))
  · refine ⟨_, exec_effect rfl ready (dockSettleEffect_running counting), completeMake_world s, completeMake_plan s, ?_, ?_,
      fun short => ?_, fun settled other => ?_, fun c runs dock moving stop => ?_⟩
    · rw [refresh_dock, (settle_contact _).docked, completeMake_dock]
    · rw [refresh_dock, (settle_contact _).settle, completeMake_dock]
    · refine noticesJoined_link (noticesJoined_of_same s
        (offerNotice_joined (dockNotice .dockMade s) (madeDock s) short) rfl rfl rfl) ?_
      rw [refresh_link, settle_link, completeMake_link]
    · rw [completeMake_settled settled other, completeMake_other other]
      simp [madeDock]
    · have docks := completeMake_docks runs.running dock
      rw [handCause_first (c := c) (by simpa [madeDock] using runs.running) runs.no_cause rfl rfl
        (by simpa [madeDock] using stop)] at docks
      have notDue : (completeMake s).canWrite = false := canWrite_of_ramp (s := s) (hold := c.holdTarget) (by rw [docks]; simp [madeDock]) moving
      rw [settle_of_no_write _ _ (by rw [docks]) notDue (by rw [docks]; simpa [madeDock] using runs.queued), docks]
      simp [madeDock]
  · exact exec_effect rfl ready (if_neg (by simp [stopped]))
  · have settled := settle_of_no_cause (endUndockWait s) (leaveWaiting c) (by rw [endUndockWait_running runs.running])
      (by rw [leaveWaiting_first runs.no_cause]; exact runs.no_cause) (by rw [endUndockWait_running runs.running]; exact runs.queued)
    refine exec_effect rfl ready ((undockWaitEffect_running counting).trans (settled.trans ?_))
    rw [endUndockWait_running runs.running, leaveWaiting_first runs.no_cause]
  · have same : ({ s.segments with running := some c } : Segments) = s.segments := by rw [← running]
    have ended := endUndockWait_running running
    rw [leaveWaiting_later cause, same] at ended
    have settled := settle_of_no_write (endUndockWait s) c (by rw [ended]; exact running)
      (canWrite_of_not_atRest (not_atRest_of_same notAtRest (by rw [ended]) (by rw [ended]))) (by rw [ended]; exact queued)
    exact exec_effect rfl ready ((undockWaitEffect_running counting).trans (settled.trans ended))
  · subst hu
    refine exec_effect rfl ready ((undockWaitEffect_running counting).trans ?_)
    rw [endUndockWait_idle idle, settle_of_settled _ settled]
  · have start : u.canStart = true := by
      refine (canStart_iff u).mpr ?_
      subst hu
      exact ⟨queued, idle, mode, still, Undock.noConfusion⟩
    have uok : SegmentsOk u.segments := by rw [hu]; exact ok
    have ended : undockWaitEffect s = settle (startSegment u) := by
      rw [undockWaitEffect_running counting, endUndockWait_idle idle, ← hu, settle_start uok start]
    have run := exec_effect (c := .undockWaitExpiry) rfl ready ended
    have starts : exec .segmentStart u = .next (refresh (settle (startSegment u))) :=
      exec_effect rfl (by rw [hu]; exact ready) (if_pos start)
    refine ⟨run.trans starts.symm, _, run, fun g rest queue turning result => ?_⟩
    have uqueue : u.segments.queue = g :: rest := by rw [hu]; exact queue
    rw [startSegment_turning uqueue turning, settle_startedWith _ uqueue, refresh_segments, refresh_dock,
      startedWith_segments, startedWith_dock, startContext_eq rfl, holdTargetAt_turning turning]
    have undocks : beginsUndock u g.motion = s.dock.docked := by
      simp [beginsUndock, isDock_of_turning turning, hu]
    rw [undocks]
    subst hu
    exact ⟨queue, rfl, rfl, rfl⟩

end Sys2Proof.Machine
end

section
/-! Cliff samples: the criteria and the trigger of a sensor that trips (R121 to R125, R130 to R136). -/

namespace Sys2Proof.Machine

/-! ### The criteria -/

/-- A record is confirmed by its source or by its confidence (R148). -/
theorem isConfirmed_iff (cfg : Settings) (r : Record) :
    isConfirmed cfg r = true ↔ r.source = .host ∨ confirmLevel cfg ≤ r.confidence := by
  unfold isConfirmed recordState
  cases r.source <;> simp

/-- The lenient criteria, spelled out (R122). -/
theorem lenientApply_iff (s : State) (sensor : CliffSensor) :
    lenientApply s sensor = true ↔ s.zones.centre.cls = .darkRug ∧ ∀ l c, IsLive s.table l → l.record.hazard = .drop c →
      (l.record.source = .host ∨ confirmLevel s.config ≤ l.record.confidence) →
      c.r + mergeDistance s.config <
        max (c.cx - (roomPoint s sensor).1).natAbs (c.cy - (roomPoint s sensor).2).natAbs := by
  have near : nearDrop s (roomPoint s sensor) = false ↔ ∀ l c, IsLive s.table l → l.record.hazard = .drop c →
      (l.record.source = .host ∨ confirmLevel s.config ≤ l.record.confidence) →
      c.r + mergeDistance s.config <
        max (c.cx - (roomPoint s sensor).1).natAbs (c.cy - (roomPoint s sensor).2).natAbs := by
    unfold nearDrop
    rw [List.any_eq_false]
    refine ⟨fun far l c live drop confirmed => ?_, fun far l live => ?_⟩
    · have apart := far l ((mem_liveRecords s.table l).mpr live)
      rw [drop] at apart
      simp only [(isConfirmed_iff s.config l.record).mpr confirmed, Bool.true_and, decide_eq_true_eq] at apart
      exact Nat.not_le.mp apart
    · cases drop : l.record.hazard with
      | drop c =>
        simp only [Bool.and_eq_true, decide_eq_true_eq, isConfirmed_iff]
        rintro ⟨confirmed, close⟩
        have apart := far l c ((mem_liveRecords s.table l).mp live) drop confirmed
        exact absurd close (Nat.not_le.mpr apart)
      | _ => simp
  rw [lenientApply, Bool.and_eq_true, decide_eq_true_eq, Bool.not_eq_true', near]

theorem countDark_eq (persist : Nat) (c : Cliff) : countDark persist c =
    ⟨if c.state = .tripped ∨ persist ≤ min 15 (c.count + 1) then .tripped else c.state, min 15 (c.count + 1)⟩ := by
  unfold countDark
  dsimp only
  by_cases tripped : c.state = .tripped
  · rw [if_pos tripped, if_pos (.inl tripped)]
  · rw [if_neg tripped]
    by_cases enough : persist ≤ min 15 (c.count + 1)
    · rw [if_pos enough, if_pos (.inr enough)]
    · rw [if_neg enough, if_neg (not_or.mpr ⟨tripped, enough⟩)]

/-- A sample by its band (R123, R124). -/
theorem judge_bands {cfg : Settings} {lenient : Bool} {reflectance : Nat} {old new : Cliff}
    (bright : floorThreshold cfg ≤ reflectance → new = ⟨.clear, 0⟩)
    (floor : reflectance < floorThreshold cfg → lenient = false → new = countDark (floorPersist cfg) old)
    (suspect : reflectance < floorThreshold cfg → lenient = true → effectiveRug cfg ≤ reflectance →
      new = ⟨if old.state = .tripped then .tripped else .suspect, 0⟩)
    (rug : reflectance < floorThreshold cfg → lenient = true → reflectance < effectiveRug cfg →
      new = countDark (rugPersist cfg) old) : judge cfg lenient reflectance old = new := by
  unfold judge
  by_cases light : floorThreshold cfg ≤ reflectance
  · rw [if_pos light, bright light]
    rfl
  · have dark := Nat.not_le.mp light
    rw [if_neg light]
    cases lenient with
    | false => exact (floor dark rfl).symm
    | true =>
      by_cases mid : effectiveRug cfg ≤ reflectance
      · exact (if_pos mid).trans (suspect dark rfl mid).symm
      · exact (if_neg mid).trans (rug dark rfl (Nat.not_le.mp mid)).symm

/-! ### The stop that a CLIFF asks for -/

theorem hardInstead_iff (s : State) (c : Context) : hardInstead s c = true ↔
    s.drive.stop.moveInProgress = true ∨ s.drive.unjam ≠ none ∨ c.phase = .waiting := by
  simp [hardInstead, Option.isSome_iff_ne_none, or_assoc]

theorem cliffStop_eq {s : State} {c : Context} {sensor : CliffSensor} (running : s.segments.running = some c) :
    cliffStop s sensor = (if s.drive.stop.moveInProgress = true ∨ s.drive.unjam ≠ none ∨ c.phase = .waiting then some .hard
      else match c.segment.motion with
        | .line .. | .dock .. => some (if cliffResponseCode s.config = 1 ∧
            0 ≤ c.segment.motion.sigma * forwardOffset s.config sensor then .backoff else .hard)
        | .spin .. => some .hard
        | .pause _ => none) := by
  have response : (if isTrailing s.config c.segment.motion sensor then StopKind.hard else cliffResponse s.config) =
      if cliffResponseCode s.config = 1 ∧ 0 ≤ c.segment.motion.sigma * forwardOffset s.config sensor then .backoff
      else .hard := by
    unfold isTrailing cliffResponse
    by_cases behind : c.segment.motion.sigma * forwardOffset s.config sensor < 0
    · rw [if_pos (by simpa using behind), if_neg fun ahead => absurd ahead.2 (Int.not_le.mpr behind)]
    · rw [if_neg (by simpa using behind)]
      simp only [Int.not_lt.mp behind, and_true]
  rw [cliffStop, running]
  simp only [response]
  by_cases hard : hardInstead s c = true
  · rw [if_pos hard, if_pos ((hardInstead_iff s c).mp hard)]
  · refine (if_neg hard).trans (Eq.trans ?_ (if_neg fun h => hard ((hardInstead_iff s c).mpr h)).symm)
    cases c.segment.motion <;> rfl

/-- A stop from no stop in progress, outside an unjam (R107, R108, R110). -/
theorem stopAsked_first {cfg : Settings} {c : Context} {d : Drive} (stop : d.stop = .none) (unjam : d.unjam = none)
    (straight : c.segment.motion.isStraight = true) :
    stopAsked cfg c (some .backoff) d = backoffStop cfg d := by
  simp [stopAsked, combineStop_none _ _ _ _ _ stop, unjam, straight]

theorem stopAsked_hard {cfg : Settings} {c : Context} {d : Drive} (stop : d.stop = .none) :
    stopAsked cfg c (some .hard) d = hardStop cfg d := by simp [stopAsked, combineStop_none _ _ _ _ _ stop]

theorem settled_of_result {s t : State} (settled : Settled s) (segments : t.segments = s.segments) (drive : t.drive = s.drive)
    (result : t.floor.resultPending = s.floor.resultPending) (dock : t.dock = s.dock) (modes : t.modes = s.modes) :
    Settled t := by
  refine ⟨?_, ?_, ?_⟩
  · rw [← settled.no_write]
    simp [State.canWrite, State.atRest, segments, drive, result]
  · rw [← settled.no_start]
    simp [State.canStart, State.atRest, segments, drive, dock, modes]
  · have := settled.no_park
    simpa [State.drained, State.atRest, State.guardsClear, segments, drive, modes] using this

/-- The first trigger of a running segment: its response waits for the observation, so nothing is due (R131, R136). -/
theorem fireTrigger_first {s : State} {c : Context} {asked : Option StopKind} {kind : EndKind} {o : Observation}
    (kinds : kind = .cliffStop ∨ kind = .bumpStop) (runs : RunsOn s c) : fireTrigger asked (some kind) o s = { s with
      drive := stopAsked s.config c asked s.drive
      ageing := { s.ageing with observations := s.ageing.observations ++ [o] }
      segments := { s.segments with running := some { c with cause := some ⟨kind, none⟩, phase := .stopping } }
      floor := { s.floor with response := some ⟨o, .pending s.ageing.observations.length⟩ } } := by
  rw [fireTrigger_running asked kind o s c kinds runs.running, if_pos runs.no_cause, if_pos runs.no_cause]
  exact settle_of_no_write _ _ rfl (canWrite_of_result_pending _ rfl) runs.queued

/-- A trigger that hands no cause and asks for no stop (R136). -/
theorem fireTrigger_handsOn {o : Observation} {s : State} (settled : Settled s) : fireTrigger none none o s = { s with
    ageing := { s.ageing with observations := s.ageing.observations ++ [o] } } :=
  settle_of_settled _ (settled_of_result settled rfl rfl rfl rfl rfl)

theorem fireTrigger_idle {kind : EndKind} {o : Observation} {s : State} (idle : s.segments.running = none)
    (settled : Settled s) : fireTrigger none (some kind) o s = { s with
      ageing := { s.ageing with observations := s.ageing.observations ++ [o] } } := by
  have hands : triggerCause kind o s = s := by simp [triggerCause, idle]
  refine Eq.trans ?_ (fireTrigger_handsOn settled)
  unfold fireTrigger
  simp only [hands]

theorem observationAt_eq (isDrop : Bool) (x y : Int) :
    observationAt isDrop (x, y) = ⟨isDrop, max (-30000) (min 30000 x), max (-30000) (min 30000 y)⟩ := by
  rw [observationAt, clampRoom_eq, clampRoom_eq]

/-- Where the room point of a sensor lies (R121). -/
theorem roomPoint_eq {s : State} {sensor : CliffSensor} {d : Direction} {wx wy : Int}
    (hd : d = directionOf s.pose.heading false)
    (hx : wx = s.pose.px + (forwardOffset s.config sensor * d.c - leftOffset s.config sensor * d.s) / 4096)
    (hy : wy = s.pose.py + (forwardOffset s.config sensor * d.s + leftOffset s.config sensor * d.c) / 4096) :
    roomPoint s sensor = (wx, wy) := by
  subst hd hx hy
  rfl

/-- The drive of the first CLIFF of a segment that moves (R130, R133, R134). -/
theorem cliffStop_drive {s : State} {c : Context} {sensor : CliffSensor} (running : s.segments.running = some c)
    (stop : s.drive.stop = .none) (unjam : s.drive.unjam = none) (phase : c.phase = .moving) :
    (c.segment.motion.isPause = true → stopAsked s.config c (cliffStop s sensor) s.drive = s.drive) ∧
    (c.segment.motion.isPause = false →
      WheelsReleased s.config s.drive (stopAsked s.config c (cliffStop s sensor) s.drive) ∧
      (stopAsked s.config c (cliffStop s sensor) s.drive).stop =
        (if c.segment.motion.isStraight = true ∧ cliffResponseCode s.config = 1 ∧
          0 ≤ c.segment.motion.sigma * forwardOffset s.config sensor then .backoffHalt else .hard)) := by
  have own : ¬ (s.drive.stop.moveInProgress = true ∨ s.drive.unjam ≠ none ∨ c.phase = .waiting) := by
    rw [stop, unjam, phase]
    rintro (h | h | h)
    · cases h
    · exact h rfl
    · cases h
  have hard : WheelsReleased s.config s.drive (stopAsked s.config c (some .hard) s.drive) ∧
      (stopAsked s.config c (some .hard) s.drive).stop = .hard := by
    rw [stopAsked_hard stop]
    exact ⟨hardStop_released _ _, rfl⟩
  have straightStop (straight : c.segment.motion.isStraight = true)
      (asked : cliffStop s sensor = some (if cliffResponseCode s.config = 1 ∧
        0 ≤ c.segment.motion.sigma * forwardOffset s.config sensor then .backoff else .hard)) :
      WheelsReleased s.config s.drive (stopAsked s.config c (cliffStop s sensor) s.drive) ∧
      (stopAsked s.config c (cliffStop s sensor) s.drive).stop =
        (if c.segment.motion.isStraight = true ∧ cliffResponseCode s.config = 1 ∧
          0 ≤ c.segment.motion.sigma * forwardOffset s.config sensor then .backoffHalt else .hard) := by
    rw [asked]
    by_cases back : cliffResponseCode s.config = 1 ∧ 0 ≤ c.segment.motion.sigma * forwardOffset s.config sensor
    · rw [if_pos back, if_pos ⟨straight, back⟩, stopAsked_first stop unjam straight]
      exact ⟨backoffStop_released _ _, rfl⟩
    · rw [if_neg back, if_neg fun h => back h.2]
      exact hard
  have asked := cliffStop_eq (sensor := sensor) running
  rw [if_neg own] at asked
  cases motion : c.segment.motion with
  | pause time =>
    rw [motion] at asked
    refine ⟨fun _ => ?_, nofun⟩
    rw [asked]
    rfl
  | spin angle speed =>
    rw [motion] at asked
    refine ⟨nofun, fun _ => ?_⟩
    rw [show cliffStop s sensor = some .hard from asked, if_neg fun h => Bool.false_ne_true h.1]
    exact hard
  | line reverse distance speed hold =>
    rw [motion] at asked straightStop
    exact ⟨nofun, fun _ => straightStop rfl asked⟩
  | dock distance speed =>
    rw [motion] at asked straightStop
    exact ⟨nofun, fun _ => straightStop rfl asked⟩

theorem cliffStop_ne_release (s : State) (sensor : CliffSensor) : cliffStop s sensor ≠ some .release := by
  unfold cliffStop cliffResponse
  repeat' split
  all_goals simp

/-- Settles O54: the sample by its band, the trigger by what runs. -/
theorem cliffSamplesAreJudged : Obligations.CliffSamplesAreJudged := by
  unfold Obligations.CliffSamplesAreJudged
  rintro sensor v s old new d wx wy lenient dark ready rfl hd hx hy hlenient hdark bright floor suspect rug
  have point := roomPoint_eq hd hx hy
  have criteria : lenientApply s sensor = true ↔ lenient := by
    rw [lenientApply_iff, hlenient, point]
  have counts (persist : Nat) : dark persist = countDark persist (s.floor.cliffs.get sensor) := by
    rw [hdark, countDark_eq]
  have judged : judge s.config (lenientApply s sensor) v.toNat (s.floor.cliffs.get sensor) = new :=
    judge_bands bright
      (fun below strict => (floor below fun h => by simp [criteria.mpr h] at strict).trans (counts _))
      (fun below applies mid => suspect below (criteria.mp applies) mid)
      (fun below applies low => (rug below (criteria.mp applies) low).trans (counts _))
  obtain ⟨t, ht⟩ : ∃ t, t = { s with floor := { s.floor with cliffs := s.floor.cliffs.set sensor new } } := ⟨_, rfl⟩
  refine ⟨fun idle => exec_effect rfl ready (if_neg (by simp [idle])), fun taking => ⟨fun quiet => ?_, fun trips fresh o ho => ?_⟩⟩
  · have effect : cliffEffect sensor v s = t := by
      unfold cliffEffect
      dsimp only
      rw [if_pos taking, judged, if_neg fun h => quiet.elim (fun no => no h.1) fun was => h.2 was, ht]
    exact exec_effect rfl ready (effect.trans ht)
  · have effect : cliffEffect sensor v s = fireTrigger (cliffStop t sensor) (some .cliffStop) o t := by
      unfold cliffEffect cliffTrigger
      dsimp only
      rw [if_pos taking, judged, if_pos ⟨trips, fresh⟩, point, ← ht, observationAt_eq, ho]
    refine ⟨fun idle settled => ?_, fun c runs stop unjam phase => ?_, fun c asked running queued hasked => ?_⟩
    · have tsettled : Settled t := settled_of_result settled (by rw [ht]) (by rw [ht]) (by rw [ht]; rfl) (by rw [ht]) (by rw [ht])
      have none : cliffStop t sensor = none := by rw [cliffStop, ht]; simp [idle]
      rw [none, fireTrigger_idle (by rw [ht]; exact idle) tsettled, ht] at effect
      exact exec_effect rfl ready effect
    · have truns : RunsOn t c := by rw [ht]; exact ⟨runs.running, runs.no_cause, runs.queued⟩
      obtain ⟨pause, other⟩ := cliffStop_drive (sensor := sensor) truns.running (by rw [ht]; exact stop)
        (by rw [ht]; exact unjam) phase
      rw [fireTrigger_first (.inl rfl) truns] at effect
      rw [ht] at effect pause other
      exact ⟨_, exec_effect rfl ready effect, rfl, pause, other⟩
    · have trunning : t.segments.running = some c := by rw [ht]; exact running
      have same : asked = cliffStop t sensor := by
        subst ht
        exact hasked.trans (cliffStop_eq trunning).symm
      have taken := fireTrigger_taken (cliffStop t sensor) .cliffStop o t c (.inl rfl) trunning (by rw [ht]; exact queued)
        (cliffStop_ne_release t sensor)
      rw [← effect, ← same] at taken
      rw [ht] at taken
      exact ⟨_, exec_effect rfl ready rfl, taken⟩

end Sys2Proof.Machine
end

section
/-! Bumps and lifts: the triggers of a press and of a lift that complete (R127 to R136, R97, R132). -/

namespace Sys2Proof.Machine

/-! ### The contact and its stop -/

theorem trigIndex_lt (heading : Nat) : trigIndex heading < 64 := Nat.mod_lt _ (by decide)

/-- The contact of a press: both bumpers where the other's press debounce runs (R127). -/
def pressContact (both : Bool) (side : Side) : Contact := if both then .both else .one side

theorem contactIndex_eq (heading : Nat) (both : Bool) (side : Side) :
    contactIndex heading (pressContact both side) = (trigIndex heading + (if both then 0 else match side with
      | .left => 8
      | .right => 56)) % 64 := by
  cases both with
  | true => exact (Nat.mod_eq_of_lt (trigIndex_lt heading)).symm
  | false => cases side <;> rfl

theorem pressRunning_iff (b : Bumper) : b.pressRunning = true ↔
    b.switch.raw = true ∧ b.switch.debounced = false ∧ b.switch.timer ≠ none := by
  simp [Bumper.pressRunning, Option.isSome_iff_ne_none, and_assoc]

/-- The floor after a press (R127). -/
def pressedFloor (both : Bool) (side : Side) (f : Floor) : Floor :=
  { f with
    bumpers := (f.bumpers.set side ⟨⟨true, true, none⟩, false⟩).set (otherSide side)
      (if both then { f.bumpers.get (otherSide side) with counted := true } else f.bumpers.get (otherSide side)) }

theorem pressCompleted_fires {s : State} {side : Side} {both : Bool} (taking : isTaking s.modes.mode = true)
    (raw : (s.floor.bumpers.get side).switch.raw = true) (fresh : (s.floor.bumpers.get side).counted = false)
    (other : both = true ↔ (s.floor.bumpers.get (otherSide side)).pressRunning = true) :
    pressCompleted side s =
      bumpTrigger (pressContact both side) { s with floor := pressedFloor both side s.floor } := by
  have switch : debounced (s.floor.bumpers.get side).switch = ⟨true, true, none⟩ := by simp [debounced, raw]
  unfold pressCompleted
  dsimp only
  rw [if_pos ⟨taking, by simp [fresh]⟩, switch]
  cases both with
  | true =>
    rw [if_pos (other.mp rfl)]
    rfl
  | false =>
    rw [if_neg fun running => Bool.false_ne_true (other.mpr running)]
    cases side <;> rfl

/-- The stop that a BUMP asks of a segment that is no DOCK (R130, R133 to R135). -/
theorem bumpStop_eq {s : State} {c : Context} (running : s.segments.running = some c)
    (noDock : c.segment.motion.isDock = false) :
    bumpStop s = (if s.drive.stop.moveInProgress = true ∨ s.drive.unjam ≠ none ∨ c.phase = .waiting then some .hard
      else match c.segment.motion with
        | .line false _ _ _ => some (if bumpResponseCode s.config = 0 then .ramp
            else if bumpResponseCode s.config = 1 then .hard else .backoff)
        | .line true _ _ _ | .spin .. => some .hard
        | _ => none) := by
  have response : bumpResponse s.config = if bumpResponseCode s.config = 0 then .ramp
      else if bumpResponseCode s.config = 1 then .hard else .backoff := by
    unfold bumpResponse
    split
    · next code => rw [if_pos code]
    · next code => rw [code]; rfl
    · next zero one => rw [if_neg zero, if_neg one]
  rw [bumpStop, running]
  simp only [noDock, response]
  rw [if_neg Bool.false_ne_true]
  by_cases hard : hardInstead s c = true
  · rw [if_pos hard, if_pos ((hardInstead_iff s c).mp hard)]
  · refine (if_neg hard).trans (Eq.trans ?_ (if_neg fun h => hard ((hardInstead_iff s c).mpr h)).symm)
    cases c.segment.motion with
    | line reverse distance speed hold => cases reverse <;> rfl
    | _ => rfl

theorem bumpStop_dock {s : State} {c : Context} (running : s.segments.running = some c)
    (dock : c.segment.motion.isDock = true) : bumpStop s = none ∧ bumpCause s = none := by
  simp [bumpStop, bumpCause, running, dock]

theorem bumpStop_idle {s : State} (idle : s.segments.running = none) : bumpStop s = none ∧ bumpCause s = none := by
  simp [bumpStop, bumpCause, idle]

theorem bumpCause_other {s : State} {c : Context} (running : s.segments.running = some c)
    (noDock : c.segment.motion.isDock = false) : bumpCause s = some .bumpStop := by
  simp [bumpCause, running, noDock]

theorem bumpStop_ne_release (s : State) : bumpStop s ≠ some .release := by
  unfold bumpStop bumpResponse
  repeat' split
  all_goals simp

/-- The drive of the first BUMP of a segment that moves (R130, R133, R134). -/
theorem bumpStop_drive {s : State} {c : Context} (running : s.segments.running = some c) (stop : s.drive.stop = .none)
    (unjam : s.drive.unjam = none) (phase : c.phase = .moving) (noDock : c.segment.motion.isDock = false) :
    match c.segment.motion with
    | .line false _ _ _ =>
      (bumpResponseCode s.config = 0 → stopAsked s.config c (bumpStop s) s.drive = rampFrom c.holdTarget s.drive) ∧
      (bumpResponseCode s.config ≠ 0 →
        WheelsReleased s.config s.drive (stopAsked s.config c (bumpStop s) s.drive) ∧
        (stopAsked s.config c (bumpStop s) s.drive).stop =
          (if bumpResponseCode s.config = 1 then .hard else .backoffHalt))
    | .line true _ _ _ | .spin .. => WheelsReleased s.config s.drive (stopAsked s.config c (bumpStop s) s.drive) ∧
        (stopAsked s.config c (bumpStop s) s.drive).stop = .hard
    | _ => stopAsked s.config c (bumpStop s) s.drive = s.drive := by
  have own : ¬ (s.drive.stop.moveInProgress = true ∨ s.drive.unjam ≠ none ∨ c.phase = .waiting) := by
    rw [stop, unjam, phase]
    rintro (h | h | h)
    · cases h
    · exact h rfl
    · cases h
  have hard : WheelsReleased s.config s.drive (stopAsked s.config c (some .hard) s.drive) ∧
      (stopAsked s.config c (some .hard) s.drive).stop = .hard := by
    rw [stopAsked_hard stop]
    exact ⟨hardStop_released _ _, rfl⟩
  have asked := bumpStop_eq running noDock
  rw [if_neg own] at asked
  cases motion : c.segment.motion with
  | line reverse distance speed hold =>
    rw [motion] at asked
    cases reverse with
    | true =>
      rw [show bumpStop s = some .hard from asked]
      exact hard
    | false =>
      have forward : bumpStop s = some (if bumpResponseCode s.config = 0 then .ramp
        else if bumpResponseCode s.config = 1 then .hard else .backoff) := asked
      refine ⟨fun ramps => ?_, fun stops => ?_⟩
      · rw [forward, if_pos ramps, stopAsked, combineStop_none _ _ _ _ _ stop]
        exact beginRamp_eq _ _
      · rw [forward, if_neg stops]
        by_cases one : bumpResponseCode s.config = 1
        · rw [if_pos one, if_pos one]
          exact hard
        · rw [if_neg one, if_neg one, stopAsked_first stop unjam (by rw [motion]; rfl)]
          exact ⟨backoffStop_released _ _, rfl⟩
  | spin angle speed =>
    rw [motion] at asked
    rw [show bumpStop s = some .hard from asked]
    exact hard
  | dock distance speed =>
    rw [motion] at noDock
    cases noDock
  | pause time =>
    rw [motion] at asked
    rw [show bumpStop s = none from asked]
    rfl

/-- The first half of O56: a press that completes in a taking mode, by what runs. -/
theorem bumpsTrigger {side : Side} {s : State} {both : Bool} {o : Observation} (ready : s.power = .ready)
    (effect : bumperDebounceEffect side s = fireTrigger (bumpStop { s with floor := pressedFloor both side s.floor })
      (bumpCause { s with floor := pressedFloor both side s.floor }) o
      { s with floor := pressedFloor both side s.floor }) :
    (s.segments.running = none → Settled s → exec (.bumperDebounceExpiry side) s = .next (refresh { s with
      floor := pressedFloor both side s.floor
      ageing := { s.ageing with observations := s.ageing.observations ++ [o] } })) ∧
    (∀ c, s.segments.running = some c → s.segments.queue ≠ [] → c.segment.motion.isDock = true → s.canWrite = false →
      exec (.bumperDebounceExpiry side) s = .next (refresh { s with
        floor := pressedFloor both side s.floor
        ageing := { s.ageing with observations := s.ageing.observations ++ [o] } })) ∧
    (∀ c, RunsOn s c → c.segment.motion.isDock = false →
      exec (.bumperDebounceExpiry side) s = .next (refresh { s with
        floor := { pressedFloor both side s.floor with response := some ⟨o, .pending s.ageing.observations.length⟩ }
        ageing := { s.ageing with observations := s.ageing.observations ++ [o] }
        segments := { s.segments with
          running := some { c with cause := some ⟨.bumpStop, none⟩, phase := .stopping } }
        drive := stopAsked s.config c (bumpStop { s with floor := pressedFloor both side s.floor }) s.drive })) := by
  obtain ⟨t, ht⟩ : ∃ t, t = { s with floor := pressedFloor both side s.floor } := ⟨_, rfl⟩
  rw [← ht] at effect
  refine ⟨fun idle settled => ?_, fun c running queued dock notDue => ?_, fun c runs noDock => ?_⟩
  · obtain ⟨noStop, noCause⟩ := bumpStop_idle (s := t) (by rw [ht]; exact idle)
    have tsettled : Settled t := settled_of_result settled (by rw [ht]) (by rw [ht]) (by rw [ht]; rfl) (by rw [ht]) (by rw [ht])
    rw [noStop, noCause, fireTrigger_handsOn tsettled, ht] at effect
    exact exec_effect rfl ready effect
  · obtain ⟨noStop, noCause⟩ := bumpStop_dock (s := t) (by rw [ht]; exact running) dock
    have settled : Settled s := ⟨notDue, canStart_of_running s c running, not_drained_of_queue s queued⟩
    have tsettled : Settled t := settled_of_result settled (by rw [ht]) (by rw [ht]) (by rw [ht]; rfl) (by rw [ht]) (by rw [ht])
    rw [noStop, noCause, fireTrigger_handsOn tsettled, ht] at effect
    exact exec_effect rfl ready effect
  · have truns : RunsOn t c := by rw [ht]; exact ⟨runs.running, runs.no_cause, runs.queued⟩
    rw [bumpCause_other truns.running noDock, fireTrigger_first (.inr rfl) truns] at effect
    rw [ht] at effect
    exact exec_effect rfl ready effect

/-! ### Lifts -/

theorem released_of_same {cfg : Settings} {d e f : Drive} (h : WheelsReleased cfg d e) (wheels : f.wheels = e.wheels)
    (period : f.periodMs = e.periodMs) : WheelsReleased cfg d f := by
  obtain ⟨l0, r0, lt, rt, ls, rs, lf, rf, lg, rg, p⟩ := h
  exact ⟨by rw [wheels]; exact l0, by rw [wheels]; exact r0, by rw [wheels]; exact lt, by rw [wheels]; exact rt,
    by rw [wheels]; exact ls, by rw [wheels]; exact rs, by rw [wheels]; exact lf, by rw [wheels]; exact rf,
    by rw [wheels]; exact lg, by rw [wheels]; exact rg, period.trans p⟩

/-- Wheels at rest stay as they are through another rest (R104). -/
theorem released_again {cfg : Settings} {d e f : Drive} (h : WheelsReleased cfg d e)
    (wheels : f.wheels = e.wheels.map (restWheel cfg)) (period : f.periodMs = e.periodMs) : WheelsReleased cfg d f := by
  obtain ⟨l0, r0, lt, rt, ls, rs, lf, rf, lg, rg, p⟩ := h
  have left : f.wheels.left.guard = e.wheels.left.guard := by rw [wheels]; exact if_pos l0
  have right : f.wheels.right.guard = e.wheels.right.guard := by rw [wheels]; exact if_pos r0
  refine ⟨?_, ?_, ?_, ?_, ?_, ?_, ?_, ?_, left.trans lg, right.trans rg, period.trans p⟩
  all_goals rw [wheels]
  · rfl
  · rfl
  · rfl
  · rfl
  · rfl
  · rfl
  · exact lf
  · exact rf

/-- The drive of a RELEASE on a part at rest (R110; log 33). -/
def liftedDrive (cfg : Settings) (running : Bool) (d : Drive) : Drive :=
  if running then releaseStop cfg (forcedRest cfg d)
  else { zeroWheels cfg (forcedRest cfg d) with releaseLatch := true }

theorem liftedDrive_released (cfg : Settings) (running : Bool) (d : Drive) :
    WheelsReleased cfg d (liftedDrive cfg running d) := by
  cases running with
  | true => exact released_again (forcedRest_released cfg d) rfl rfl
  | false => exact released_again (forcedRest_released cfg d) rfl rfl

/-- A lift of a part with no segment running (R97, R132; log 35). -/
theorem liftTrigger_idle {s u : State} (hu : u = { s with drive := forcedRest s.config s.drive })
    (idle : s.segments.running = none) : liftTrigger u = fallToHalted .lifted { s with
      drive := liftedDrive s.config false s.drive
      segments := ⟨[], none, s.segments.completions ++
        s.segments.queue.map (waitingRecord .flushed false s.link.timeBase)⟩ } := by
  have stopped : requestStop .release u = { s with drive := liftedDrive s.config false s.drive } := by
    rw [requestStop_idle _ _ (by rw [hu]; exact idle), hu]
    rfl
  rw [liftTrigger, stopped, flushWaiting_none ?_, handCause_idle, writeIfDue, if_neg]
  · rw [canWrite_of_no_running]
    · exact Bool.false_ne_true
    · rfl
  · rfl
  · exact idle

/-- The state in which LIFTED stands, before its record (R97, R132). -/
def liftedWith (c : Context) (s : State) : State :=
  { s with
    drive := liftedDrive s.config true s.drive
    segments := ⟨s.segments.queue.take 1, some { c with cause := some ⟨.lifted, none⟩, phase := .stopping },
      s.segments.completions ++ s.segments.queue.tail.map (waitingRecord .flushed false s.link.timeBase)⟩
    floor := dropPendingResponse .lifted s.floor }

theorem dropPendingResponse_result (f : Floor) : (dropPendingResponse .lifted f).resultPending = false := by
  cases pending : f.resultPending with
  | true => exact congrArg Floor.resultPending (if_pos pending)
  | false => exact (congrArg Floor.resultPending (if_neg (by simp [pending]))).trans pending

theorem liftedWith_due (c : Context) (s : State) : (liftedWith c s).canWrite = true := by
  refine (canWrite_iff _ _ rfl).mpr ⟨rfl, ?_, rfl, rfl, dropPendingResponse_result s.floor⟩
  exact atRest_released (liftedDrive_released s.config true s.drive)

/-- A lift of a part with a segment running: its record is written at once (R97, R132). -/
theorem liftTrigger_running {s u : State} {c : Context} (hu : u = { s with drive := forcedRest s.config s.drive })
    (running : s.segments.running = some c) (stop : s.drive.stop ≠ .release) :
    liftTrigger u = fallToHalted .lifted (writeRecord (liftedWith c s)) := by
  have rested : (forcedRest s.config s.drive).stop ≠ .release := by
    show (if s.drive.stop.moveInProgress then Stop.backoffClose else s.drive.stop) ≠ .release
    split
    · exact Stop.noConfusion
    · exact stop
  have combined : combineStop s.config c.segment.motion.isStraight c.holdTarget.isSome .release
      (forcedRest s.config s.drive) = liftedDrive s.config true s.drive := by
    unfold combineStop
    cases stands : (forcedRest s.config s.drive).stop with
    | release => exact absurd stands rested
    | _ => rfl
  have stopped : requestStop .release u = { s with drive := liftedDrive s.config true s.drive } := by
    rw [requestStop_running .release u c (by rw [hu]; exact running), hu]
    exact congrArg (fun d => { s with drive := d }) combined
  have handed : handCause .lifted none (flushWaiting { s with drive := liftedDrive s.config true s.drive }) =
      liftedWith c s := by
    rw [flushWaiting_running (c := c) ?_, handCause_taken .lifted none _ c ?_ (takesCause_lifted c)]
    · rfl
    · rfl
    · exact running
  rw [liftTrigger, stopped, handed, writeIfDue, if_pos (liftedWith_due c s)]

/-- The end of the lift in a taking mode (R132, R168). -/
theorem liftTrigger_halts (s : State) : (liftTrigger s).modes = { s.modes with
      mode := .halted
      haltReason := .lifted
      haltPending := false
      wakeTimer := none } ∧
    (liftTrigger s).latches = { s.latches with modeReached := true, halt := true } ∧
    (liftTrigger s).floor.cliffs = clearCliffs := by
  rw [liftTrigger, fallToHalted_eq]
  refine ⟨?_, ?_, rfl⟩
  · simp [flushWaiting]
  · simp [flushWaiting]

theorem combineStop_release_released {cfg : Settings} {straight held : Bool} {d e : Drive} (h : WheelsReleased cfg d e) :
    WheelsReleased cfg d (combineStop cfg straight held .release e) := by
  by_cases stop : e.stop = .release
  · rw [show combineStop cfg straight held .release e = e by simp [combineStop, stop]]
    exact h
  · have releases : combineStop cfg straight held .release e = releaseStop cfg e := by
      unfold combineStop
      cases stands : e.stop with
      | release => exact absurd stands stop
      | _ => rfl
    rw [releases]
    exact released_again h rfl rfl

theorem writeIfDue_wheels (s : State) : (writeIfDue s).drive.wheels = s.drive.wheels ∧
    (writeIfDue s).drive.periodMs = s.drive.periodMs := by
  unfold writeIfDue
  split
  · unfold writeRecord
    split
    · split <;> exact ⟨rfl, rfl⟩
    · exact ⟨rfl, rfl⟩
  · exact ⟨rfl, rfl⟩

/-- A lift leaves the wheels released, whatever runs (R110, R114). -/
theorem liftTrigger_released {d : Drive} {s : State} (h : WheelsReleased s.config d s.drive) :
    WheelsReleased s.config d (liftTrigger s).drive := by
  have requested : WheelsReleased s.config d (requestStop .release s).drive := by
    cases running : s.segments.running with
    | none =>
      rw [requestStop_idle _ _ running]
      exact released_again h rfl rfl
    | some c =>
      rw [requestStop_running _ _ c running]
      exact combineStop_release_released h
  obtain ⟨u, hu⟩ : ∃ u, u = flushWaiting (requestStop .release s) := ⟨_, rfl⟩
  have config : u.config = s.config := by rw [hu]; simp [flushWaiting]
  have flushed : WheelsReleased s.config d u.drive := by rw [hu]; exact requested
  have handed : WheelsReleased s.config d (handCause .lifted none u).drive := by
    cases running : u.segments.running with
    | none =>
      rw [handCause_idle _ _ _ running]
      exact flushed
    | some c =>
      rw [handCause_taken _ _ _ c running (takesCause_lifted c), ← config]
      rw [← config] at flushed
      exact combineStop_release_released flushed
  obtain ⟨wheels, period⟩ := writeIfDue_wheels (handCause .lifted none u)
  have written := released_of_same handed wheels period
  have same : (writeIfDue (handCause .lifted none u)).config = s.config := by simp [config]
  rw [liftTrigger, ← hu, fallToHalted_eq]
  refine released_again written ?_ rfl
  rw [← same]
  rfl

theorem writeIfDue_lifts (s : State) : (writeIfDue s).floor.lifts = s.floor.lifts := by
  unfold writeIfDue
  split
  · unfold writeRecord
    split
    · split <;> rfl
    · rfl
  · rfl

theorem requestStop_lifts (kind : StopKind) (s : State) : (requestStop kind s).floor = s.floor := by
  unfold requestStop
  split <;> rfl

theorem liftTrigger_lifts (s : State) : (liftTrigger s).floor.lifts = s.floor.lifts := by
  rw [liftTrigger, fallToHalted_eq]
  show (writeIfDue (handCause .lifted none (flushWaiting (requestStop .release s)))).floor.lifts = _
  rw [writeIfDue_lifts, handCause_lifts]
  exact congrArg Floor.lifts (requestStop_lifts .release s)

/-- A lift that completes (R126, R129). -/
theorem liftDebounce_lifts {s : State} {side : Side} (timer : (s.floor.lifts.get side).timer ≠ none)
    (raw : (s.floor.lifts.get side).raw = true) (down : s.lifted = false) : liftDebounceEffect side s = becomeLifted
      { s with floor := { s.floor with lifts := s.floor.lifts.set side ⟨true, true, none⟩ } } := by
  have switch : debounced (s.floor.lifts.get side) = ⟨true, true, none⟩ := by simp [debounced, raw]
  have up : ({ s with floor := { s.floor with lifts := s.floor.lifts.set side ⟨true, true, none⟩ } } : State).lifted =
      true := by cases side <;> simp [State.lifted, Pair.set]
  unfold liftDebounceEffect
  dsimp only
  rw [if_neg (by simpa using timer), switch, if_pos ⟨by simp [down], up⟩]

theorem bridge_of_lifted {t : State} (up : t.lifted = true) :
    (refresh t).outputs.motors.left.enable = false ∧ (refresh t).outputs.motors.right.enable = false := by
  have off : t.bridgeOn = false := by simp [State.bridgeOn, up]
  exact ⟨off, off⟩

/-- The second half of O56: a lift that completes, in a taking mode or another. -/
theorem liftsTrigger {side : Side} {s : State} (ready : s.power = .ready) (timer : (s.floor.lifts.get side).timer ≠ none)
    (raw : (s.floor.lifts.get side).raw = true) (down : s.lifted = false) :
    ∃ t, exec (.liftDebounceExpiry side) s = .next t ∧ KeepsWorld s t ∧ KeepsPlan s t ∧ t.link = s.link ∧
      t.floor.lifts = s.floor.lifts.set side ⟨true, true, none⟩ ∧ WheelsReleased s.config s.drive t.drive ∧
      t.outputs.motors.left.enable = false ∧ t.outputs.motors.right.enable = false ∧
      (isTaking s.modes.mode = false → t.modes = s.modes ∧ t.segments = s.segments ∧ t.latches = s.latches) ∧
      (isTaking s.modes.mode = true → s.drive.stop ≠ .release →
        t.drive.releaseLatch = true ∧ t.floor.cliffs = clearCliffs ∧
        t.modes = { s.modes with mode := .halted, haltReason := .lifted, haltPending := false, wakeTimer := none } ∧
        t.latches = { s.latches with modeReached := true, halt := true } ∧
        (s.segments.running = none → t.segments = ⟨[], none, s.segments.completions ++
          s.segments.queue.map fun g => ⟨g, .flushed, false, 0, none, 0, s.link.timeBase⟩⟩) ∧
        (∀ c rest, s.segments.running = some c → s.segments.queue = c.segment :: rest →
          t.segments = ⟨[], none, s.segments.completions ++
            (rest.map fun g => ⟨g, .flushed, false, 0, none, 0, s.link.timeBase⟩) ++
            [⟨c.segment, .lifted, c.cancelSeen, travelledOf c, none, s.drive.retries, s.link.timeBase⟩]⟩)) := by
  obtain ⟨w, hw⟩ : ∃ w, w = { s with floor := { s.floor with lifts := s.floor.lifts.set side ⟨true, true, none⟩ } } :=
    ⟨_, rfl⟩
  obtain ⟨u, hu⟩ : ∃ u, u = { w with drive := forcedRest w.config w.drive } := ⟨_, rfl⟩
  have effect := liftDebounce_lifts timer raw down
  have lifts : (becomeLifted w).floor.lifts = s.floor.lifts.set side ⟨true, true, none⟩ := by
    unfold becomeLifted
    dsimp only
    split
    · rw [liftTrigger_lifts, hw]
    · rw [hw]
  have up : (becomeLifted w).lifted = true := by
    unfold State.lifted
    rw [lifts]
    cases side <;> simp [Pair.set]
  have released : WheelsReleased s.config s.drive (becomeLifted w).drive := by
    have rested : WheelsReleased s.config s.drive (forcedRest w.config w.drive) := by
      rw [hw]
      exact forcedRest_released s.config s.drive
    unfold becomeLifted
    dsimp only
    split
    · have config : ({ w with drive := forcedRest w.config w.drive } : State).config = s.config := by rw [hw]
      rw [← config] at rested ⊢
      exact liftTrigger_released rested
    · exact rested
  rw [← hw] at effect
  obtain ⟨left, right⟩ := bridge_of_lifted up
  refine ⟨_, exec_effect rfl ready effect, ?_, ?_, ?_, lifts, released, left, right, fun resting => ?_,
    fun taking stop => ?_⟩
  · constructor <;> simp [hw]
  · constructor <;> simp [hw]
  · simp [hw]
  · have still : becomeLifted w = { w with drive := forcedRest w.config w.drive } := by
      unfold becomeLifted
      exact if_neg (by rw [hw]; simp [resting])
    rw [still, hw]
    exact ⟨rfl, rfl, rfl⟩
  · have halts : becomeLifted w = liftTrigger u := by
      unfold becomeLifted
      rw [hu]
      exact if_pos (by rw [hw]; exact taking)
    obtain ⟨modes, latches, cliffs⟩ := liftTrigger_halts u
    have wstop : w.drive.stop ≠ .release := by rw [hw]; exact stop
    rw [halts]
    refine ⟨?_, cliffs, ?_, ?_, fun idle => ?_, fun c rest running queue => ?_⟩
    · cases running : w.segments.running with
      | none =>
        rw [liftTrigger_idle hu running]
        rfl
      | some c =>
        rw [liftTrigger_running hu running wstop, writeRecord_running_eq _ _ _ rfl rfl]
        rfl
    · rw [refresh_modes, modes, hu, hw]
    · rw [refresh_latches, latches, hu, hw]
    · rw [liftTrigger_idle hu (by rw [hw]; exact idle), hw]
      rfl
    · rw [liftTrigger_running (c := c) hu (by rw [hw]; exact running) wstop, writeRecord_running_eq _ _ _ rfl rfl, hw]
      simp only [liftedWith, queue]
      rfl

/-- Settles O56: a press by what runs, a lift by the mode. -/
theorem bumpsAndLiftsTrigger : Obligations.BumpsAndLiftsTrigger := by
  unfold Obligations.BumpsAndLiftsTrigger
  refine ⟨?_, fun side s ready timer raw down => ?_⟩
  · rintro side s b other both r j o f ready taking rfl rfl timer raw unpressed fresh hboth rfl rfl ho rfl
    have fires : bumperDebounceEffect side s =
        bumpTrigger (pressContact both side) { s with floor := pressedFloor both side s.floor } :=
      (bumperDebounce_pressed timer raw unpressed).trans
        (pressCompleted_fires taking raw fresh (hboth.trans (pressRunning_iff _).symm))
    have seen : observationAt false (contactPoint { s with floor := pressedFloor both side s.floor }
        (pressContact both side)) = o := by
      rw [ho]
      unfold contactPoint
      rw [observationAt_eq]
      simp only [contactIndex_eq]
      rfl
    have effect : bumperDebounceEffect side s =
        fireTrigger (bumpStop { s with floor := pressedFloor both side s.floor })
          (bumpCause { s with floor := pressedFloor both side s.floor }) o
          { s with floor := pressedFloor both side s.floor } := by
      rw [fires, bumpTrigger, seen]
    obtain ⟨idle, stays, first⟩ := bumpsTrigger ready effect
    refine ⟨idle, fun c runs dock => ?_, fun c runs stop unjam phase noDock => ?_, stays,
      fun c asked running queued noDock hasked => ?_⟩
    · exact stays c runs.running runs.queued dock (canWrite_of_no_cause s c runs.running runs.no_cause)
    · exact ⟨_, first c runs noDock, rfl,
        bumpStop_drive (s := { s with floor := pressedFloor both side s.floor }) runs.running stop unjam phase noDock⟩
    · have same : asked = bumpStop { s with floor := pressedFloor both side s.floor } :=
        hasked.trans (bumpStop_eq (s := { s with floor := pressedFloor both side s.floor }) running noDock).symm
      have taken := fireTrigger_taken (bumpStop { s with floor := pressedFloor both side s.floor }) .bumpStop o
        { s with floor := pressedFloor both side s.floor } c (.inr rfl) running queued (bumpStop_ne_release _)
      rw [bumpCause_other (s := { s with floor := pressedFloor both side s.floor }) running noDock] at effect
      rw [← effect, ← same] at taken
      exact ⟨_, exec_effect rfl ready rfl, taken⟩
  · obtain ⟨t, run, world, plan, link, lifts, released, left, right, resting, halts⟩ := liftsTrigger ready timer raw down
    refine ⟨t, run, world, plan, link, lifts, released, left, right, resting, fun taking stop => ?_⟩
    obtain ⟨latch, cliffs, modes, latches, idle, runs⟩ := halts taking stop
    exact ⟨latch, cliffs, modes, latches, idle, fun c rest running queue _ => runs c rest running queue⟩

end Sys2Proof.Machine
end

section
/-! The ageing pass (R151, R152), and what a change of sensed records leaves of the classification. -/

namespace Sys2Proof.Machine

/-! ### Lists of live records -/

/-- Two lists of records in ascending slot order that hold the same records are the same list. -/
theorem lives_ext {a b : List Live} (ha : a.Pairwise fun x y => x.ref.slot < y.ref.slot)
    (hb : b.Pairwise fun x y => x.ref.slot < y.ref.slot) (same : ∀ l, l ∈ a ↔ l ∈ b) : a = b := by
  have nodup {c : List Live} (hc : c.Pairwise fun x y => x.ref.slot < y.ref.slot) : c.Nodup :=
    hc.imp fun lt eq => by simp [eq] at lt
  exact ((List.perm_ext_iff_of_nodup (nodup ha) (nodup hb)).mpr same).eq_of_pairwise
    (fun x y _ _ lt gt => absurd lt (Nat.lt_asymm gt)) ha hb

/-- A record in a slot, as a live record. -/
def liveIn (t : Table) (k : Nat) : Option Live := (slotAt t k).record.map fun r => ⟨⟨k, (slotAt t k).generation⟩, r⟩

theorem liveIn_eq_some {t : Table} {k : Nat} {l : Live} :
    liveIn t k = some l ↔ l.ref.slot = k ∧ slotAt t k = ⟨l.ref.generation, some l.record⟩ := by
  obtain ⟨⟨j, g⟩, r⟩ := l
  unfold liveIn
  cases slot : slotAt t k with
  | mk generation record =>
    cases record with
    | none => simp
    | some old => simp [eq_comm, and_assoc]

theorem liveRecords_eq (t : Table) : liveRecords t = (List.range 96).filterMap (liveIn t) := by
  refine lives_ext (liveRecords_slots t) ?_ fun l => ?_
  · refine List.Pairwise.filterMap _ ?_ List.pairwise_lt_range
    intro i j lt x hx y hy
    rw [(liveIn_eq_some.mp hx).1, (liveIn_eq_some.mp hy).1]
    exact lt
  · rw [mem_liveRecords, List.mem_filterMap]
    refine ⟨fun ⟨bound, slot⟩ => ⟨l.ref.slot, List.mem_range.mpr bound, liveIn_eq_some.mpr ⟨rfl, slot⟩⟩, ?_⟩
    rintro ⟨k, bound, found⟩
    obtain ⟨rfl, slot⟩ := liveIn_eq_some.mp found
    exact ⟨List.mem_range.mp bound, slot⟩

/-- The class of a point is that of the rectangles alone (R22, R23). -/
theorem classAt_of_rects {t u : Table} (same : ∀ l, l.record.hazard.rect? ≠ none → (IsLive t l ↔ IsLive u l)) (x y : Int) :
    classAt t x y = classAt u x y := by
  have rects : ((liveRecords t).filter fun l => (l.record.hazard.rect?.map (fun b => b.contains x y)).getD false) =
      (liveRecords u).filter fun l => (l.record.hazard.rect?.map (fun b => b.contains x y)).getD false := by
    refine lives_ext ((liveRecords_slots t).filter _) ((liveRecords_slots u).filter _) fun l => ?_
    simp only [List.mem_filter, mem_liveRecords]
    refine and_congr_left fun inside => same l fun none => ?_
    simp [none] at inside
  unfold classAt scan
  rw [rects]

/-! ### Notices in a row -/

theorem noticesJoined_append {a b : List Notice} {s u t : State} (h : NoticesJoined a s u) (k : NoticesJoined b u t)
    (config : u.config = s.config) : NoticesJoined (a ++ b) s t := by
  refine ⟨by rw [k.queue, h.queue, List.append_assoc], fun empty some => ?_, fun quiet => ?_⟩
  · by_cases first : a = []
    · subst first
      have uempty : u.link.notices = [] := by rw [h.queue, empty]; rfl
      rw [k.loaded uempty (by simpa using some), config]
    · have unonempty : u.link.notices ≠ [] := by rw [h.queue]; simp [first]
      rw [k.left_as_it_is (.inl unonempty), h.loaded empty first]
  · rcases quiet with held | none
    · have unonempty : u.link.notices ≠ [] := by rw [h.queue]; simp [held]
      rw [k.left_as_it_is (.inl unonempty), h.left_as_it_is (.inl held)]
    · obtain ⟨rfl, rfl⟩ := List.append_eq_nil_iff.mp none
      rw [k.left_as_it_is (.inr rfl), h.left_as_it_is (.inr rfl)]

/-- Offers that all find room join in order (R180). -/
theorem foldl_offer_joined (l : List Notice) (s : State) (room : s.link.notices.length + l.length ≤ 16) :
    NoticesJoined l s (l.foldl (fun u n => offerNotice n u) s) := by
  induction l generalizing s with
  | nil => exact noticesJoined_nil rfl rfl
  | cons n l ih =>
    rw [List.length_cons] at room
    have first := offerNotice_joined n s (by omega)
    have rest := ih (offerNotice n s) (by rw [first.queue]; simp; omega)
    exact noticesJoined_append first rest (by simp)

theorem foldl_offer_timeBase (l : List Notice) (s : State) :
    (l.foldl (fun u n => offerNotice n u) s).link.timeBase = s.link.timeBase := by
  induction l generalizing s with
  | nil => rfl
  | cons n l ih => exact (ih _).trans (offerNotice_answer n s).timeBase

/-! ### The pass -/

theorem agedSlot_free {x : Slot} (free : x.record = none) : agedSlot x = x := by simp [agedSlot, free]

theorem agedSlot_host {x : Slot} {r : Record} (live : x.record = some r) (host : r.source = .host) : agedSlot x = x := by
  cases x
  simp_all [agedSlot, fades, aged, isSensed]

/-- A slot after a pass, spelled out (R152). -/
theorem agedSlot_eq (x : Slot) : agedSlot x = (match x.record with
    | none => x
    | some r =>
      if r.source = .host then x
      else if r.observed = true then ⟨x.generation, some { r with observed := false }⟩
      else if r.confidence ≤ 1 then ⟨x.generation, none⟩
      else ⟨x.generation, some { r with age := min 255 (r.age + 1), confidence := r.confidence - 1 }⟩) := by
  obtain ⟨generation, record⟩ := x
  cases record with
  | none => rfl
  | some r =>
    by_cases host : r.source = .host
    · exact (agedSlot_host rfl host).trans (if_pos host).symm
    · refine Eq.trans ?_ (if_neg host).symm
      cases observed : r.observed with
      | true => simp [agedSlot, fades, aged, isSensed, host, observed]
      | false =>
        by_cases low : r.confidence ≤ 1
        · simp [agedSlot, fades, isSensed, host, observed, low]
        · simp [agedSlot, fades, aged, isSensed, host, observed, low]

theorem slotAt_aged (t : Table) (k : Nat) : slotAt (t.map agedSlot) k = agedSlot (slotAt t k) :=
  slotAt_map t agedSlot k rfl

/-- A pass changes no hazard (R152). -/
theorem agedSlot_hazard {x : Slot} {r' : Record} (live : (agedSlot x).record = some r') :
    ∃ r, x.record = some r ∧ r'.hazard = r.hazard := by
  rw [agedSlot] at live
  split at live
  · next r record =>
    refine ⟨r, record, ?_⟩
    split at live
    · cases live
    · cases Option.some.inj live
      unfold aged
      split_ifs <;> rfl
  · next record => exact absurd (record.symm.trans live) nofun

/-- A pass leaves the rectangles where the sensed records are circles (R152). -/
theorem isLive_aged {t : Table} (circles : ∀ l, IsLive t l → l.record.source ≠ .host → l.record.hazard.rect? = none)
    {l : Live} (rect : l.record.hazard.rect? ≠ none) : IsLive (t.map agedSlot) l ↔ IsLive t l := by
  have unchanged {r : Record} (bound : l.ref.slot < 96) (record : (slotAt t l.ref.slot).record = some r)
      (hazard : r.hazard = l.record.hazard) : agedSlot (slotAt t l.ref.slot) = slotAt t l.ref.slot := by
    refine agedSlot_host record (Decidable.byContradiction fun sensed => rect ?_)
    have live : IsLive t ⟨⟨l.ref.slot, (slotAt t l.ref.slot).generation⟩, r⟩ := ⟨bound, by rw [← record]⟩
    rw [← hazard]
    exact circles _ live sensed
  unfold IsLive
  rw [slotAt_aged]
  refine and_congr_right fun bound => ⟨fun slot => ?_, fun slot => ?_⟩
  · obtain ⟨r, record, hazard⟩ := agedSlot_hazard (x := slotAt t l.ref.slot) (by rw [slot])
    rw [← unchanged bound record hazard.symm]
    exact slot
  · rw [unchanged bound (by rw [slot]) rfl]
    exact slot

/-- The state in which a pass classifies (R152). -/
def faded (s : State) : State :=
  (fadeNotices s.table s.link.timeBase).foldl (fun u n => offerNotice n u)
    { s with ageing := { s.ageing with timer := 0 }, table := s.table.map agedSlot }

theorem faded_eq (s : State) : faded s = { s with
    ageing := { s.ageing with timer := 0 }
    table := s.table.map agedSlot
    link := (faded s).link
    latches := (faded s).latches } := foldl_offer_frame _ _

theorem ageingEffect_passes {s : State} (mode : s.modes.mode = .active ∨ s.modes.mode = .parking)
    (sensed : ∃ l, IsLive s.table l ∧ l.record.source ≠ .host) :
    ageingEffect s = settle (evaluate (classify .table (faded s))) := by
  have visits : ((liveRecords s.table).any fun l => isSensed l.record) = true := by
    obtain ⟨l, live, source⟩ := sensed
    exact List.any_eq_true.mpr ⟨l, (mem_liveRecords s.table l).mpr live, decide_eq_true source⟩
  unfold ageingEffect ageingPass tableChanged
  rw [if_pos (by rcases mode with mode | mode <;> simp [ageingCounts, mode]), if_pos visits]
  rfl

theorem ageingEffect_idles {s : State} (mode : s.modes.mode = .active ∨ s.modes.mode = .parking)
    (hosts : ∀ l, IsLive s.table l → l.record.source = .host) :
    ageingEffect s = settle { s with ageing := { s.ageing with timer := 0 } } := by
  have visits : ¬ ((liveRecords s.table).any fun l => isSensed l.record) = true := by
    rw [List.any_eq_true]
    rintro ⟨l, live, source⟩
    exact of_decide_eq_true source (hosts l ((mem_liveRecords s.table l).mp live))
  unfold ageingEffect ageingPass
  rw [if_pos (by rcases mode with mode | mode <;> simp [ageingCounts, mode]), if_neg visits]

theorem fadeNotices_eq (t : Table) (time : Half) : fadeNotices t time = (List.range 96).filterMap fun k =>
    match (slotAt t k).record with
    | none => none
    | some r =>
      if r.source ≠ .host ∧ r.observed = false ∧ r.confidence ≤ 1 then
        some ⟨.recordRetired, some ⟨k, (slotAt t k).generation⟩, some r.hazard.kind, some .aged,
          r.hazard.centre.1, r.hazard.centre.2, none, time⟩
      else none := by
  unfold fadeNotices
  rw [liveRecords_eq, List.filter_filterMap, List.map_filterMap]
  refine List.filterMap_congr fun k _ => ?_
  cases slot : slotAt t k with
  | mk generation record =>
    cases record with
    | none => simp [liveIn, slot]
    | some r =>
      have live : liveIn t k = some ⟨⟨k, generation⟩, r⟩ := by simp [liveIn, slot]
      rw [live]
      have fadesIff : fades r = true ↔ r.source ≠ .host ∧ r.observed = false ∧ r.confidence ≤ 1 := by
        simp [fades, isSensed, and_assoc]
      by_cases fade : r.source ≠ .host ∧ r.observed = false ∧ r.confidence ≤ 1
      · simp [Option.filter, fadesIff.mpr fade, fade, recordNotice]
      · have stays : fades r = false := Bool.eq_false_iff.mpr fun h => fade (fadesIff.mp h)
        simp [Option.filter, stays, fade]

/-- A pass changes no rectangle, so that the centre that stands belongs to the new table too. -/
theorem faded_classAt {s : State} (circles : ∀ l, IsLive s.table l → l.record.source ≠ .host → l.record.hazard.rect? = none)
    (x y : Int) : classAt (faded s).table x y = classAt s.table x y := by
  rw [faded_eq]
  exact classAt_of_rects (fun l rect => isLive_aged circles rect) x y

/-- A classification that finds the centre as it stood gives no notice (R31). -/
theorem classify_link_same {cause : NoticeCause} {s : State} (same : (classification s).centre = s.zones.centre) :
    (classify cause s).link = s.link := by
  rcases classify_cases cause s with ⟨silent, -⟩ | ⟨-, new⟩
  · rw [silent]
    rfl
  · exact absurd same new

theorem ageing_notices {s : State} (centre : s.zones.centre = classAt s.table s.pose.px s.pose.py)
    (circles : ∀ l, IsLive s.table l → l.record.source ≠ .host → l.record.hazard.rect? = none)
    (room : s.link.notices.length + (fadeNotices s.table s.link.timeBase).length ≤ 16) :
    NoticesJoined (fadeNotices s.table s.link.timeBase) s
      (refresh (settle (evaluate (classify .table (faded s))))) := by
  have joined := noticesJoined_of_same s (foldl_offer_joined (fadeNotices s.table s.link.timeBase)
    { s with ageing := { s.ageing with timer := 0 }, table := s.table.map agedSlot } room) rfl rfl rfl
  have same : (classification (faded s)).centre = (faded s).zones.centre := by
    show classAt (faded s).table (faded s).pose.px (faded s).pose.py = _
    rw [faded_classAt circles, faded_eq]
    exact centre.symm
  refine noticesJoined_link joined ?_
  rw [refresh_link, settle_link, evaluate_link, classify_link_same same]
  rfl

/-- A table change with no LINE or DOCK running (R9, R27). -/
theorem tableChange_still {s u : State} (same : KeepsMotion s u) (straight : s.straightRunning = none)
    (settled : Settled s) : KeepsMotion s (refresh (settle (evaluate (classify .table u)))) ∧
      (refresh (settle (evaluate (classify .table u)))).clearance = freshClearance ∧
      CentreClassified (refresh (settle (evaluate (classify .table u)))) := by
  have ustraight : u.straightRunning = none := by
    unfold State.straightRunning at straight ⊢
    rw [same.segments]
    exact straight
  have usettled := settled_of_same settled same.segments same.drive same.floor same.dock same.modes
  rw [settle_evaluate_classify .table u ustraight usettled]
  refine ⟨⟨?_, ?_, ?_, ?_, ?_⟩, rfl, ?_⟩
  · simpa using same.segments
  · simpa using same.drive
  · simpa using same.floor
  · simpa using same.dock
  · simpa using same.modes
  · obtain ⟨centre, probe, limit⟩ := classifySilently_centre u ustraight
    have zones : (refresh { classify .table u with clearance := freshClearance }).zones = (classifySilently u).zones :=
      (classify_limit .table u).2
    refine ⟨?_, ?_, ?_⟩
    · rw [zones]
      simpa using centre
    · rw [zones]
      exact probe
    · rw [zones]
      simpa using limit

theorem tableChange_centre (u : State) : (refresh (settle (evaluate (classify .table u)))).zones.centre =
    classAt (refresh (settle (evaluate (classify .table u)))).table u.pose.px u.pose.py := by
  have centre := settle_centreOk _ (evaluate_centreOk _ (classify_centreOk .table u))
  unfold CentreOk at centre
  simpa using centre

theorem faded_same (s : State) : KeepsMotion s (faded s) := by
  rw [faded_eq]
  exact ⟨rfl, rfl, rfl, rfl, rfl⟩

theorem faded_config (s : State) : (faded s).config = s.config := by rw [faded_eq]

theorem faded_pose (s : State) : (faded s).pose = s.pose := by rw [faded_eq]

theorem faded_ageing (s : State) : (faded s).ageing = { s.ageing with timer := 0 } := by rw [faded_eq]

theorem faded_table (s : State) : (faded s).table = s.table.map agedSlot := by rw [faded_eq]

theorem ageing_world (s : State) : KeepsWorld s (refresh (settle (evaluate (classify .table (faded s))))) := by
  rw [faded_eq]
  constructor <;> simp

/-- Settles O58: a pass that visits no record, and one that does. -/
theorem ageingPassFadesSensedRecords : Obligations.AgeingPassFadesSensedRecords := by
  unfold Obligations.AgeingPassFadesSensedRecords
  intro s ready
  refine ⟨fun active parking => exec_effect rfl ready (if_neg (by simp [ageingCounts, active, parking])), fun mode => ?_⟩
  by_cases sensed : ∃ l, IsLive s.table l ∧ l.record.source ≠ .host
  · have effect := ageingEffect_passes mode sensed
    have same := faded_same s
    refine ⟨_, exec_effect rfl ready effect, ageing_world s, ?_, ?_, ?_, fun k => ?_, fun notices hn centre circles room => ?_,
      fun hosts => ?_, fun _ => ⟨?_, tableChange_still same, fun c running queued straight => ?_⟩⟩
    · simp [faded_config]
    · simp [faded_pose]
    · simp [faded_ageing]
    · rw [refresh_table, settle_table, evaluate_table, classify_table, faded_table, slotAt_aged]
      exact agedSlot_eq (slotAt s.table k)
    · rw [hn.trans (fadeNotices_eq s.table s.link.timeBase).symm] at room ⊢
      exact ageing_notices centre circles room
    · obtain ⟨l, live, source⟩ := sensed
      exact absurd (hosts l live) source
    · rw [tableChange_centre, faded_pose]
    · exact judgedAgain_of_change running queued straight same.segments same.drive same.floor (foldl_offer_timeBase _ _)
  · have hosts : ∀ l, IsLive s.table l → l.record.source = .host :=
      fun l live => Decidable.byContradiction fun source => sensed ⟨l, live, source⟩
    have effect := ageingEffect_idles mode hosts
    have unfaded (k : Nat) : slotAt s.table k = agedSlot (slotAt s.table k) := by
      cases record : (slotAt s.table k).record with
      | none => exact (agedSlot_free record).symm
      | some r =>
        have bound : k < 96 := by
          by_contra outside
          rw [slotAt_outside _ _ (Nat.not_lt.mp outside)] at record
          cases record
        exact (agedSlot_host record (hosts ⟨⟨k, (slotAt s.table k).generation⟩, r⟩ ⟨bound, by rw [← record]⟩)).symm
    have quiet : fadeNotices s.table s.link.timeBase = [] := by
      unfold fadeNotices
      rw [List.map_eq_nil_iff, List.filter_eq_nil_iff]
      intro l live
      simp [fades, isSensed, hosts l ((mem_liveRecords s.table l).mp live)]
    refine ⟨_, exec_effect rfl ready effect, ?_, ?_, ?_, ?_, fun k => ?_, fun notices hn _ _ _ => ?_,
      fun _ settled => ?_, fun some => absurd some sensed⟩
    · constructor <;> simp
    · simp
    · simp
    · simp
    · rw [refresh_table, settle_table]
      exact (unfaded k).trans (agedSlot_eq (slotAt s.table k))
    · rw [hn.trans (fadeNotices_eq s.table s.link.timeBase).symm, quiet]
      exact noticesJoined_nil (by rw [refresh_link, settle_link]) (by rw [refresh_link, settle_link])
    · exact congrArg refresh (settle_of_settled { s with ageing := { s.ageing with timer := 0 } }
        (settled_of_same settled rfl rfl rfl rfl rfl))

end Sys2Proof.Machine
end

section
/-! Observations: merged, made a record, put in the place of a victim, or dropped (R143 to R149). -/

namespace Sys2Proof.Machine

/-! ### Candidates and victims -/

/-- The hazard that an observation makes of a circle (R143, R146). -/
def observedShape (o : Observation) : Circle → Hazard := if o.isDrop then .drop else .post

theorem sameKind_iff {o : Observation} {h : Hazard} : sameKind o h = true ↔ ∃ c, h = observedShape o c := by
  unfold sameKind observedShape
  cases drop : o.isDrop <;> cases h <;> simp

theorem observedShape_centre (o : Observation) (c : Circle) : (observedShape o c).centre = (c.cx, c.cy) := by
  unfold observedShape
  cases o.isDrop <;> rfl

theorem observedShape_rect (o : Observation) (c : Circle) : (observedShape o c).rect? = none := by
  unfold observedShape
  cases o.isDrop <;> rfl

theorem observedShape_injective {o : Observation} {c d : Circle} (h : observedShape o c = observedShape o d) : c = d := by
  unfold observedShape at h
  cases drop : o.isDrop <;> simpa [drop] using h

/-- A record within the merge distance of an observation of its kind (R143). -/
def NearTo (cfg : Settings) (t : Table) (o : Observation) (l : Live) (c : Circle) (n : Nat) : Prop :=
  IsLive t l ∧ l.record.hazard = observedShape o c ∧ n = max (c.cx - o.x).natAbs (c.cy - o.y).natAbs ∧
    n ≤ mergeDistance cfg

theorem observedDistance_eq {o : Observation} {l : Live} {c : Circle} (shape : l.record.hazard = observedShape o c) :
    observedDistance o l = max (c.cx - o.x).natAbs (c.cy - o.y).natAbs := by
  simp [observedDistance, chebyshev, shape, observedShape_centre]

theorem mem_candidates {cfg : Settings} {t : Table} {o : Observation} {l : Live} :
    l ∈ candidates cfg t o ↔ ∃ c n, NearTo cfg t o l c n := by
  simp only [candidates, List.mem_filter, mem_liveRecords, Bool.and_eq_true, decide_eq_true_eq, sameKind_iff]
  refine ⟨fun ⟨live, ⟨c, shape⟩, close⟩ => ?_, fun ⟨c, n, live, shape, distance, close⟩ => ?_⟩
  · exact ⟨c, _, live, shape, rfl, by rw [← observedDistance_eq shape]; exact close⟩
  · exact ⟨live, ⟨c, shape⟩, by rw [observedDistance_eq shape, ← distance]; exact close⟩

theorem candidate_none {cfg : Settings} {t : Table} {o : Observation} (none : candidate cfg t o = none) (l : Live)
    (c : Circle) (n : Nat) : ¬ NearTo cfg t o l c n := by
  intro near
  have empty := (leastBy_none_iff _ _).mp none
  have mem := mem_candidates.mpr ⟨c, n, near⟩
  simp [empty] at mem

theorem isLive_unique {t : Table} {a b : Live} (ha : IsLive t a) (hb : IsLive t b) (slot : a.ref.slot = b.ref.slot) :
    a = b := by
  obtain ⟨⟨i, g⟩, r⟩ := a
  obtain ⟨⟨j, g'⟩, r'⟩ := b
  obtain ⟨-, hr⟩ := ha
  obtain ⟨-, hr'⟩ := hb
  dsimp only at slot hr hr'
  subst slot
  obtain ⟨rfl, rfl⟩ : g = g' ∧ r = r' := by simpa using hr.symm.trans hr'
  rfl

/-- The candidate found is the nearest, ties to the lowest slot (R143). -/
theorem candidate_unique {cfg : Settings} {t : Table} {o : Observation} {x l : Live} {c : Circle} {n : Nat}
    (found : candidate cfg t o = some x) (near : NearTo cfg t o l c n)
    (least : ∀ l' c' n', NearTo cfg t o l' c' n' → n < n' ∨ (n = n' ∧ l.ref.slot ≤ l'.ref.slot)) : x = l := by
  obtain ⟨mem, first⟩ := leastBy_first (observedDistance o) (fun l => l.ref.slot) (candidates cfg t o)
    ((liveRecords_slots t).filter _) x found
  obtain ⟨c', n', near'⟩ := mem_candidates.mp mem
  have distance : observedDistance o l = n := (observedDistance_eq near.2.1).trans near.2.2.1.symm
  have distance' : observedDistance o x = n' := (observedDistance_eq near'.2.1).trans near'.2.2.1.symm
  have ahead := first l (mem_candidates.mpr ⟨c, n, near⟩)
  have behind := least x c' n' near'
  rw [distance, distance'] at ahead
  exact isLive_unique near'.1 near.1 (by omega)

theorem isVictim_iff {l : Live} : isVictim l = true ↔ l.record.source ≠ .host ∧ l.record.pinned = false := by
  simp [isVictim]

theorem victim_none {t : Table} (none : victim t = none) {l : Live} (live : IsLive t l) (source : l.record.source ≠ .host)
    (unpinned : l.record.pinned = false) : False := by
  have empty := (leastBy_none_iff _ _).mp none
  have mem : l ∈ (liveRecords t).filter isVictim :=
    List.mem_filter.mpr ⟨(mem_liveRecords t l).mpr live, isVictim_iff.mpr ⟨source, unpinned⟩⟩
  simp [empty] at mem

theorem victim_is {t : Table} {v : Live} (found : victim t = some v) :
    IsLive t v ∧ v.record.source ≠ .host ∧ v.record.pinned = false := by
  obtain ⟨mem, -⟩ := leastBy_mem _ _ v found
  obtain ⟨live, kind⟩ := List.mem_filter.mp mem
  obtain ⟨source, unpinned⟩ := isVictim_iff.mp kind
  exact ⟨(mem_liveRecords t v).mp live, source, unpinned⟩

/-- The victim found is the one of lowest confidence, then greatest age, then lowest slot (R147). -/
theorem victim_unique {t : Table} {x v : Live} (found : victim t = some x) (live : IsLive t v)
    (source : v.record.source ≠ .host) (unpinned : v.record.pinned = false)
    (ages : ∀ l, IsLive t l → l.record.age ≤ 255)
    (least : ∀ w, IsLive t w → w.record.source ≠ .host → w.record.pinned = false →
      v.record.confidence < w.record.confidence ∨ (v.record.confidence = w.record.confidence ∧
        (w.record.age < v.record.age ∨ (w.record.age = v.record.age ∧ v.ref.slot ≤ w.ref.slot)))) : x = v := by
  obtain ⟨mem, first⟩ := leastBy_first victimKey (fun l => l.ref.slot) ((liveRecords t).filter isVictim)
    ((liveRecords_slots t).filter _) x found
  obtain ⟨xlive, xsource, xunpinned⟩ := victim_is found
  have ahead := first v (List.mem_filter.mpr ⟨(mem_liveRecords t v).mpr live, isVictim_iff.mpr ⟨source, unpinned⟩⟩)
  have behind := least x xlive xsource xunpinned
  have xage := ages x xlive
  have vage := ages v live
  simp only [victimKey] at ahead
  exact isLive_unique xlive live (by omega)

/-! ### The four outcomes -/

/-- The state in which a table change by an observation classifies (R149). -/
def observed (notices : List Notice) (table : Table) (s : State) : State :=
  notices.foldl (fun u n => offerNotice n u) { s with table := table }

theorem observed_eq (notices : List Notice) (table : Table) (s : State) : observed notices table s = { s with
    table := table
    link := (observed notices table s).link
    latches := (observed notices table s).latches } := foldl_offer_frame notices { s with table := table }

theorem takeObservation_merge {o : Observation} {s : State} {l : Live} (found : candidate s.config s.table o = some l) :
    takeObservation o s = ⟨tableChanged (observed
      [mergeNotice s.config l.ref l.record (merged o l.record) s.link.timeBase]
      (setSlot s.table l.ref.slot ⟨l.ref.generation, some (merged o l.record)⟩) s), some l.ref⟩ := by
  rw [takeObservation, found]
  rfl

theorem takeObservation_create {o : Observation} {s : State} {k : Nat} (alone : candidate s.config s.table o = none)
    (free : lowestFree s.table = some k) : takeObservation o s = ⟨tableChanged (observed
      [createNotice s.config ⟨k, (slotAt s.table k).generation + 1⟩ (newSensed s.config o) s.link.timeBase]
      (placeRecord s.table k (newSensed s.config o)) s), some ⟨k, (slotAt s.table k).generation + 1⟩⟩ := by
  rw [takeObservation, alone, free]
  rfl

theorem takeObservation_replace {o : Observation} {s : State} {v : Live} (alone : candidate s.config s.table o = none)
    (full : lowestFree s.table = none) (found : victim s.table = some v) :
    takeObservation o s = ⟨tableChanged (observed
      [recordNotice .recordRetired .replaced v.ref v.record.hazard s.link.timeBase,
        createNotice s.config ⟨v.ref.slot, v.ref.generation + 1⟩ (newSensed s.config o) s.link.timeBase]
      (replaceRecord s.table v.ref.slot (newSensed s.config o)) s), some ⟨v.ref.slot, v.ref.generation + 1⟩⟩ := by
  rw [takeObservation, alone, full, found]
  rfl

theorem takeObservation_drop {o : Observation} {s : State} (alone : candidate s.config s.table o = none)
    (full : lowestFree s.table = none) (hosts : victim s.table = none) :
    takeObservation o s = ⟨offerNotice (dropNotice o s.link.timeBase) s, none⟩ := by
  rw [takeObservation, alone, full, hosts]

/-! ### What stands in the slot, and its notice -/

theorem merged_host {o : Observation} {r : Record} (host : r.source = .host) : merged o r =
    { r with age := 0, hits := min 255 (r.hits + 1), observed := true } := if_pos host

/-- A circle drawn halfway toward the point observed (R145). -/
theorem drawnHazard_shape (o : Observation) (c : Circle) : drawnHazard o (observedShape o c) =
    observedShape o ⟨c.cx + (o.x - c.cx).tdiv 2, c.cy + (o.y - c.cy).tdiv 2, c.r⟩ := by
  unfold observedShape
  cases o.isDrop <;> rfl

theorem merged_sensed {o : Observation} {r : Record} {c : Circle} (sensed : r.source ≠ .host)
    (shape : r.hazard = observedShape o c) : merged o r = { r with
      hazard := observedShape o ⟨c.cx + (o.x - c.cx).tdiv 2, c.cy + (o.y - c.cy).tdiv 2, c.r⟩
      confidence := min 15 (r.confidence + 3)
      age := 0
      hits := min 255 (r.hits + 1)
      observed := true } := by
  rw [merged, if_neg sensed, sensedMerged, shape, drawnHazard_shape]

theorem recordState_host {cfg : Settings} {r : Record} (host : r.source = .host) : recordState cfg r = .host := by
  simp [recordState, host]

theorem recordState_sensed {cfg : Settings} {r : Record} (sensed : r.source ≠ .host) :
    recordState cfg r = if r.confidence < confirmLevel cfg then .tentative else .confirmed := by
  unfold recordState
  cases source : r.source with
  | host => exact absurd source sensed
  | cliff => rfl
  | bump => rfl

theorem observedShape_kind (o : Observation) (c d : Circle) : (observedShape o c).kind = (observedShape o d).kind := by
  unfold observedShape
  cases o.isDrop <;> rfl

theorem mergeNotice_host {cfg : Settings} {ref : Ref} {o : Observation} {r : Record} {c : Circle} {time : Half}
    (host : r.source = .host) (shape : r.hazard = observedShape o c) : mergeNotice cfg ref r (merged o r) time =
      ⟨.recordMerged, some ref, some (observedShape o c).kind, some .host, c.cx, c.cy, none, time⟩ := by
  have new : recordState cfg (merged o r) = .host := recordState_host (by rw [merged_host host]; exact host)
  have hazard : (merged o r).hazard = observedShape o c := by
    rw [merged_host host]
    exact shape
  rw [mergeNotice, if_neg (by simp [new]), new, hazard, recordNotice, observedShape_centre]
  rfl

theorem mergeNotice_sensed {cfg : Settings} {ref : Ref} {o : Observation} {r : Record} {c : Circle} {time : Half}
    (sensed : r.source ≠ .host) (shape : r.hazard = observedShape o c) : mergeNotice cfg ref r (merged o r) time =
      ⟨if r.confidence < confirmLevel cfg ∧ confirmLevel cfg ≤ min 15 (r.confidence + 3) then .recordConfirmed
        else .recordMerged, some ref, some (observedShape o c).kind,
        some (if min 15 (r.confidence + 3) < confirmLevel cfg then .tentative else .confirmed),
        c.cx + (o.x - c.cx).tdiv 2, c.cy + (o.y - c.cy).tdiv 2, none, time⟩ := by
  have old := recordState_sensed (cfg := cfg) sensed
  have new : recordState cfg (merged o r) =
      if min 15 (r.confidence + 3) < confirmLevel cfg then .tentative else .confirmed := by
    rw [merged_sensed sensed shape]
    exact recordState_sensed sensed
  have hazard : (merged o r).hazard =
      observedShape o ⟨c.cx + (o.x - c.cx).tdiv 2, c.cy + (o.y - c.cy).tdiv 2, c.r⟩ := by
    rw [merged_sensed sensed shape]
  rw [mergeNotice, old, new, hazard, recordNotice, recordNotice, observedShape_centre, observedShape_kind o _ c]
  by_cases before : r.confidence < confirmLevel cfg
  · by_cases after : min 15 (r.confidence + 3) < confirmLevel cfg
    · simp [before, after, Nat.not_le.mpr after, stateCause]
    · simp [before, after, Nat.not_lt.mp after]
  · by_cases after : min 15 (r.confidence + 3) < confirmLevel cfg
    · simp [before, after, stateCause]
    · simp [before, after, stateCause]

theorem newSensed_eq {cfg : Settings} {o : Observation} {h : Hazard}
    (hh : h = observedShape o ⟨o.x, o.y, if o.isDrop then dropRadius cfg else bumpRadius cfg⟩) :
    newSensed cfg o = ⟨h, if o.isDrop then .cliff else .bump, false, 4, 0, 1, true⟩ := by
  subst hh
  unfold newSensed observedHazard observedShape
  cases o.isDrop <;> rfl

theorem createNotice_eq {cfg : Settings} {ref : Ref} {o : Observation} {h : Hazard} {time : Half}
    (hh : h = observedShape o ⟨o.x, o.y, if o.isDrop then dropRadius cfg else bumpRadius cfg⟩) :
    createNotice cfg ref (newSensed cfg o) time = ⟨.recordCreated, some ref, some h.kind,
      some (if 4 < confirmLevel cfg then .tentative else .confirmed), o.x, o.y, none, time⟩ := by
  have sensed : (newSensed cfg o).source ≠ .host := by
    unfold newSensed
    cases o.isDrop <;> simp
  have hazard : (newSensed cfg o).hazard = h := by rw [newSensed_eq hh]
  have confidence : (newSensed cfg o).confidence = 4 := rfl
  rw [createNotice, recordState_sensed sensed, hazard, confidence, recordNotice, hh, observedShape_centre]
  by_cases low : 4 < confirmLevel cfg <;> simp [low, stateCause]

theorem dropNotice_eq {cfg : Settings} {o : Observation} {h : Hazard} {time : Half}
    (hh : h = observedShape o ⟨o.x, o.y, if o.isDrop then dropRadius cfg else bumpRadius cfg⟩) :
    dropNotice o time = ⟨.observationDropped, none, some h.kind, some .tableFull, o.x, o.y, none, time⟩ := by
  subst hh
  unfold dropNotice observedShape
  cases o.isDrop <;> rfl

/-- A slot that holds a circle before and after changes no rectangle. -/
theorem isLive_setSlot_rect {t : Table} {k : Nat} {x : Slot} (bound : k < 96)
    (old : ∀ r, (slotAt t k).record = some r → r.hazard.rect? = none)
    (new : ∀ r, x.record = some r → r.hazard.rect? = none) {l : Live} (rect : l.record.hazard.rect? ≠ none) :
    IsLive (setSlot t k x) l ↔ IsLive t l := by
  unfold IsLive
  rw [slotAt_setSlot t k _ x bound]
  refine and_congr_right fun _ => ?_
  by_cases here : l.ref.slot = k
  · rw [if_pos here, here]
    refine ⟨fun slot => absurd (new l.record (by rw [slot])) rect, fun slot => absurd (old l.record (by rw [slot])) rect⟩
  · rw [if_neg here]

/-! ### Table changes by an observation -/

variable {s : State} {o : Observation} {rest : List Observation}

/-- The state in which the oldest observation is taken (R143). -/
def dequeued (rest : List Observation) (s : State) : State :=
  { s with ageing := { s.ageing with observations := rest } }

theorem observationEffect_eq (queue : s.ageing.observations = o :: rest) : observationEffect s =
    settle (deliver (takeObservation o (dequeued rest s)).result (takeObservation o (dequeued rest s)).state) := by
  rw [observationEffect, queue]
  rfl

theorem observed_kept (notices : List Notice) (table : Table) : KeepsMotion s (observed notices table (dequeued rest s)) := by
  rw [observed_eq]
  exact ⟨rfl, rfl, rfl, rfl, rfl⟩

theorem deliver_quiet {ref : Option Ref} (quiet : s.floor.resultPending = false) : deliver ref s = s := by
  unfold deliver
  split
  · next o response => simp [Floor.resultPending, response] at quiet
  · next o n response => simp [Floor.resultPending, response] at quiet
  · rfl

/-- What a delivery leaves: all but the response and the cause of the running segment (R136). -/
theorem deliver_same (ref : Option Ref) (s : State) : deliver ref s = { s with
    floor := { s.floor with response := (deliver ref s).floor.response }
    segments := { s.segments with running := (deliver ref s).segments.running } } := by
  unfold deliver
  split <;> rfl

/-- The state that an observation with a table change leaves (R149). -/
def observedEnd (ref : Option Ref) (notices : List Notice) (table : Table) (s : State) : State :=
  settle (deliver ref (evaluate (classify .table (observed notices table s))))

theorem observedEnd_world (ref : Option Ref) (notices : List Notice) (table : Table) :
    KeepsWorld s (refresh (observedEnd ref notices table (dequeued rest s))) := by
  rw [observedEnd, observed_eq]
  constructor <;> simp [dequeued]

theorem observedEnd_config (ref : Option Ref) (notices : List Notice) (table : Table) :
    (observedEnd ref notices table (dequeued rest s)).config = s.config := by
  rw [observedEnd, observed_eq]
  simp [dequeued]

theorem observedEnd_pose (ref : Option Ref) (notices : List Notice) (table : Table) :
    (observedEnd ref notices table (dequeued rest s)).pose = s.pose := by
  rw [observedEnd, observed_eq]
  simp [dequeued]

theorem observedEnd_ageing (ref : Option Ref) (notices : List Notice) (table : Table) :
    (observedEnd ref notices table (dequeued rest s)).ageing = { s.ageing with observations := rest } := by
  rw [observedEnd, observed_eq]
  simp [dequeued]

theorem observedEnd_table (ref : Option Ref) (notices : List Notice) (table : Table) :
    (observedEnd ref notices table (dequeued rest s)).table = table := by
  rw [observedEnd, observed_eq]
  simp [dequeued]

/-- The notices of an outcome join in order; with the rectangles as they were the centre stands (R31, R149). -/
theorem observedEnd_notices {ref : Option Ref} {notices : List Notice} {table : Table}
    (centre : s.zones.centre = classAt s.table s.pose.px s.pose.py)
    (rects : ∀ l, l.record.hazard.rect? ≠ none → (IsLive table l ↔ IsLive s.table l))
    (room : s.link.notices.length + notices.length ≤ 16) :
    NoticesJoined notices s (refresh (observedEnd ref notices table (dequeued rest s))) := by
  have joined := noticesJoined_of_same s (foldl_offer_joined notices { dequeued rest s with table := table } room) rfl rfl rfl
  have same : (classification (observed notices table (dequeued rest s))).centre =
      (observed notices table (dequeued rest s)).zones.centre := by
    rw [observed_eq]
    exact (classAt_of_rects rects s.pose.px s.pose.py).trans centre.symm
  refine noticesJoined_link joined ?_
  rw [refresh_link, observedEnd, settle_link, deliver_link, evaluate_link, classify_link_same same]
  rfl

theorem observedEnd_centre (ref : Option Ref) (notices : List Notice) (table : Table) :
    (observedEnd ref notices table (dequeued rest s)).zones.centre = classAt table s.pose.px s.pose.py := by
  have before := evaluate_centreOk _ (classify_centreOk .table (observed notices table (dequeued rest s)))
  have after := settle_centreOk _ (centreOk_of_same before (deliver_zones ref _) (deliver_table ref _) (deliver_pose ref _))
  unfold CentreOk at after
  rw [show settle (deliver ref (evaluate (classify .table (observed notices table (dequeued rest s))))) =
    observedEnd ref notices table (dequeued rest s) from rfl, observedEnd_table, observedEnd_pose] at after
  exact after

theorem observed_floor (notices : List Notice) (table : Table) :
    (evaluate (classify .table (observed notices table (dequeued rest s)))).floor = s.floor := by
  rw [evaluate_floor, classify_floor, (observed_kept notices table).floor]

/-- With no result awaited nothing is delivered (R136). -/
theorem observedEnd_quiet {ref : Option Ref} {notices : List Notice} {table : Table}
    (quiet : s.floor.resultPending = false) : observedEnd ref notices table (dequeued rest s) =
      settle (evaluate (classify .table (observed notices table (dequeued rest s)))) :=
  congrArg settle (deliver_quiet (by rw [observed_floor]; exact quiet))

/-- A cause that stands keeps an evaluation from the segment (R90). -/
theorem evaluate_later {w : State} {c : Context} (running : w.segments.running = some c) (stands : c.cause ≠ none) :
    evaluate w = { w with clearance := (evaluate w).clearance } := by
  rcases isStraight_or c.segment.motion with straight | turning
  · rw [evaluate_stopping running straight stands]
  · rw [evaluate_of_not_straight w (straightRunning_none w fun d hd => by
      cases Option.some.inj (hd.symm.trans running)
      exact turning)]

theorem deliver_segment {ref : Option Ref} {w : State} {c : Context} (running : w.segments.running = some c) :
    ∃ d, (deliver ref w).segments.running = some d ∧ d.segment = c.segment := by
  unfold deliver
  split
  · exact ⟨addResult ref c, by simp [running], rfl⟩
  · exact ⟨c, running, rfl⟩
  · exact ⟨c, running, rfl⟩

theorem deliver_atRest (ref : Option Ref) (w : State) : (deliver ref w).atRest = w.atRest := by
  rw [deliver_same]
  rfl

theorem deliver_cliffs (ref : Option Ref) (w : State) : (deliver ref w).floor.cliffs = w.floor.cliffs := by
  rw [deliver_same]

/-- A stop that goes on leaves nothing due after a delivery (R92). -/
theorem settle_deliver_stopping {ref : Option Ref} {w : State} {c : Context} (running : w.segments.running = some c)
    (queued : w.segments.queue ≠ [])
    (held : w.atRest = false ∨ w.drive.stop.moveInProgress = true ∨ w.drive.unjam ≠ none) :
    settle (deliver ref w) = deliver ref w := by
  obtain ⟨d, hd, -⟩ := deliver_segment (ref := ref) running
  refine settle_of_no_write _ d hd (canWrite_of_not_atRest fun still => ?_) (by rw [deliver_same]; exact queued)
  have rest := still.rest
  have noMove := still.no_move
  have noUnjam := still.no_unjam
  rw [deliver_atRest] at rest
  rw [deliver_drive] at noMove noUnjam
  rcases held with moving | move | unjam
  · simp [moving] at rest
  · simp [move] at noMove
  · exact unjam noUnjam

/-- A running LINE or DOCK is judged at a table change by an observation (R53, R149). -/
theorem observedEnd_judged {ref : Option Ref} {notices : List Notice} {table : Table} {c : Context}
    (running : s.segments.running = some c) (queued : s.segments.queue ≠ [])
    (straight : c.segment.motion.isStraight = true) (quiet : c.cause = none → s.floor.resultPending = false) :
    JudgedAgain c s (refresh (observedEnd ref notices table (dequeued rest s))) := by
  obtain ⟨u, hu⟩ : ∃ u, u = observed notices table (dequeued rest s) := ⟨_, rfl⟩
  have kept : KeepsMotion s u := hu ▸ observed_kept notices table
  have time : u.link.timeBase = s.link.timeBase := by
    rw [hu]
    exact foldl_offer_timeBase _ _
  cases cause : c.cause with
  | none =>
    rw [observedEnd_quiet (quiet cause), ← hu]
    exact judgedAgain_of_change running queued straight kept.segments kept.drive kept.floor time
  | some e =>
    obtain ⟨w, hw⟩ : ∃ w, w = classify .table u := ⟨_, rfl⟩
    have wrunning : w.segments.running = some c := by rw [hw, classify_segments, kept.segments, running]
    have wdrive : w.drive = s.drive := by rw [hw, classify_drive, kept.drive]
    have classified : PathClassified w c.segment.motion := by
      rw [hw]
      exact classify_path .table (straightRunning_of_running (by rw [kept.segments, running]) straight)
    have evaluated := evaluate_stopping wrunning straight (by simp [cause])
    have ended : observedEnd ref notices table (dequeued rest s) =
        settle (deliver ref { w with clearance := evaluation w c }) := by
      rw [observedEnd, ← hu, ← hw, evaluated]
    rintro d found probe rfl hfound hprobe
    refine ⟨fun held => ?_, fun first => ?_, fun _ first => ?_⟩
    · have settled := settle_deliver_stopping (ref := ref) (w := { w with clearance := evaluation w c }) wrunning
        (by rw [hw, classify_segments, kept.segments]; exact queued) (by
          rcases held with moving | ⟨-, held⟩
          · exact .inl ((atRest_of_setpoints (s := s) (by rw [← wdrive]) (by rw [← wdrive])).trans moving)
          · exact .inr (by rw [← wdrive] at held; exact held))
      rw [settled] at ended
      subst hfound hprobe
      rw [ended]
      refine clearanceJudged_of_evaluation (w := w) (t := refresh (deliver ref { w with clearance := evaluation w c }))
        (deliver_clearance ref _) (deliver_zones ref _) (deliver_config ref _) (deliver_table ref _) (deliver_pose ref _)
        ?_ classified
      unfold State.anySuspect
      rw [refresh_floor, deliver_cliffs]
    · exact absurd (cause.symm.trans first) nofun
    · exact absurd (cause.symm.trans first) nofun

theorem deliver_waiting {ref : Option Ref} {w : State} {c : Context} {p : Observation}
    (response : w.floor.response = some ⟨p, .pending 0⟩) (running : w.segments.running = some c) : deliver ref w = { w with
      floor := { w.floor with response := some ⟨p, .arrived ref⟩ }
      segments := { w.segments with running := some (addResult ref c) } } := by
  rw [deliver, response]
  simp [running]

/-- The result reaches the response that waits for it and the cause of the running segment (R136). -/
theorem result_delivered {ref : Option Ref} {w : State} {p : Observation} {c : Context} {e : EndCause}
    (segments : w.segments = s.segments) (drive : w.drive = s.drive) (floor : w.floor = s.floor)
    (time : w.link.timeBase = s.link.timeBase) (response : s.floor.response = some ⟨p, .pending 0⟩)
    (running : s.segments.running = some c) (cause : c.cause = some e) (queued : s.segments.queue ≠ []) :
    (s.atRest = false → (settle (deliver ref w)).floor.response = some ⟨p, .arrived ref⟩ ∧
      (settle (deliver ref w)).segments.running = some { c with cause := some { e with record := ref } }) ∧
    (s.atRest = true → s.drive.stop.moveInProgress = false → s.drive.unjam = none →
      ∃ more, (settle (deliver ref w)).segments.completions = s.segments.completions ++ ⟨c.segment, e.kind, c.cancelSeen,
        travelledOf c, ref, s.drive.retries, s.link.timeBase⟩ :: more) := by
  have wrunning : w.segments.running = some c := by rw [segments, running]
  have delivered := deliver_waiting (ref := ref) (by rw [floor, response]) wrunning
  have added : addResult ref c = { c with cause := some { e with record := ref } } := by simp [addResult, cause]
  have rest : w.atRest = s.atRest := atRest_of_setpoints (by rw [drive]) (by rw [drive])
  refine ⟨fun moving => ?_, fun still noMove unjam => ?_⟩
  · rw [settle_deliver_stopping wrunning (by rw [segments]; exact queued) (.inl (rest.trans moving)), delivered, added]
    exact ⟨rfl, rfl⟩
  · rw [delivered, added]
    have due : AtRest { w with
        floor := { w.floor with response := some ⟨p, .arrived ref⟩ }
        segments := { w.segments with running := some { c with cause := some { e with record := ref } } } } :=
      ⟨rest.trans still, by rw [drive]; exact noMove, by rw [drive]; exact unjam, rfl⟩
    obtain ⟨more, written⟩ := settle_writes _ _ { e with record := ref } rfl rfl due
    refine ⟨more, written.trans ?_⟩
    rw [segments, drive, time]
    rfl

theorem observedEnd_delivered {ref : Option Ref} {notices : List Notice} {table : Table} {p : Observation} {c : Context}
    {e : EndCause} (response : s.floor.response = some ⟨p, .pending 0⟩) (running : s.segments.running = some c)
    (cause : c.cause = some e) (queued : s.segments.queue ≠ []) :
    (s.atRest = false → (observedEnd ref notices table (dequeued rest s)).floor.response = some ⟨p, .arrived ref⟩ ∧
      (observedEnd ref notices table (dequeued rest s)).segments.running =
        some { c with cause := some { e with record := ref } }) ∧
    (s.atRest = true → s.drive.stop.moveInProgress = false → s.drive.unjam = none →
      ∃ more, (observedEnd ref notices table (dequeued rest s)).segments.completions = s.segments.completions ++
        ⟨c.segment, e.kind, c.cancelSeen, travelledOf c, ref, s.drive.retries, s.link.timeBase⟩ :: more) := by
  have kept : KeepsMotion s (observed notices table (dequeued rest s)) := observed_kept notices table
  have time : (observed notices table (dequeued rest s)).link.timeBase = s.link.timeBase := foldl_offer_timeBase _ _
  have later := evaluate_later (w := classify .table (observed notices table (dequeued rest s))) (c := c)
    (by rw [classify_segments, kept.segments, running]) (by simp [cause])
  refine result_delivered ?_ ?_ ?_ ?_ response running cause queued
  · rw [later, classify_segments, kept.segments]
  · rw [later, classify_drive, kept.drive]
  · rw [later, classify_floor, kept.floor]
  · rw [evaluate_link, (classify_answer .table _).timeBase, time]

/-! ### The statement -/

/-- What an observation leaves, whatever its outcome: `ref` names the record it made or changed. -/
structure ObservationLeaves (s : State) (rest : List Observation) (ref : Option Ref) (notices : List Notice) (t : State) :
    Prop where
  run : exec .observation s = .next t
  world : KeepsWorld s t
  config : t.config = s.config
  pose : t.pose = s.pose
  ageing : t.ageing = { s.ageing with observations := rest }
  joined : s.zones.centre = classAt s.table s.pose.px s.pose.py →
    (∀ l, IsLive s.table l → l.record.source ≠ .host → l.record.hazard.rect? = none) →
    s.link.notices.length + notices.length ≤ 16 → NoticesJoined notices s t
  change : ref ≠ none → t.zones.centre = classAt t.table s.pose.px s.pose.py ∧
    (s.straightRunning = none → Settled s → s.floor.resultPending = false →
      KeepsMotion s t ∧ t.clearance = freshClearance ∧ CentreClassified t) ∧
    (∀ c, s.segments.running = some c → s.segments.queue ≠ [] → c.segment.motion.isStraight = true →
      (c.cause = none → s.floor.resultPending = false) → JudgedAgain c s t)
  delivered : ∀ p c e, s.floor.response = some ⟨p, .pending 0⟩ → s.segments.running = some c → c.cause = some e →
    s.segments.queue ≠ [] →
    (s.atRest = false → t.floor.response = some ⟨p, .arrived ref⟩ ∧
      t.segments.running = some { c with cause := some { e with record := ref } }) ∧
    (s.atRest = true → s.drive.stop.moveInProgress = false → s.drive.unjam = none →
      ∃ more, t.segments.completions = s.segments.completions ++ ⟨c.segment, e.kind, c.cancelSeen, travelledOf c, ref,
        s.drive.retries, s.link.timeBase⟩ :: more)

/-- What every table change by an observation leaves (R149). -/
theorem observation_changes {ref : Ref} {notices : List Notice} {table : Table} (ready : s.power = .ready)
    (queue : s.ageing.observations = o :: rest)
    (taken : takeObservation o (dequeued rest s) = ⟨tableChanged (observed notices table (dequeued rest s)), some ref⟩)
    (rects : (∀ l, IsLive s.table l → l.record.source ≠ .host → l.record.hazard.rect? = none) →
      ∀ l, l.record.hazard.rect? ≠ none → (IsLive table l ↔ IsLive s.table l)) :
    ∃ t, ObservationLeaves s rest (some ref) notices t ∧ t.table = table := by
  have effect : observationEffect s = observedEnd (some ref) notices table (dequeued rest s) :=
    (observationEffect_eq queue).trans (by rw [taken]; rfl)
  obtain ⟨t, ht⟩ : ∃ t, t = observedEnd (some ref) notices table (dequeued rest s) := ⟨_, rfl⟩
  have tableOf : t.table = table := by rw [ht, observedEnd_table]
  have config : t.config = s.config := by rw [ht, observedEnd_config]
  have pose : t.pose = s.pose := by rw [ht, observedEnd_pose]
  have ageing : t.ageing = { s.ageing with observations := rest } := by rw [ht, observedEnd_ageing]
  refine ⟨refresh t, ⟨exec_effect rfl ready (effect.trans ht.symm), ht ▸ observedEnd_world _ _ _, config, pose, ageing,
    fun centre circles room => ht ▸ observedEnd_notices centre (rects circles) room,
    fun _ => ⟨?_, fun straight settled quiet => ?_, fun c running queued straight quiet => ?_⟩,
    fun p c e response running cause queued => ?_⟩, tableOf⟩
  · rw [refresh_zones, refresh_table, tableOf, ht, observedEnd_centre]
  · rw [ht, observedEnd_quiet quiet]
    exact tableChange_still (observed_kept notices table) straight settled
  · rw [ht]
    exact observedEnd_judged running queued straight quiet
  · have delivered := observedEnd_delivered (ref := some ref) (notices := notices) (table := table) (rest := rest)
      response running cause queued
    rw [← ht] at delivered
    exact delivered

theorem candidate_near {cfg : Settings} {t : Table} {l : Live} (found : candidate cfg t o = some l) :
    ∃ c n, NearTo cfg t o l c n := mem_candidates.mp (leastBy_mem _ _ l found).1

theorem merged_rect {r : Record} {c : Circle} (shape : r.hazard = observedShape o c) :
    (merged o r).hazard.rect? = none := by
  by_cases host : r.source = .host
  · rw [merged_host host]
    exact (congrArg Hazard.rect? shape).trans (observedShape_rect o c)
  · rw [merged_sensed host shape]
    exact observedShape_rect o _

theorem newSensed_rect (cfg : Settings) (o : Observation) : (newSensed cfg o).hazard.rect? = none := by
  unfold newSensed observedHazard
  cases o.isDrop <;> rfl

/-- An observation that is merged (R143 to R145). -/
theorem observation_merges {x : Live} (ready : s.power = .ready) (queue : s.ageing.observations = o :: rest)
    (found : candidate s.config s.table o = some x) : ∃ t, ObservationLeaves s rest (some x.ref)
      [mergeNotice s.config x.ref x.record (merged o x.record) s.link.timeBase] t ∧
      t.table = setSlot s.table x.ref.slot ⟨x.ref.generation, some (merged o x.record)⟩ := by
  obtain ⟨c, n, live, shape, -⟩ := candidate_near found
  refine observation_changes ready queue (takeObservation_merge (s := dequeued rest s) found)
    fun _ l rect => isLive_setSlot_rect live.1 (fun r old => ?_) (fun r new => ?_) rect
  · rw [live.2] at old
    cases Option.some.inj old
    rw [shape]
    exact observedShape_rect o c
  · cases Option.some.inj new
    exact merged_rect shape

/-- An observation that becomes a record in a free slot (R146). -/
theorem observation_creates {k : Nat} (ready : s.power = .ready) (queue : s.ageing.observations = o :: rest)
    (alone : candidate s.config s.table o = none) (free : lowestFree s.table = some k) :
    ∃ t, ObservationLeaves s rest (some ⟨k, (slotAt s.table k).generation + 1⟩)
      [createNotice s.config ⟨k, (slotAt s.table k).generation + 1⟩ (newSensed s.config o) s.link.timeBase] t ∧
      t.table = placeRecord s.table k (newSensed s.config o) := by
  obtain ⟨bound, empty, -⟩ := (lowestFree_iff s.table k).mp free
  refine observation_changes ready queue (takeObservation_create (s := dequeued rest s) alone free)
    fun _ l rect => isLive_setSlot_rect bound (fun r old => ?_) (fun r new => ?_) rect
  · rw [empty] at old
    cases old
  · cases Option.some.inj new
    exact newSensed_rect s.config o

/-- An observation that is put in the place of a victim (R147). -/
theorem observation_replaces {v : Live} (ready : s.power = .ready) (queue : s.ageing.observations = o :: rest)
    (alone : candidate s.config s.table o = none) (full : lowestFree s.table = none) (found : victim s.table = some v) :
    ∃ t, ObservationLeaves s rest (some ⟨v.ref.slot, v.ref.generation + 1⟩)
      [recordNotice .recordRetired .replaced v.ref v.record.hazard s.link.timeBase,
        createNotice s.config ⟨v.ref.slot, v.ref.generation + 1⟩ (newSensed s.config o) s.link.timeBase] t ∧
      t.table = replaceRecord s.table v.ref.slot (newSensed s.config o) := by
  obtain ⟨live, source, -⟩ := victim_is found
  refine observation_changes ready queue (takeObservation_replace (s := dequeued rest s) alone full found)
    fun circles l rect => isLive_setSlot_rect live.1 (fun r old => ?_) (fun r new => ?_) rect
  · rw [live.2] at old
    cases Option.some.inj old
    exact circles v live source
  · cases Option.some.inj new
    exact newSensed_rect s.config o

/-- An observation that is dropped (R148). -/
theorem observation_drops (ready : s.power = .ready) (queue : s.ageing.observations = o :: rest)
    (alone : candidate s.config s.table o = none) (full : lowestFree s.table = none) (hosts : victim s.table = none) :
    ∃ t, ObservationLeaves s rest none [dropNotice o s.link.timeBase] t ∧ t.table = s.table := by
  obtain ⟨w, hw⟩ : ∃ w, w = offerNotice (dropNotice o s.link.timeBase) (dequeued rest s) := ⟨_, rfl⟩
  have effect : observationEffect s = settle (deliver none w) := by
    rw [observationEffect_eq queue, takeObservation_drop (s := dequeued rest s) alone full hosts, hw]
    rfl
  have frame : KeepsMotion s w := by
    rw [hw]
    constructor <;> simp [dequeued]
  refine ⟨_, ⟨exec_effect rfl ready effect, ?_, ?_, ?_, ?_, fun _ _ room => ?_, fun some => absurd rfl some,
    fun p c e response running cause queued => ?_⟩, ?_⟩
  · constructor <;> simp [hw, dequeued]
  · simp [hw, dequeued]
  · simp [hw, dequeued]
  · simp [hw, dequeued]
  · have short : (dequeued rest s).link.notices.length < 16 := by
      have : s.link.notices.length + 1 ≤ 16 := room
      exact this
    refine noticesJoined_link (noticesJoined_of_same s (offerNotice_joined (dropNotice o s.link.timeBase)
      (dequeued rest s) short) rfl rfl rfl) ?_
    rw [refresh_link, settle_link, deliver_link, hw]
  · exact result_delivered frame.segments frame.drive frame.floor (by rw [hw]; exact (offerNotice_answer _ _).timeBase)
      response running cause queued
  · simp [hw, dequeued]

theorem lowestFree_unique {t : Table} {k j : Nat} (free : lowestFree t = some k) (bound : j < 96)
    (empty : (slotAt t j).record = none) (below : ∀ i, i < j → (slotAt t i).record ≠ none) : j = k :=
  Option.some.inj (((lowestFree_iff t j).mpr ⟨bound, empty, below⟩).symm.trans free)

/-- What stands in the slot of the record that an observation is merged into, and its notice (R143 to R145). -/
theorem merged_slot {cfg : Settings} {o : Observation} {time : Half} {t u : Table} {l : Live} {c : Circle} {n : Nat}
    (near : NearTo cfg t o l c n) (table : u = setSlot t l.ref.slot ⟨l.ref.generation, some (merged o l.record)⟩) :
    (∀ k, k ≠ l.ref.slot → slotAt u k = slotAt t k) ∧
    (l.record.source = .host →
      slotAt u l.ref.slot = ⟨l.ref.generation, some { l.record with
        age := 0
        hits := min 255 (l.record.hits + 1)
        observed := true }⟩ ∧
      [mergeNotice cfg l.ref l.record (merged o l.record) time] =
        [⟨.recordMerged, some l.ref, some (observedShape o c).kind, some .host, c.cx, c.cy, none, time⟩]) ∧
    (l.record.source ≠ .host → ∀ (d : Circle) (level : Nat),
      d = ⟨c.cx + (o.x - c.cx).tdiv 2, c.cy + (o.y - c.cy).tdiv 2, c.r⟩ → level = confirmLevel cfg →
      slotAt u l.ref.slot = ⟨l.ref.generation, some { l.record with
        hazard := observedShape o d
        confidence := min 15 (l.record.confidence + 3)
        age := 0
        hits := min 255 (l.record.hits + 1)
        observed := true }⟩ ∧
      [mergeNotice cfg l.ref l.record (merged o l.record) time] =
        [⟨if l.record.confidence < level ∧ level ≤ min 15 (l.record.confidence + 3) then .recordConfirmed
            else .recordMerged, some l.ref, some (observedShape o c).kind,
          some (if min 15 (l.record.confidence + 3) < level then .tentative else .confirmed), d.cx, d.cy, none, time⟩]) := by
  obtain ⟨⟨bound, -⟩, shape, -⟩ := near
  have slot : ∀ k, slotAt u k = if k = l.ref.slot then ⟨l.ref.generation, some (merged o l.record)⟩ else slotAt t k := by
    intro k
    rw [table, slotAt_setSlot _ _ _ _ bound]
  refine ⟨fun k other => ?_, fun host => ⟨?_, ?_⟩, fun sensed d level hd hlevel => ⟨?_, ?_⟩⟩
  · rw [slot, if_neg other]
  · rw [slot, if_pos rfl, merged_host host]
  · rw [mergeNotice_host host shape]
  · rw [slot, if_pos rfl, merged_sensed sensed shape, hd]
  · rw [mergeNotice_sensed sensed shape, hd, hlevel]

/-- Settles O57: the nearest record of its kind, the lowest free slot, the victim and the drop exclude each other, and each
of the four outcomes leaves the rest alike. -/
theorem observationsEnterTheTable : Obligations.ObservationsEnterTheTable := by
  rintro s o rest shape near made ready queue hshape hnear hmade
  obtain rfl : shape = observedShape o := hshape
  obtain rfl : near = NearTo s.config s.table o := by
    funext l c n
    exact propext (hnear l c n)
  cases found : candidate s.config s.table o with
  | some x =>
    obtain ⟨t, leaves, table⟩ := observation_merges ready queue found
    obtain ⟨cx, nx, nearx⟩ := candidate_near found
    refine ⟨_, _, t, leaves.run, leaves.world, leaves.config, leaves.pose, leaves.ageing, fun l c n near least => ?_,
      fun far => absurd nearx (far x cx nx), leaves.joined, leaves.change, leaves.delivered⟩
    obtain rfl := candidate_unique found near least
    exact ⟨rfl, merged_slot near table⟩
  | none =>
    have far := candidate_none found
    cases free : lowestFree s.table with
    | some k =>
      obtain ⟨t, leaves, table⟩ := observation_creates ready queue found free
      obtain ⟨bound, empty, -⟩ := (lowestFree_iff s.table k).mp free
      have slot : ∀ j, slotAt t.table j = if j = k then ⟨(slotAt s.table k).generation + 1, some (newSensed s.config o)⟩
          else slotAt s.table j := by
        intro j
        rw [table, slotAt_placeRecord _ _ _ _ bound, empty]
        rfl
      refine ⟨_, _, t, leaves.run, leaves.world, leaves.config, leaves.pose, leaves.ageing,
        fun l c n near => absurd near (far l c n), fun _ h created hh hcreated => ⟨fun j hj free' below => ?_, fun full =>
          absurd empty (full k bound)⟩, leaves.joined, leaves.change, leaves.delivered⟩
      obtain rfl := lowestFree_unique free hj free' below
      refine ⟨rfl, ?_, fun i other => ?_, ?_⟩
      · rw [slot, if_pos rfl, hmade, newSensed_eq hh]
      · rw [slot, if_neg other]
      · rw [hcreated, createNotice_eq hh]
    | none =>
      have full := (lowestFree_none_iff s.table).mp free
      cases chosen : victim s.table with
      | some x =>
        obtain ⟨t, leaves, table⟩ := observation_replaces ready queue found free chosen
        obtain ⟨live, source, unpinned⟩ := victim_is chosen
        have slot : ∀ j, slotAt t.table j = if j = x.ref.slot then ⟨x.ref.generation + 1, some (newSensed s.config o)⟩
            else slotAt s.table j := by
          intro j
          rw [table, slotAt_replaceRecord _ _ _ _ live.1, live.2]
        refine ⟨_, _, t, leaves.run, leaves.world, leaves.config, leaves.pose, leaves.ageing,
          fun l c n near => absurd near (far l c n), fun _ h created hh hcreated =>
            ⟨fun k hk empty => absurd empty (full k hk), fun _ => ⟨fun v vlive vsource vunpinned ages least => ?_,
              fun hosts => ?_⟩⟩, leaves.joined, leaves.change, leaves.delivered⟩
        · obtain rfl := victim_unique chosen vlive vsource vunpinned ages least
          refine ⟨rfl, ?_, fun i other => ?_, ?_⟩
          · rw [slot, if_pos rfl, hmade, newSensed_eq hh]
          · rw [slot, if_neg other]
          · rw [hcreated, createNotice_eq hh]
            rfl
        · rcases hosts x live with host | pinned
          · exact absurd host source
          · exact absurd (pinned.symm.trans unpinned) nofun
      | none =>
        obtain ⟨t, leaves, table⟩ := observation_drops ready queue found free chosen
        refine ⟨_, _, t, leaves.run, leaves.world, leaves.config, leaves.pose, leaves.ageing,
          fun l c n near => absurd near (far l c n), fun _ h created hh hcreated =>
            ⟨fun k hk empty => absurd empty (full k hk), fun _ => ⟨fun v vlive vsource vunpinned _ _ =>
              (victim_none chosen vlive vsource vunpinned).elim, fun _ => ⟨rfl, table, ?_⟩⟩⟩,
          leaves.joined, leaves.change, leaves.delivered⟩
        rw [dropNotice_eq hh]

end Sys2Proof.Machine
end

section
/-! The non-volatile image comes back: what a start-up reads from the bytes that a store wrote (R20, R172, R173). -/

namespace Sys2Proof.Machine

/-! ### Fields of an image -/

theorem toHalf_toInt {v : Int} (lo : -32768 ≤ v) (hi : v ≤ 32767) : (toHalf v).toInt = v := by
  rw [toHalf, BitVec.toInt_ofInt]
  exact Int.bmod_eq_of_le (by omega) (by omega)

theorem toHalf_toNat {v : Nat} (hi : v < 65536) : (toHalf v).toNat = v := by
  rw [toHalf, BitVec.ofInt_natCast, BitVec.toNat_ofNat]
  exact Nat.mod_eq_of_lt hi

theorem toByte_eq {v : Nat} (hi : v < 256) : (toByte v).toNat = v := by
  rw [toByte, BitVec.toNat_ofNat]
  exact Nat.mod_eq_of_lt hi

theorem int16_length (v : Int) : (int16 v).length = 2 := rfl

/-- An offset into blocks of one length lies in its block. -/
theorem getD_flatMap {α : Type} {f : α → List Byte} {m : Nat} (size : ∀ a, (f a).length = m) {xs : List α} {k j : Nat}
    {x : α} (there : xs[k]? = some x) (inside : j < m) (tail : List Byte) :
    (xs.flatMap f ++ tail).getD (m * k + j) 0 = (f x).getD j 0 := by
  induction xs generalizing k with
  | nil => cases there
  | cons y ys ih =>
    rw [List.flatMap_cons, List.append_assoc]
    cases k with
    | zero =>
      cases Option.some.inj there
      rw [Nat.mul_zero, Nat.zero_add, List.getD_append _ _ _ _ (by rw [size]; exact inside)]
    | succ k =>
      rw [List.getD_append_right _ _ _ _ (by rw [size, Nat.mul_succ]; omega), size,
        show m * (k + 1) + j - m = m * k + j by rw [Nat.mul_succ]; omega]
      exact ih there

theorem flatMap_length {α : Type} {f : α → List Byte} {m : Nat} (size : ∀ a, (f a).length = m) (xs : List α) :
    (xs.flatMap f).length = m * xs.length := by
  rw [List.length_flatMap, List.map_congr_left (g := fun _ => m) fun a _ => size a, List.map_const', List.sum_replicate,
    smul_eq_mul, Nat.mul_comm]

theorem filterMap_range_getElem? {α : Type} (xs : List α) : (List.range xs.length).filterMap (fun k => xs[k]?) = xs := by
  induction xs with
  | nil => rfl
  | cons x xs ih =>
    rw [List.length_cons, List.range_succ_eq_map, List.filterMap_cons, List.filterMap_map]
    exact congrArg (x :: ·) ih

theorem halfAt_int16 (v : Int) : halfAt (int16 v) 0 = toHalf v := halfOf_halfBytes _

/-! ### The stored records -/

/-- The hazard that the twelve bytes of a stored record give (R14, R172). -/
def takeStored (cfg : Settings) (block : List Byte) : Option Hazard :=
  takeHazard cfg (block.getD 0 0) (block.getD 9 0) (halfAt block 1) (halfAt block 3) (halfAt block 5) (halfAt block 7)
    (halfAt block 10)

/-- The bytes of a stored record with its fields named (R172). -/
theorem takeStored_fields (cfg : Settings) (kind order : Byte) (g8 g10 g12 g14 limit : Int) :
    takeStored cfg ([kind] ++ (int16 g8 ++ int16 g10 ++ int16 g12 ++ int16 g14) ++ [order] ++ int16 limit) =
      takeHazard cfg kind order (toHalf g8) (toHalf g10) (toHalf g12) (toHalf g14) (toHalf limit) := by
  rw [← halfOf_halfBytes (toHalf g8), ← halfOf_halfBytes (toHalf g10), ← halfOf_halfBytes (toHalf g12),
    ← halfOf_halfBytes (toHalf g14), ← halfOf_halfBytes (toHalf limit)]
  rfl

theorem storedRecord_length (h : Hazard) : (storedRecord h).length = 12 := by
  cases h <;> rfl

theorem clampRoom_toHalf {v : Int} (range : -30000 ≤ v ∧ v ≤ 30000) : clampRoom (toHalf v).toInt = v := by
  rw [toHalf_toInt (by omega) (by omega), clampRoom_eq]
  omega

theorem takeCircle_stored {c : Circle} (range : -30000 ≤ c.cx ∧ c.cx ≤ 30000 ∧ -30000 ≤ c.cy ∧ c.cy ≤ 30000 ∧ c.r ≤ 1000) :
    takeCircle (toHalf c.cx) (toHalf c.cy) (toHalf c.r) = c := by
  obtain ⟨x0, x1, y0, y1, radius⟩ := range
  rw [takeCircle, clampRoom_toHalf ⟨x0, x1⟩, clampRoom_toHalf ⟨y0, y1⟩, toHalf_toNat (by omega), Nat.min_eq_left radius]

theorem takeRect_stored {b : Rect} (range : -30000 ≤ b.x0 ∧ b.x0 ≤ b.x1 ∧ b.x1 ≤ 30000 ∧ -30000 ≤ b.y0 ∧ b.y0 ≤ b.y1 ∧
    b.y1 ≤ 30000 ∧ b.order < 256) :
    takeRect (toByte b.order) (toHalf b.x0) (toHalf b.y0) (toHalf b.x1) (toHalf b.y1) = b := by
  obtain ⟨x0, xs, x1, y0, ys, y1, order⟩ := range
  rw [takeRect, clampRoom_toHalf ⟨x0, by omega⟩, clampRoom_toHalf ⟨by omega, x1⟩, clampRoom_toHalf ⟨y0, by omega⟩,
    clampRoom_toHalf ⟨by omega, y1⟩, toByte_eq order, min_eq_left xs, max_eq_right xs, min_eq_left ys, max_eq_right ys]

theorem takeLimit_stored {cfg : Settings} (ok : speedMax cfg < 65536) {l : Option Nat}
    (range : ∀ v, l = some v → 1 ≤ v ∧ v ≤ speedMax cfg) : takeLimit cfg (toHalf (l.getD 0 : Nat)) = l := by
  cases l with
  | none => rfl
  | some v =>
    obtain ⟨pos, le⟩ := range v rfl
    have nat : (toHalf (v : Int)).toNat = v := toHalf_toNat (by omega)
    have nonzero : toHalf (v : Int) ≠ 0 := by
      intro zero
      rw [zero] at nat
      exact absurd nat (by simp; omega)
    rw [takeLimit, Option.getD_some, if_neg nonzero, nat, Nat.min_eq_left le]

/-- A record comes back from its stored bytes, its fields being in their ranges (R14, R172). -/
theorem takeStored_storedRecord {cfg : Settings} (speed : speedMax cfg < 65536) {h : Hazard} (ok : HazardOk cfg h) :
    takeStored cfg (storedRecord h) = some h := by
  obtain ⟨circle, rect, limit, heading⟩ := ok
  cases h with
  | post c => exact (takeStored_fields ..).trans (congrArg some (congrArg Hazard.post (takeCircle_stored (circle c rfl))))
  | drop c => exact (takeStored_fields ..).trans (congrArg some (congrArg Hazard.drop (takeCircle_stored (circle c rfl))))
  | dock c a =>
    have small : a < 4096 := heading
    have angle : (toHalf (a : Int)).toNat % 4096 = a := by rw [toHalf_toNat (by omega), Nat.mod_eq_of_lt small]
    exact (takeStored_fields ..).trans (congrArg some (congrArg₂ Hazard.dock (takeCircle_stored (circle c rfl)) angle))
  | keepout b => exact (takeStored_fields ..).trans (congrArg some (congrArg Hazard.keepout (takeRect_stored (rect b rfl))))
  | clear b => exact (takeStored_fields ..).trans (congrArg some (congrArg Hazard.clear (takeRect_stored (rect b rfl))))
  | slow b l =>
    exact (takeStored_fields ..).trans
      (congrArg some (congrArg₂ Hazard.slow (takeRect_stored (rect b rfl)) (takeLimit_stored speed limit)))
  | rug b l =>
    exact (takeStored_fields ..).trans
      (congrArg some (congrArg₂ Hazard.rug (takeRect_stored (rect b rfl)) (takeLimit_stored speed limit)))
  | darkRug b l =>
    exact (takeStored_fields ..).trans
      (congrArg some (congrArg₂ Hazard.darkRug (takeRect_stored (rect b rfl)) (takeLimit_stored speed limit)))

/-! ### The image of a snapshot -/

variable {cfg : Settings} {t : Table}

theorem imageData_length (cfg : Settings) (t : Table) :
    (imageData cfg t).length = 95 + 12 * (pinnedHazards t).length := by
  rw [imageData, List.length_append, List.length_append, flatMap_length int16_length,
    flatMap_length storedRecord_length, Vector.length_toList]
  rfl

theorem imageOf_itemByte (cfg : Settings) (t : Table) {k j : Nat} (inside : k < 47) (byte : j < 2) :
    (imageOf cfg t).getD (2 * k + j) 0 = (int16 (item cfg (k + 1))).getD j 0 := by
  have there : cfg.toList[k]? = some (item cfg (k + 1)) := by
    rw [item, Nat.add_sub_cancel, List.getD_eq_getElem _ _ (by simpa using inside), List.getElem?_eq_getElem]
  rw [imageOf, imageData, List.append_assoc, List.append_assoc, getD_flatMap int16_length there byte]

/-- An item of the image reads as it was written (R172). -/
theorem imageOf_item (cfg : Settings) (t : Table) {k : Nat} (inside : k < 47) :
    halfAt (imageOf cfg t) (2 * k) = toHalf (item cfg (k + 1)) := by
  rw [← halfAt_int16]
  exact congrArg₂ halfOf (imageOf_itemByte cfg t inside (by decide : 0 < 2))
    (imageOf_itemByte cfg t inside (by decide : 1 < 2))

theorem imageOf_count (few : (pinnedHazards t).length ≤ 32) : imageCount (imageOf cfg t) = (pinnedHazards t).length := by
  have settings : (cfg.toList.flatMap int16).length = 94 := by
    rw [flatMap_length int16_length, Vector.length_toList]
  rw [imageCount, imageOf, imageData, List.append_assoc, List.append_assoc,
    List.getD_append_right _ _ _ _ (by rw [settings]), settings]
  exact toByte_eq (by omega)

theorem imageOf_good (few : (pinnedHazards t).length ≤ 32) : imageGood (imageOf cfg t) = true := by
  have size := imageData_length cfg t
  have data : (imageOf cfg t).take (95 + 12 * (pinnedHazards t).length) = imageData cfg t := by
    rw [imageOf, ← size, List.take_left]
  have crc : halfAt (imageOf cfg t) (95 + 12 * (pinnedHazards t).length) = crc16 (imageData cfg t) := by
    rw [imageOf, ← size, halfAt, List.getD_append_right _ _ _ _ (by omega), List.getD_append_right _ _ _ _ (by omega),
      Nat.sub_self, Nat.add_sub_cancel_left]
    exact halfOf_halfBytes _
  have long : 95 + 12 * (pinnedHazards t).length + 2 ≤ (imageOf cfg t).length := by
    rw [imageOf, List.length_append, size]
    exact le_rfl
  simp only [imageGood, imageOf_count few, data, crc, few, long, decide_true, Bool.and_self]

/-- The twelve bytes of a record of the image (R172). -/
theorem imageOf_record {k j : Nat} {h : Hazard} (there : (pinnedHazards t)[k]? = some h) (inside : j < 12) :
    (imageOf cfg t).getD (95 + 12 * k + j) 0 = (storedRecord h).getD j 0 := by
  have head : (cfg.toList.flatMap int16 ++ [toByte (pinnedHazards t).length]).length = 95 := by
    rw [List.length_append, flatMap_length int16_length, Vector.length_toList]
    rfl
  rw [imageOf, imageData, List.append_assoc, List.getD_append_right _ _ _ _ (by rw [head]; omega), head, Nat.add_assoc,
    Nat.add_sub_cancel_left, getD_flatMap storedRecord_length there inside]

/-- The hazards of the image are those that were pinned, in their order (R20, R172). -/
theorem imageHazards_imageOf {cfg' : Settings} (few : (pinnedHazards t).length ≤ 32) (speed : speedMax cfg' < 65536)
    (ok : ∀ h, h ∈ pinnedHazards t → HazardOk cfg' h) : imageHazards cfg' (imageOf cfg t) = pinnedHazards t := by
  have each : ∀ k, k ∈ List.range (pinnedHazards t).length →
      takeStored cfg' ((List.range 12).map fun j => (imageOf cfg t).getD (95 + 12 * k + j) 0) = (pinnedHazards t)[k]? := by
    intro k inside
    have there := List.getElem?_eq_getElem (List.mem_range.mp inside)
    rw [there, ← takeStored_storedRecord speed (ok _ (List.getElem_mem _))]
    refine congrArg (takeStored cfg') ?_
    refine List.ext_getElem (by simp [storedRecord_length]) fun j left right => ?_
    rw [List.getElem_map, List.getElem_range, imageOf_record there (by simpa using left), List.getD_eq_getElem]
  have read : imageHazards cfg' (imageOf cfg t) =
      (List.range (pinnedHazards t).length).filterMap fun k =>
        takeStored cfg' ((List.range 12).map fun j => (imageOf cfg t).getD (95 + 12 * k + j) 0) := by
    rw [imageHazards, imageOf_count few]
    rfl
  rw [read, List.filterMap_congr each, filterMap_range_getElem?]

/-! ### The settings -/

/-- An item as start-up finds it: `rug_threshold` stays below `floor_threshold` (log 31). -/
def storedItem (cfg : Settings) (n : Nat) : Int :=
  if n = 20 ∧ item cfg 19 ≤ item cfg 20 then item cfg 19 - 1 else item cfg n

theorem itemRow_fits {k : Nat} (inside : k < 47) : if 23 ≤ k + 1 ∧ k + 1 ≤ 30
    then -32768 ≤ (itemRows.getD k ⟨0, 0, 0⟩).lo ∧ (itemRows.getD k ⟨0, 0, 0⟩).hi ≤ 32767
    else 0 ≤ (itemRows.getD k ⟨0, 0, 0⟩).lo ∧ (itemRows.getD k ⟨0, 0, 0⟩).hi ≤ 65535 := by
  have table : ∀ k : Fin 47, if 23 ≤ k.val + 1 ∧ k.val + 1 ≤ 30
      then -32768 ≤ (itemRows.getD k.val ⟨0, 0, 0⟩).lo ∧ (itemRows.getD k.val ⟨0, 0, 0⟩).hi ≤ 32767
      else 0 ≤ (itemRows.getD k.val ⟨0, 0, 0⟩).lo ∧ (itemRows.getD k.val ⟨0, 0, 0⟩).hi ≤ 65535 := by decide
  exact table ⟨k, inside⟩

/-- An item in its range reads back as it was written (R172). -/
theorem readValue_toHalf (ok : ConfigOk cfg) {k : Nat} (inside : k < 47) :
    readValue (k + 1) (toHalf (item cfg (k + 1))) = item cfg (k + 1) := by
  have range := ok.items k inside
  have fits := itemRow_fits inside
  rw [readValue_eq]
  by_cases signed : 23 ≤ k + 1 ∧ k + 1 ≤ 30
  · rw [if_pos signed] at fits ⊢
    exact toHalf_toInt (by omega) (by omega)
  · rw [if_neg signed] at fits ⊢
    obtain ⟨v, hv⟩ := Int.eq_ofNat_of_zero_le (a := item cfg (k + 1)) (by omega)
    rw [hv, toHalf_toNat (by omega)]

/-- An item in its range is taken as it is, but for a `rug_threshold` that reaches `floor_threshold` (R175, log 31). -/
theorem takeValue_stored (ok : ConfigOk cfg) {cfg' : Settings} {k : Nat} (inside : k < 47)
    (floor : k = 19 → item cfg' 19 = item cfg 19) : takeValue cfg' (k + 1) (item cfg (k + 1)) = storedItem cfg (k + 1) := by
  obtain ⟨row, -, hrow, ordered⟩ := itemRow_of_inside inside
  have range := ok.items k inside
  rw [hrow] at range
  have taken := takeValue_eq (cfg := cfg') (n := k + 1) (row := row) (by rw [Nat.add_sub_cancel, hrow]) ordered
    (sent := item cfg (k + 1)) fun special => by
      have fits := itemRow_fits inside
      rw [if_neg (by omega), hrow] at fits
      omega
  rw [taken, storedItem]
  by_cases link : k + 1 = 44
  · obtain rfl : k = 43 := by omega
    have timeout : (item cfg 44).toNat = 0 ∨ 50 ≤ (item cfg 44).toNat := ok.link_timeout
    obtain rfl : row = ⟨0, 2000, 500⟩ := hrow.symm
    have most : item cfg 44 ≤ 2000 := range.2
    have least : 0 ≤ item cfg 44 := range.1
    simp only [Nat.reduceAdd, if_true, show ¬ (44 : Nat) = 20 by decide, false_and, if_false]
    split_ifs <;> omega
  · by_cases rug : k + 1 = 20
    · obtain rfl : k = 19 := by omega
      obtain rfl : row = ⟨0, 254, 12⟩ := hrow.symm
      have most : item cfg 20 ≤ 254 := range.2
      simp only [Nat.reduceAdd, if_true, show ¬ (20 : Nat) = 44 by decide, true_and, if_false, floor rfl]
      split_ifs <;> omega
    · rw [if_neg link, if_neg rug, if_neg (fun special => rug special.1)]
      omega

/-- The settings of the image, item by item: those read so far, the factory values after them (R172). -/
theorem settings_read (ok : ConfigOk cfg) (t : Table) {m : Nat} (few : m ≤ 47) {n : Nat} (pos : 1 ≤ n) (inside : n ≤ 47) :
    item ((List.range m).foldl (fun c k => setItem c (k + 1) (takeValue c (k + 1) (readValue (k + 1)
      (halfAt (imageOf cfg t) (2 * k))))) factorySettings) n = if n ≤ m then storedItem cfg n else item factorySettings n := by
  induction m generalizing n with
  | zero => rw [if_neg (by omega)]; rfl
  | succ m ih =>
    rw [List.range_succ, List.foldl_append, List.foldl_cons, List.foldl_nil,
      item_setItem _ _ _ _ (Nat.succ_pos m) few pos inside, imageOf_item cfg t few, readValue_toHalf ok few]
    by_cases here : n = m + 1
    · subst here
      rw [if_pos rfl, if_pos le_rfl]
      refine takeValue_stored ok few fun at19 => ?_
      subst at19
      rw [ih (by omega) (by omega) (by omega), if_pos le_rfl, storedItem, if_neg fun special => absurd special.1 (by decide)]
    · rw [if_neg here, ih (by omega) pos inside]
      simp only [show (n ≤ m + 1) = (n ≤ m) from propext (by omega)]

theorem settings_ext {a b : Settings} (same : ∀ n, 1 ≤ n → n ≤ 47 → item a n = item b n) : a = b := by
  refine Vector.ext fun k inside => ?_
  have read : ∀ settings : Settings, item settings (k + 1) = settings[k] := by
    intro settings
    rw [item, Nat.add_sub_cancel, List.getD_eq_getElem _ _ (by simpa using inside)]
    rfl
  rw [← read a, ← read b]
  exact same (k + 1) (Nat.succ_pos k) inside

theorem imageSettings_item (ok : ConfigOk cfg) (t : Table) {n : Nat} (pos : 1 ≤ n) (inside : n ≤ 47) :
    item (imageSettings (imageOf cfg t)) n = storedItem cfg n :=
  (settings_read ok t le_rfl pos inside).trans (if_pos inside)

/-- The settings of the image (R172, log 31). -/
theorem imageSettings_imageOf (ok : ConfigOk cfg) (t : Table) : imageSettings (imageOf cfg t) =
    if rugThreshold cfg < floorThreshold cfg then cfg else setItem cfg 20 ((floorThreshold cfg : Int) - 1) := by
  have floor : (floorThreshold cfg : Int) = item cfg 19 := Int.toNat_of_nonneg (by
    have least : 1 ≤ item cfg 19 := (ok.item_range (n := 18) (by decide) rfl).1
    omega)
  have rug : (rugThreshold cfg : Int) = item cfg 20 := Int.toNat_of_nonneg (ok.item_range (n := 19) (by decide) rfl).1
  refine settings_ext fun n pos inside => ?_
  rw [imageSettings_item ok t pos inside, storedItem]
  by_cases below : rugThreshold cfg < floorThreshold cfg
  · rw [if_pos below, if_neg (by omega)]
  · rw [if_neg below, item_setItem _ _ _ _ (by decide) (by decide) pos inside, floor]
    by_cases here : n = 20
    · rw [if_pos here, if_pos ⟨here, by omega⟩]
    · rw [if_neg here, if_neg (fun both => here both.1)]

/-! ### The table -/

/-- The load places its records in slots that were free, one after the other (R20). -/
theorem slotAt_loadTable (hs : List Hazard) {k : Nat} {u : Table} (room : k + hs.length ≤ 96)
    (free : ∀ j, k ≤ j → slotAt u j = ⟨0, none⟩) (j : Nat) : slotAt (loadTable k hs u) j =
      if j < k then slotAt u j else match hs[j - k]? with
        | some h => ⟨1, some (hostRecord h true 0)⟩
        | none => ⟨0, none⟩ := by
  induction hs generalizing k u with
  | nil =>
    by_cases before : j < k
    · rw [if_pos before]; rfl
    · rw [if_neg before]
      exact free j (by omega)
  | cons h hs ih =>
    rw [List.length_cons] at room
    have placed := fun j => slotAt_placeRecord u k j (hostRecord h true 0) (by omega)
    rw [loadTable, ih (by omega) fun j after => by rw [placed, if_neg (by omega), free j (by omega)]]
    by_cases before : j < k
    · rw [if_pos before, if_pos (by omega), placed, if_neg (by omega)]
    · by_cases here : j = k
      · subst here
        rw [if_pos (by omega), if_neg before, placed, if_pos rfl, free j le_rfl, Nat.sub_self]
        rfl
      · rw [if_neg before, if_neg (by omega), show j - k = (j - (k + 1)) + 1 by omega]
        rfl

theorem pinnedHazards_length (t : Table) : (pinnedHazards t).length = pinnedCount t := by
  have count : ∀ (slots : List Slot) (k : Nat), ((liveFrom k slots).filter fun l => l.record.pinned).length =
      slots.countP fun x => (x.record.map Record.pinned).getD false := by
    intro slots
    induction slots with
    | nil => exact fun _ => rfl
    | cons x xs ih =>
      intro k
      rw [List.countP_cons, ← ih (k + 1)]
      cases record : x.record with
      | none => simp [liveFrom, record]
      | some r => cases pinned : r.pinned <;> simp [liveFrom, record, pinned]
  rw [pinnedHazards, List.length_map]
  exact count t.toList 0

/-- Settles O28: the image of a store is good, its settings are taken as they are, and its records placed in order. -/
theorem storedImageComesBack : Obligations.StoredImageComesBack := by
  intro cfg t ok few hazards
  have pinned : (pinnedHazards t).length ≤ 32 := (pinnedHazards_length t).trans_le few
  have good : goodImage (.written (imageOf cfg t)) = some (imageOf cfg t) := if_pos (imageOf_good pinned)
  have top : speedMax (imageSettings (imageOf cfg t)) = speedMax cfg := by
    rw [speedMax, itemNat, imageSettings_item ok t (by decide) (by decide), storedItem,
      if_neg fun special => absurd special.1 (by decide)]
    rfl
  have speed : speedMax cfg < 65536 := by
    have range : item cfg 5 ≤ 1500 := (ok.item_range (n := 4) (by decide) rfl).2
    rw [speedMax, itemNat]
    omega
  have read : imageHazards (imageSettings (imageOf cfg t)) (imageOf cfg t) = pinnedHazards t :=
    imageHazards_imageOf pinned (top.trans_lt speed) fun h mem => by
      obtain ⟨circle, rect, limit, heading⟩ := hazards h mem
      exact ⟨circle, rect, fun v hv => by rw [top]; exact limit v hv, heading⟩
  have slot : ∀ k, slotAt (startUpTable (.written (imageOf cfg t))) k = match (pinnedHazards t)[k]? with
      | some h => ⟨1, some (hostRecord h true 0)⟩
      | none => ⟨0, none⟩ := by
    intro k
    rw [startUpTable, good]
    dsimp only
    rw [read, slotAt_loadTable _ (by omega) fun j _ => slotAt_freshTable j, if_neg (by omega), Nat.sub_zero]
  refine ⟨?_, fun k inside => ⟨_, List.getElem?_eq_getElem inside, ?_⟩, fun k after => ?_⟩
  · rw [startUpSettings, good]
    exact imageSettings_imageOf ok t
  · rw [slot, List.getElem?_eq_getElem inside]
    rfl
  · rw [slot, List.getElem?_eq_none after]

end Sys2Proof.Machine
end

section
/-! The targets of a slew step (R105 to R107), its setpoints (R103, R104), and what the parts after it leave of them. -/

namespace Sys2Proof.Machine

/-! ### The table of R105 -/

theorem correction_of_hold {cfg : Settings} {base corr : Int} {hold : Option Nat} {heading : Nat}
    (h : HoldCorrection cfg base hold heading corr) : correction cfg base hold heading = corr := by
  cases hold with
  | none => exact Eq.symm h
  | some target =>
    obtain ⟨err, low, high, dvd, value⟩ := h
    have wrapped : headingDiff target heading = err := by
      unfold headingDiff
      omega
    rw [value, correction, wrapped]
    exact clampTo_eq _ _ _ (by omega)

theorem approach_zero (step : Nat) (v : Int) :
    approach 0 step v = if 0 < v then max 0 (v - step) else min 0 (v + step) := by
  unfold approach
  split_ifs <;> omega

theorem steered_of_hold {cfg : Settings} {base corr : Int} {hold : Option Nat} {heading : Nat}
    (h : HoldCorrection cfg base hold heading corr) : steered cfg base hold heading = ⟨base - corr, base + corr⟩ := by
  rw [steered, correction_of_hold h]

/-- With no stop and no unjam the running segment gives the targets (R105). -/
theorem slewTargets_segment {s : State} (stop : s.drive.stop = .none) (unjam : s.drive.unjam = none) :
    slewTargets (advanced s) = segmentTargets (advanced s) := by
  have free : (advanced s).drive.stop = .none := by simp [advanced, advanceStop, stop]
  rw [slewTargets, free]
  dsimp only
  rw [show (advanced s).drive.unjam = none from unjam]

theorem segmentTargets_spin {s : State} {c : Context} {angle : Int} {speed : Nat} (running : s.segments.running = some c)
    (moving : c.phase = .moving) (spin : c.segment.motion = .spin angle speed) :
    segmentTargets s = spinTargets s.config angle speed c.progress := by
  rw [segmentTargets, running]
  dsimp only
  rw [if_neg (by simp [moving]), spin]

theorem segmentTargets_straight {s : State} {c : Context} (running : s.segments.running = some c)
    (moving : c.phase = .moving) (straight : c.segment.motion.isStraight = true) : segmentTargets s =
      steered s.config (c.segment.motion.sigma * (s.clearance.allowance.getD 0 : Nat)) c.holdTarget s.pose.heading := by
  rw [segmentTargets, running]
  dsimp only
  rw [if_neg (by simp [moving])]
  cases motion : c.segment.motion <;> simp [motion, Motion.isStraight] at straight ⊢

theorem segmentTargets_still {s : State} {c : Context} (running : s.segments.running = some c)
    (still : c.phase = .waiting ∨ c.segment.motion.isPause = true) : segmentTargets s = ⟨0, 0⟩ := by
  rw [segmentTargets, running]
  dsimp only
  by_cases held : c.phase = .waiting ∨ c.phase = .stopping
  · rw [if_pos held]
    rfl
  · rw [if_neg held]
    have pause : c.segment.motion.isPause = true := still.resolve_left fun waiting => held (.inl waiting)
    cases motion : c.segment.motion <;> simp [motion, Motion.isPause] at pause
    rfl

/-- The slew step forms its targets by the table, from the stop as it has advanced it (R105). -/
theorem slewTargets_of_row {s : State} {l r : Int} (row : TargetRow s s.pose.heading l r) :
    slewTargets (advanced s) = ⟨l, r⟩ := by
  cases row with
  | stopped stop => rcases stop with stop | stop | stop <;> simp [slewTargets, advanced, advanceStop, stop, bothTargets]
  | backoff stop => rcases stop with stop | ⟨p, stop⟩ <;> simp [slewTargets, advanced, advanceStop, stop, bothTargets, State.sigma]
  | rampFree stop => simp [slewTargets, advanced, advanceStop, stop, bothTargets]
  | rampHeld base moved corr stop hmoved hold =>
    have next : (advanced s).drive.stop = .ramp (some moved) := by
      rw [hmoved, ← approach_zero]
      simp [advanced, advanceStop, stop]
    rw [slewTargets, next]
    exact steered_of_hold hold
  | unjam u stop unjam =>
    have free : (advanced s).drive.stop = .none := by simp [advanced, advanceStop, stop]
    rw [slewTargets, free]
    dsimp only
    rw [show (advanced s).drive.unjam = some u from unjam]
  | idle stop unjam running =>
    rw [slewTargets_segment stop unjam, segmentTargets,
      show (advanced s).segments.running = none from running]
    rfl
  | still c stop unjam running still =>
    rw [slewTargets_segment stop unjam]
    exact segmentTargets_still (s := advanced s) running still
  | spin c angle speed m stop unjam running moving spin hm =>
    rw [slewTargets_segment stop unjam,
      segmentTargets_spin (s := advanced s) running moving spin, spinTargets,
      show (advanced s).config = s.config from rfl]
    push_cast at hm
    rw [hm]
    by_cases left : 0 < angle <;> simp only [left, if_true, if_false]
  | straight c allowance base corr stop unjam running moving straight hallowance hbase hold =>
    rw [slewTargets_segment stop unjam,
      segmentTargets_straight (s := advanced s) running moving straight, ← steered_of_hold hold, hbase]
    have read : (advanced s).clearance.allowance.getD 0 = allowance := by rw [show (advanced s).clearance = s.clearance from rfl, hallowance]; rfl
    rw [read]
    rfl

/-- The table looks at the stop, the unjam, the running segment and the allowance alone (R105). -/
theorem TargetRow.of_same {s u : State} {heading : Nat} {l r : Int} (row : TargetRow s heading l r)
    (stop : u.drive.stop = s.drive.stop) (unjam : u.drive.unjam = s.drive.unjam) (segments : u.segments = s.segments)
    (config : u.config = s.config) (clearance : u.clearance = s.clearance) : TargetRow u heading l r := by
  have sigma : u.sigma = s.sigma := by rw [State.sigma, segments, State.sigma]
  have hold : u.holdTarget = s.holdTarget := by rw [State.holdTarget, segments, State.holdTarget]
  cases row with
  | stopped asked => exact .stopped (by rw [stop]; exact asked)
  | backoff asked =>
    rw [← sigma, ← config]
    exact .backoff (by rw [stop]; exact asked)
  | rampFree asked => exact .rampFree (stop.trans asked)
  | rampHeld base moved corr asked hmoved hcorr =>
    exact .rampHeld base moved corr (stop.trans asked) (by rw [config]; exact hmoved) (by rw [config, hold]; exact hcorr)
  | unjam v free jammed => exact .unjam v (stop.trans free) (unjam.trans jammed)
  | idle free clear none =>
    exact .idle (stop.trans free) (unjam.trans clear) (by rw [segments]; exact none)
  | still c free clear running phase =>
    exact .still c (stop.trans free) (unjam.trans clear) (by rw [segments]; exact running) phase
  | spin c angle speed m free clear running moving motion hm =>
    exact .spin c angle speed m (stop.trans free) (unjam.trans clear) (by rw [segments]; exact running) moving motion
      (by rw [config]; exact hm)
  | straight c allowance base corr free clear running moving motion hallowance hbase hcorr =>
    exact .straight c allowance base corr (stop.trans free) (unjam.trans clear) (by rw [segments]; exact running) moving
      motion (by rw [clearance]; exact hallowance) hbase (by rw [config]; exact hcorr)

/-! ### The rows of R103 and R104 -/

/-- A slew step from 0 (R103, R104). -/
theorem slewed_from_zero {cfg : Settings} {g : Option Guard} {target : Int} :
    slewed cfg g 0 target = if guardHolds g target then 0 else approach target (accelStep cfg) 0 := if_pos rfl

theorem slewed_same_sign {cfg : Settings} {g : Option Guard} {v target : Int} (same : 0 < v * target) :
    slewed cfg g v target = if v.natAbs < target.natAbs then approach target (accelStep cfg) v
      else approach target (decelStep cfg) v := by
  have v0 : v ≠ 0 := by rintro rfl; simp at same
  have sign : signOf v = signOf target := by
    unfold signOf
    rcases mul_pos_iff.mp same with ⟨hv, ht⟩ | ⟨hv, ht⟩ <;> split_ifs <;> omega
  rw [slewed, if_neg v0, if_pos sign]

theorem slewed_other_sign {cfg : Settings} {g : Option Guard} {v target : Int} (v0 : v ≠ 0) (other : v * target ≤ 0) :
    slewed cfg g v target = approach 0 (decelStep cfg) v := by
  have sign : signOf v ≠ signOf target := by
    unfold signOf
    rcases mul_nonpos_iff.mp other with ⟨hv, ht⟩ | ⟨hv, ht⟩ <;> split_ifs <;> omega
  rw [slewed, if_neg v0, if_neg sign]

/-- A slew step moves the setpoint by its row (R103, R104). -/
theorem slewed_of_row {cfg : Settings} {g : Option Guard} {v target w : Int} (row : SlewRow cfg g v target w) :
    slewed cfg g v target = w := by
  cases row with
  | equal same =>
    subst same
    by_cases v0 : v = 0
    · subst v0
      rw [slewed_from_zero, approach]
      split_ifs <;> omega
    · rw [slewed_same_sign (mul_self_pos.mpr v0), if_neg (lt_irrefl _), approach]
      split_ifs <;> omega
  | accelerate t0 from_ free =>
    rcases from_ with rfl | ⟨same, below⟩
    · have loose : guardHolds g target = false := by
        cases guard : g with
        | none => rfl
        | some gd =>
          obtain ⟨positive, negative⟩ := free rfl gd guard
          cases was : gd.wasPositive with
          | true =>
            have := positive was
            simp [guardHolds, was]
            omega
          | false =>
            have := negative was
            simp [guardHolds, was]
            omega
      rw [slewed_from_zero, if_neg (by simp [loose]), approach]
      split_ifs <;> omega
    · rw [slewed_same_sign same, if_pos below, approach]
      rcases mul_pos_iff.mp same with ⟨hv, ht⟩ | ⟨hv, ht⟩ <;> split_ifs <;> omega
  | held gd v0 guard opposite =>
    subst v0
    rw [slewed_from_zero, if_pos]
    rcases opposite with ⟨was, sign⟩ | ⟨was, sign⟩ <;> simp [guardHolds, guard, was, sign]
  | decelerate v0 toward =>
    rcases toward with rfl | ⟨same, below⟩
    · rw [slewed_other_sign v0 (by simp), approach_zero]
    · rw [slewed_same_sign same, if_neg (by omega), approach]
      rcases mul_pos_iff.mp same with ⟨hv, ht⟩ | ⟨hv, ht⟩ <;> split_ifs <;> omega
  | oppose other =>
    rw [slewed_other_sign (by rintro rfl; simp at other) other.le, approach_zero]

/-! ### What ends something in a control period -/

/-- How far an end cause has come: none, CANCELLED, which COMPLETED may replace, or one that stands (R91). -/
def causeRank : Option EndCause → Nat
  | none => 0
  | some e => if e.kind = .cancelled then 1 else 2

/-- The end cause of the running segment. -/
def State.endCause (s : State) : Option EndCause := s.segments.running.bind Context.cause

/-- Something has ended from `s` to `t`: a record was written, PARKED entered, or an end cause set (R90 to R92, R169). -/
def EndsMore (s t : State) : Prop :=
  s.segments.completions.length < t.segments.completions.length ∨
    (s.segments.completions.length = t.segments.completions.length ∧
      ((s.modes.mode ≠ .parked ∧ t.modes.mode = .parked) ∨
        (s.modes.mode = t.modes.mode ∧ causeRank s.endCause < causeRank t.endCause)))

/-- No record was written and no mode and no end cause set from `s` to `t`. -/
structure EndsAlike (s t : State) : Prop where
  completions : t.segments.completions.length = s.segments.completions.length
  mode : t.modes.mode = s.modes.mode
  cause : t.endCause = s.endCause

theorem EndsAlike.refl (s : State) : EndsAlike s s := ⟨rfl, rfl, rfl⟩

theorem EndsAlike.trans {s t u : State} (h : EndsAlike s t) (k : EndsAlike t u) : EndsAlike s u :=
  ⟨k.completions.trans h.completions, k.mode.trans h.mode, k.cause.trans h.cause⟩

theorem EndsMore.alike {s t u : State} (h : EndsMore s t) (k : EndsAlike t u) : EndsMore s u := by
  unfold EndsMore at h ⊢
  rw [k.completions, k.mode, k.cause]
  exact h

theorem EndsAlike.more {s t u : State} (h : EndsAlike s t) (k : EndsMore t u) : EndsMore s u := by
  unfold EndsMore at k ⊢
  rw [h.completions, h.mode, h.cause] at k
  exact k

theorem EndsMore.trans {s t u : State} (h : EndsMore s t) (k : EndsMore t u) : EndsMore s u := by
  rcases h with longer | ⟨length, parked | ⟨mode, cause⟩⟩
  · rcases k with longer' | ⟨length', -⟩
    · exact .inl (longer.trans longer')
    · exact .inl (longer.trans_eq length')
  · rcases k with longer' | ⟨length', parked' | ⟨mode', -⟩⟩
    · exact .inl (length.trans_lt longer')
    · exact absurd parked.2 parked'.1
    · exact .inr ⟨length.trans length', .inl ⟨parked.1, mode'.symm.trans parked.2⟩⟩
  · rcases k with longer' | ⟨length', parked' | ⟨mode', cause'⟩⟩
    · exact .inl (length.trans_lt longer')
    · exact .inr ⟨length.trans length', .inl ⟨mode.trans_ne parked'.1, parked'.2⟩⟩
    · exact .inr ⟨length.trans length', .inr ⟨mode.trans mode', cause.trans cause'⟩⟩

theorem EndsAlike.not_more {s t : State} (h : EndsAlike s t) : ¬ EndsMore s t := by
  unfold EndsMore
  rw [h.completions, h.mode, h.cause]
  rintro (longer | ⟨-, ⟨other, same⟩ | ⟨-, more⟩⟩)
  · exact lt_irrefl _ longer
  · exact other same
  · exact lt_irrefl _ more

/-- The targets of both wheels stand. -/
structure SameTargets (d e : Drive) : Prop where
  left : e.wheels.left.target = d.wheels.left.target
  right : e.wheels.right.target = d.wheels.right.target

theorem SameTargets.refl (d : Drive) : SameTargets d d := ⟨rfl, rfl⟩

theorem SameTargets.trans {d e f : Drive} (h : SameTargets d e) (k : SameTargets e f) : SameTargets d f :=
  ⟨k.left.trans h.left, k.right.trans h.right⟩

/-- A stop that is a BACKOFF in REVERSE. -/
def Stop.reverses (stop : Stop) : Prop := ∃ p, stop = .backoffReverse p

/-- Segments may have started: the targets stand, and no move in REVERSE began. -/
def Started (s t : State) : Prop :=
  EndsMore s t ∨ (EndsAlike s t ∧ SameTargets s.drive t.drive ∧ (t.drive.stop.reverses → s.drive.stop.reverses))

theorem Started.refl (s : State) : Started s s := .inr ⟨.refl s, .refl _, id⟩

theorem Started.trans {s t u : State} (h : Started s t) (k : Started t u) : Started s u := by
  rcases h with more | ⟨alike, targets, stop⟩
  · rcases k with more' | ⟨alike', -⟩
    · exact .inl (more.trans more')
    · exact .inl (more.alike alike')
  · rcases k with more' | ⟨alike', targets', stop'⟩
    · exact .inl (alike.more more')
    · exact .inr ⟨alike.trans alike', targets.trans targets', stop ∘ stop'⟩

/-- Nothing starts: what stood goes on, a BACKOFF move may have come to CLOSE, or something has ended. -/
inductive WentOn (s t : State) : Prop where
  | ended : EndsMore s t → WentOn s t
  | closed : EndsAlike s t → s.drive.stop.reverses → t.drive.stop = .backoffClose → WentOn s t
  | stood : EndsAlike s t → SameTargets s.drive t.drive → (s.drive.stop.reverses ↔ t.drive.stop.reverses) →
      (s.drive.stop = .backoffClose → t.drive.stop = .backoffClose) → WentOn s t

theorem WentOn.refl (s : State) : WentOn s s := .stood (.refl s) (.refl _) Iff.rfl id

theorem WentOn.trans {s t u : State} (h : WentOn s t) (k : WentOn t u) : WentOn s u := by
  cases h with
  | ended more =>
    cases k with
    | ended more' => exact .ended (more.trans more')
    | closed alike' _ _ => exact .ended (more.alike alike')
    | stood alike' _ _ _ => exact .ended (more.alike alike')
  | closed alike reverses close =>
    cases k with
    | ended more' => exact .ended (alike.more more')
    | closed alike' reverses' _ =>
      obtain ⟨p, hp⟩ := reverses'
      exact absurd (close.symm.trans hp) nofun
    | stood alike' _ _ keeps => exact .closed (alike.trans alike') reverses (keeps close)
  | stood alike targets reverse keeps =>
    cases k with
    | ended more' => exact .ended (alike.more more')
    | closed alike' reverses' close => exact .closed (alike.trans alike') (reverse.mpr reverses') close
    | stood alike' targets' reverse' keeps' =>
      exact .stood (alike.trans alike') (targets.trans targets') (reverse.trans reverse') (keeps' ∘ keeps)

theorem wentOn_of_drive {s t : State} (alike : EndsAlike s t) (drive : t.drive = s.drive) : WentOn s t :=
  .stood alike (by rw [drive]; exact .refl _) (by rw [drive]) (by rw [drive]; exact id)

/-! ### The parts of a period but the slew step -/

theorem endCause_running {s : State} {c : Context} (running : s.segments.running = some c) : s.endCause = c.cause := by
  rw [State.endCause, running]
  rfl

/-- The causes that a control period hands on: a segment's own endings and the blocking ones (R64, R65, R77, R161). -/
def EndKind.ofPeriod (kind : EndKind) : Prop :=
  kind = .completed ∨ kind = .dockMissed ∨ kind = .blocked ∨ kind = .blockedZone

theorem replacesCause_ofPeriod {m : Motion} {standing kind : EndKind} (own : kind.ofPeriod)
    (replaces : replacesCause m standing kind = true) : kind = .completed ∧ standing = .cancelled := by
  rcases own with rfl | rfl | rfl | rfl <;> simp_all [replacesCause]

/-- A cause that is taken comes further than the one that stood (R91). -/
theorem causeRank_taken {c : Context} {kind : EndKind} {record : Option Ref} (own : kind.ofPeriod)
    (taken : takesCause c kind = true) : causeRank c.cause < causeRank (some ⟨kind, record⟩) := by
  have high : causeRank (some ⟨kind, record⟩) = 2 := by
    rcases own with rfl | rfl | rfl | rfl <;> rfl
  rw [high]
  cases cause : c.cause with
  | none => decide
  | some old =>
    have replaces : replacesCause c.segment.motion old.kind kind = true := by simpa [takesCause, cause] using taken
    rw [causeRank, if_pos (replacesCause_ofPeriod own replaces).2]
    decide

theorem handCause_wentOn {kind : EndKind} (own : kind.ofPeriod) (record : Option Ref) (s : State) :
    WentOn s (handCause kind record s) := by
  cases running : s.segments.running with
  | none =>
    rw [handCause_idle _ _ _ running]
    exact .refl s
  | some c =>
    cases taken : takesCause c kind with
    | false =>
      rw [handCause_dropped _ _ _ c running taken]
      exact .refl s
    | true =>
      refine .ended (.inr ⟨by simp, .inr ⟨by simp, ?_⟩⟩)
      rw [endCause_running running, endCause_running (c := { c with cause := some ⟨kind, record⟩, phase := .stopping })
        (by rw [handCause_taken _ _ _ c running taken])]
      exact causeRank_taken own taken

theorem ownEnding_ofPeriod {c : Context} {kind : EndKind} (ending : ownEnding c = some kind) : kind.ofPeriod := by
  unfold ownEnding at ending
  repeat' split at ending
  all_goals cases ending
  all_goals simp [EndKind.ofPeriod]

theorem takeProgress_wentOn (tag : Option Nat) (h : Handed) (s : State) : WentOn s (takeProgress tag h s) := by
  cases running : s.segments.running with
  | none =>
    rw [takeProgress_idle tag h running]
    exact .refl s
  | some c =>
    unfold takeProgress
    rw [running]
    dsimp only
    split
    · have grown : WentOn s { s with segments := { s.segments with
          running := some { c with progress := grownProgress h c } } } :=
        wentOn_of_drive ⟨rfl, rfl, (endCause_running running).symm⟩ rfl
      split
      next kind ending => exact grown.trans (handCause_wentOn (ownEnding_ofPeriod ending) none _)
      · exact grown
    · exact .refl s

theorem takeBackoff_wentOn (h : Handed) (s : State) : WentOn s (takeBackoff h s) := by
  have alike : EndsAlike s (takeBackoff h s) := ⟨by simp, by simp, by simp [State.endCause]⟩
  by_cases reverses : s.drive.stop.reverses
  · obtain ⟨p, stop⟩ := id reverses
    by_cases far : (backoffDistance s.config : Int) * 1000 ≤ max 0 (p - s.sigma * h.travel)
    · refine .closed alike reverses ?_
      simp [takeBackoff, stop, far, closeBackoff]
    · have next : (takeBackoff h s).drive = { s.drive with stop := .backoffReverse (max 0 (p - s.sigma * h.travel)) } := by
        simp [takeBackoff, stop, far]
      refine .stood alike (by rw [next]; exact ⟨rfl, rfl⟩) ⟨fun _ => ⟨_, by rw [next]⟩, fun _ => reverses⟩ fun close => ?_
      exact absurd (stop.symm.trans close) nofun
  · have same : takeBackoff h s = s := by
      cases stop : s.drive.stop with
      | backoffReverse p => exact absurd ⟨p, stop⟩ reverses
      | _ => simp [takeBackoff, stop]
    rw [same]
    exact .refl s

theorem evaluate_wentOn (s : State) : WentOn s (evaluate s) := by
  unfold evaluate
  split
  · exact wentOn_of_drive ⟨rfl, rfl, rfl⟩ rfl
  next c _ =>
    have judged : WentOn s { s with clearance := evaluation s c } := wentOn_of_drive ⟨rfl, rfl, rfl⟩ rfl
    refine judged.trans ?_
    unfold handPending
    split
    · exact .refl _
    · exact handCause_wentOn (.inr (.inr (.inl rfl))) _ _
    · exact handCause_wentOn (.inr (.inr (.inr rfl))) _ _

theorem partAction_wentOn (tag : Option Nat) (h : Handed) {part : PeriodPart} (noSlew : part ≠ .slew) (s : State) :
    WentOn s (partAction tag h part s) := by
  cases part with
  | segment => exact takeProgress_wentOn tag h s
  | drive => exact takeBackoff_wentOn h s
  | monitor => exact evaluate_wentOn s
  | slew => exact absurd rfl noSlew

/-! #### What every part leaves of the queues -/

theorem partAction_queue (tag : Option Nat) (h : Handed) (part : PeriodPart) (s : State) :
    (partAction tag h part s).segments.queue = s.segments.queue := by
  cases part with
  | segment => exact (takeProgress_segments tag h s).2.1
  | drive | monitor | slew => simp [partAction]

theorem partAction_completions (tag : Option Nat) (h : Handed) (part : PeriodPart) (s : State) :
    (partAction tag h part s).segments.completions = s.segments.completions := by
  cases part with
  | segment => exact (takeProgress_segments tag h s).2.2
  | drive | monitor | slew => simp [partAction]

theorem partAction_segment (tag : Option Nat) (h : Handed) (part : PeriodPart) (s : State) :
    (partAction tag h part s).segments.running.map Context.segment = s.segments.running.map Context.segment := by
  cases part with
  | segment => exact (takeProgress_segments tag h s).1
  | drive | monitor | slew => simp [partAction]

/-- No part but the slew step moves the setpoints (R102). -/
theorem partAction_stands (tag : Option Nat) (h : Handed) {part : PeriodPart} (noSlew : part ≠ .slew) (s : State) :
    Stands s.drive (partAction tag h part s).drive := by
  cases part with
  | segment => exact (takeProgress_stands tag h s).drive
  | drive => exact (takeBackoff_stands h s).drive
  | monitor => exact (evaluate_stands s).drive
  | slew => exact absurd rfl noSlew

/-- No start is due after a part where none was due before it (R87). -/
theorem partAction_canStart (tag : Option Nat) (h : Handed) {part : PeriodPart} (noSlew : part ≠ .slew) (s : State) :
    (partAction tag h part s).canStart = s.canStart := by
  have drive := partAction_stands tag h noSlew s
  have rest : (partAction tag h part s).atRest = s.atRest := atRest_of_setpoints drive.left_stands drive.right_stands
  have idle := partAction_segment tag h part s
  have queue := partAction_queue tag h part s
  have dock : (partAction tag h part s).dock = s.dock := by cases part <;> simp [partAction]
  have running := congrArg Option.isNone idle
  rw [Option.isNone_map, Option.isNone_map] at running
  simp only [State.canStart, rest, queue, running, dock, partAction_modes]

/-! ### Settling -/

theorem writeRecord_longer {s : State} (due : s.canWrite = true) :
    s.segments.completions.length < (writeRecord s).segments.completions.length := by
  obtain ⟨c, running⟩ := running_of_canWrite s due
  obtain ⟨e, cause⟩ := Option.isSome_iff_exists.mp ((canWrite_iff s c running).mp due).1
  rw [writeRecord_running_eq s c e running cause, List.length_append]
  exact Nat.lt_succ_self _

theorem startSegment_started {s : State} (start : s.canStart = true) : Started s (startSegment s) := by
  obtain ⟨queued, idle, -⟩ := (canStart_iff s).mp start
  obtain ⟨g, rest, queue⟩ := List.exists_cons_of_ne_nil queued
  have none : s.endCause = none := by rw [State.endCause, idle]; rfl
  rcases startSegment_cases queue with ⟨found, started⟩ | ⟨e, ended⟩
  · rw [started]
    refine .inr ⟨⟨rfl, rfl, none.symm⟩, ⟨rfl, rfl⟩, fun ⟨p, reverse⟩ => ?_⟩
    cases (show Stop.none = .backoffReverse p from reverse)
  · rw [ended]
    refine .inl (.inr ⟨rfl, .inr ⟨rfl, ?_⟩⟩)
    rw [none]
    show 0 < if e.kind = .cancelled then 1 else 2
    split <;> decide

theorem settleOnce_started {s : State} (due : (s.canWrite || s.canStart) = true) : Started s (settleOnce s) := by
  by_cases write : s.canWrite = true
  · rw [settleOnce_write write]
    exact .inl (.inl (by simpa using writeRecord_longer write))
  · have start : s.canStart = true := by simpa [write] using due
    rw [settleOnce_start (by simpa using write) start]
    exact startSegment_started start

theorem settleLoop_started (n : Nat) (s : State) : Started s (settleLoop n s) := by
  induction n generalizing s with
  | zero => exact .refl s
  | succ n ih =>
    by_cases due : (s.canWrite || s.canStart) = true
    · rw [settleLoop, if_pos due]
      exact (settleOnce_started due).trans (ih _)
    · rw [settleLoop, if_neg due]
      exact .refl s

theorem parkIfDrained_started (s : State) : Started s (parkIfDrained s) := by
  by_cases parks : s.modes.mode = .parking ∧ s.drained = true
  · have entered : parkIfDrained s = latchModeReached (enterMode .parked s) := if_pos parks
    rw [entered]
    exact .inl (.inr ⟨rfl, .inl ⟨by simp [parks.1], rfl⟩⟩)
  · rw [parkIfDrained_of_not s parks]
    exact .refl s

theorem settle_started (s : State) : Started s (settle s) := (settleLoop_started _ s).trans (parkIfDrained_started _)

/-- With no start due settling leaves a state as it is, or ends something (R92, R169). -/
theorem settle_wentOn {s : State} (noStart : s.canStart = false) : WentOn s (settle s) := by
  by_cases write : s.canWrite = true
  · have first : Started (settleOnce s) (settle s) := by
      have loop : settleLoop (2 * s.segments.queue.length + 2) s =
          settleLoop (2 * s.segments.queue.length + 1) (settleOnce s) := by rw [settleLoop, if_pos (by simp [write])]
      rw [settle, loop]
      exact (settleLoop_started _ _).trans (parkIfDrained_started _)
    have longer : EndsMore s (settleOnce s) := by
      rw [settleOnce_write write]
      exact .inl (by simpa using writeRecord_longer write)
    rcases first with more | ⟨alike, -⟩
    · exact .ended (longer.trans more)
    · exact .ended (longer.alike alike)
  · have done : settleLoop (2 * s.segments.queue.length + 2) s = s :=
      settleLoop_of_done _ s (by simpa using write) noStart
    rw [settle, done]
    by_cases parks : s.modes.mode = .parking ∧ s.drained = true
    · have entered : parkIfDrained s = latchModeReached (enterMode .parked s) := if_pos parks
      rw [entered]
      exact .ended (.inr ⟨rfl, .inl ⟨by simp [parks.1], rfl⟩⟩)
    · rw [parkIfDrained_of_not s parks]
      exact .refl s

/-- How many records and starts a state may still have due. -/
def stepsLeft (s : State) : Nat :=
  if s.segments.running.isSome then max 1 (2 * s.segments.queue.length - 1) else 2 * s.segments.queue.length

theorem settleOnce_stepsLeft {s : State} (due : (s.canWrite || s.canStart) = true) :
    stepsLeft (settleOnce s) < stepsLeft s := by
  by_cases write : s.canWrite = true
  · obtain ⟨c, running⟩ := running_of_canWrite s write
    have after : stepsLeft (settleOnce s) = 2 * s.segments.queue.tail.length := by
      simp [settleOnce_write write, stepsLeft, writeRecord_running s write, writeRecord_queue s write]
    rw [after, stepsLeft, running, List.length_tail]
    simp only [Option.isSome_some, if_true]
    omega
  · have start : s.canStart = true := by simpa [write] using due
    obtain ⟨queued, idle, -⟩ := (canStart_iff s).mp start
    obtain ⟨g, rest, queue⟩ := List.exists_cons_of_ne_nil queued
    have started : (startSegment s).segments.running.isSome = true := by
      have := startSegment_segment s g rest queue
      cases running : (startSegment s).segments.running <;> simp [running] at this ⊢
    have length : 0 < s.segments.queue.length := by rw [queue]; exact Nat.succ_pos _
    rw [settleOnce_start (by simpa using write) start, stepsLeft, stepsLeft, started, idle, startSegment_queue]
    simp only [if_true, Option.isSome_none, Bool.false_eq_true, if_false]
    omega

/-- Settling has fuel enough over any queue: no start is due after it (R87). -/
theorem settleLoop_finishes {n : Nat} {s : State} (enough : stepsLeft s ≤ n) :
    (settleLoop n s).canStart = false := by
  induction n generalizing s with
  | zero =>
    have empty : s.segments.queue = [] := by
      have : s.segments.queue.length = 0 := by
        unfold stepsLeft at enough
        split at enough <;> omega
      exact List.eq_nil_of_length_eq_zero this
    exact canStart_of_no_queue s empty
  | succ n ih =>
    by_cases due : (s.canWrite || s.canStart) = true
    · rw [settleLoop, if_pos due]
      have := settleOnce_stepsLeft due
      exact ih (by omega)
    · rw [settleLoop, if_neg due]
      exact (by simpa using due : s.canWrite = false ∧ s.canStart = false).2

theorem settle_noStart (s : State) : (settle s).canStart = false := by
  have finished : (settleLoop (2 * s.segments.queue.length + 2) s).canStart = false := by
    refine settleLoop_finishes ?_
    unfold stepsLeft
    split <;> omega
  rw [settle]
  generalize settleLoop (2 * s.segments.queue.length + 2) s = u at finished
  by_cases parks : u.modes.mode = .parking ∧ u.drained = true
  · obtain ⟨empty, -⟩ := drained_iff.mp parks.2
    exact canStart_of_no_queue _ (by simpa using empty)
  · rw [parkIfDrained_of_not u parks]
    exact finished

/-- Over the parts after the slew step what stood goes on, or something ends. -/
theorem periodParts_wentOn (tag : Option Nat) (h : Handed) (parts : List PeriodPart) {s : State}
    (noSlew : PeriodPart.slew ∉ parts) (noStart : s.canStart = false) :
    WentOn s (parts.foldl (fun t part => periodPart tag h part t) s) := by
  induction parts generalizing s with
  | nil => exact .refl s
  | cons part parts ih =>
    have notSlew : part ≠ .slew := fun is => noSlew (is ▸ List.mem_cons_self)
    have acted : WentOn s (periodPart tag h part s) := by
      rw [periodPart_eq]
      exact (partAction_wentOn tag h notSlew s).trans
        (settle_wentOn ((partAction_canStart tag h notSlew s).trans noStart))
    refine acted.trans (ih (fun mem => noSlew (List.mem_cons_of_mem _ mem)) ?_)
    rw [periodPart_eq]
    exact settle_noStart _

/-- Where a period ends nothing after its slew step, the targets stand. -/
theorem targets_stand {w t : State} (started : Started w (settle w)) (later : WentOn (settle w) t)
    (alike : EndsAlike w t) (noClose : t.drive.stop = .backoffClose → w.drive.stop = .backoffClose) :
    SameTargets w.drive t.drive := by
  rcases started with more | ⟨alike', targets, reverses⟩
  · refine absurd ?_ alike.not_more
    cases later with
    | ended more' => exact more.trans more'
    | closed alike' _ _ => exact more.alike alike'
    | stood alike' _ _ _ => exact more.alike alike'
  · cases later with
    | ended more => exact absurd (alike'.more more) alike.not_more
    | closed _ reverse close =>
      obtain ⟨p, stop⟩ := reverses reverse
      exact absurd (stop.symm.trans (noClose close)) nofun
    | stood _ targets' _ _ => exact targets.trans targets'

/-- Settles O42: the slew step takes the table's row, and what follows it in the period leaves the setpoints. -/
theorem wheelTargetsFollowTheTable : Obligations.WheelTargetsFollowTheTable := by
  intro rest s ready wf
  have perm : (PeriodPart.slew :: rest).Perm canonicalOrder := List.isPerm_iff.mp wf
  have noSlew : PeriodPart.slew ∉ rest :=
    (List.nodup_cons.mp (perm.nodup_iff.mpr (by decide))).1
  obtain ⟨u, hu⟩ : ∃ u, u = periodUpdate s := ⟨_, rfl⟩
  obtain ⟨t, ht⟩ : ∃ t, t = rest.foldl (fun t part => periodPart s.runningTag (handedOn s) part t) (settle (slewStep u)) :=
    ⟨_, rfl⟩
  have effect : controlPeriodEffect (.slew :: rest) s = t := by
    rw [controlPeriodEffect, orderOf_wellFormed wf, ht, hu]
    rfl
  have drive : u.drive = { s.drive with periodMs := 0 } := by rw [hu]; simp [periodUpdate]
  have config : u.config = s.config := by rw [hu]; simp [periodUpdate]
  have segments : u.segments = s.segments := by rw [hu]; simp [periodUpdate]
  have clearance : u.clearance = s.clearance := by rw [hu]; simp [periodUpdate]
  have modes : u.modes = s.modes := by rw [hu]; simp [periodUpdate]
  have floor : u.floor = s.floor := by rw [hu]; simp [periodUpdate]
  have held : u.heldAtRest = s.heldAtRest := by simp [State.heldAtRest, State.lifted, modes, floor]
  have stands : Stands (slewStep u).drive t.drive :=
    ht ▸ ((settle_stands _).thenStands (periodParts_stand _ _ rest _ noSlew)).drive
  have pose : t.pose = u.pose := by rw [ht, periodFold_pose, settle_pose, slewStep_pose]
  refine ⟨_, exec_effect rfl ready effect, fun rests => ?_, fun free l r cl cr row hl hr => ?_⟩
  · obtain ⟨still, zero⟩ := slewStep_rest (s := u) (held.trans rests)
    obtain ⟨left, right⟩ := (atRest_iff _).mp still
    have zero' := stands.keepsZero zero
    exact ⟨stands.left_stands.trans left, stands.right_stands.trans right, zero'.left, zero'.right⟩
  · have urow : TargetRow u u.pose.heading l r := by
      rw [refresh_pose, pose] at row
      exact row.of_same (by rw [drive]) (by rw [drive]) segments config clearance
    have wheels : (slewStep u).drive.wheels = ⟨slewWheel s.config u.onRug l s.drive.wheels.left,
        slewWheel s.config u.onRug r s.drive.wheels.right⟩ := by
      rw [slewStep_of_free (held.trans free), slewWheels, slewTargets_of_row urow, ← config]
      simp only [advanced, drive]
      rfl
    have clampedLeft : clampTo (-(speedMax s.config : Int)) (speedMax s.config) l = cl := by
      rw [hl, clampTo_eq _ _ _ (by omega)]
    have clampedRight : clampTo (-(speedMax s.config : Int)) (speedMax s.config) r = cr := by
      rw [hr, clampTo_eq _ _ _ (by omega)]
    have leftTarget : (slewStep u).drive.wheels.left.target = cl := by rw [wheels, slewWheel_target, clampedLeft]
    have rightTarget : (slewStep u).drive.wheels.right.target = cr := by rw [wheels, slewWheel_target, clampedRight]
    refine ⟨fun nothing => ?_, ?_, fun v rowLeft => ?_, fun v rowRight => ?_⟩
    · have later := periodParts_wentOn s.runningTag (handedOn s) rest noSlew (settle_noStart (slewStep u))
      rw [← ht] at later
      have alike : EndsAlike (slewStep u) t := ⟨by rw [slewStep_segments, segments]; exact congrArg List.length nothing.completions,
        by rw [slewStep_modes, modes]; exact nothing.mode,
        by rw [State.endCause, State.endCause, slewStep_segments, segments]; exact nothing.cause⟩
      have same := targets_stand (settle_started _) later alike fun close => by
        rw [slewStep_stop, drive, show s.drive.stop = .backoffClose from nothing.no_close close]
        rfl
      exact ⟨same.left.trans leftTarget, same.right.trans rightTarget⟩
    · rcases stands.targets with ⟨left, right⟩ | zero
      · exact .inl ⟨left.trans leftTarget, right.trans rightTarget⟩
      · exact .inr zero
    · refine stands.left_stands.trans ?_
      rw [wheels, slewWheel_setpoint, clampedLeft]
      exact slewed_of_row rowLeft
    · refine stands.right_stands.trans ?_
      rw [wheels, slewWheel_setpoint, clampedRight]
      exact slewed_of_row rowRight

end Sys2Proof.Machine
end

section
/-! A control period as it acts on the running segment: part by part until its record is written (R77 to R80, R92, R110). -/

namespace Sys2Proof.Machine

/-! ### Queues through a period -/

/-- Segments leave the head of the queue alone, and records join. -/
structure Shrinks (s t : State) : Prop where
  queue : t.segments.queue <:+ s.segments.queue
  completions : ∃ more, t.segments.completions = s.segments.completions ++ more

theorem Shrinks.trans {s t u : State} (h : Shrinks s t) (k : Shrinks t u) : Shrinks s u := by
  obtain ⟨a, ha⟩ := h.completions
  obtain ⟨b, hb⟩ := k.completions
  exact ⟨k.queue.trans h.queue, a ++ b, by rw [hb, ha, List.append_assoc]⟩

theorem shrinks_of_same {s t : State} (queue : t.segments.queue = s.segments.queue)
    (completions : t.segments.completions = s.segments.completions) : Shrinks s t :=
  ⟨queue ▸ List.suffix_rfl, [], by rw [completions, List.append_nil]⟩

theorem settleOnce_shrinks (s : State) : Shrinks s (settleOnce s) := by
  refine ⟨?_, settleOnce_completions s⟩
  by_cases write : s.canWrite = true
  · rw [settleOnce_write write, leaveStopping_segments, writeRecord_queue s write]
    exact List.tail_suffix _
  · by_cases start : s.canStart = true
    · rw [settleOnce_start (by simpa using write) start, startSegment_queue]
    · rw [settleOnce, if_neg write, if_neg start]

theorem settleLoop_shrinks (n : Nat) (s : State) : Shrinks s (settleLoop n s) := by
  induction n generalizing s with
  | zero => exact shrinks_of_same rfl rfl
  | succ n ih =>
    rw [settleLoop]
    split
    · exact (settleOnce_shrinks s).trans (ih _)
    · exact shrinks_of_same rfl rfl

theorem settle_shrinks (s : State) : Shrinks s (settle s) :=
  (settleLoop_shrinks _ s).trans (shrinks_of_same (by rw [settle, parkIfDrained_segments]) (by rw [settle, parkIfDrained_segments]))

/-- Settling a state whose record is due goes on from the record (R92). -/
theorem settle_due_shrinks {s : State} (due : s.canWrite = true) : Shrinks (writeRecord s) (settle s) := by
  have loop : settleLoop (2 * s.segments.queue.length + 2) s =
      settleLoop (2 * s.segments.queue.length + 1) (leaveStopping (writeRecord s)) := by
    rw [settleLoop, if_pos (by simp [due]), settleOnce_write due]
  have left : Shrinks (writeRecord s) (leaveStopping (writeRecord s)) :=
    shrinks_of_same (by rw [leaveStopping_segments]) (by rw [leaveStopping_segments])
  have rest := left.trans (settleLoop_shrinks (2 * s.segments.queue.length + 1) _)
  rw [← loop] at rest
  exact rest.trans (shrinks_of_same (by rw [settle, parkIfDrained_segments]) (by rw [settle, parkIfDrained_segments]))

theorem periodPart_shrinks (tag : Option Nat) (h : Handed) (part : PeriodPart) (s : State) :
    Shrinks s (periodPart tag h part s) := by
  rw [periodPart_eq]
  exact (shrinks_of_same (partAction_queue tag h part s) (partAction_completions tag h part s)).trans (settle_shrinks _)

theorem periodParts_shrinks (tag : Option Nat) (h : Handed) (parts : List PeriodPart) (s : State) :
    Shrinks s (parts.foldl (fun t part => periodPart tag h part t) s) := by
  induction parts generalizing s with
  | nil => exact shrinks_of_same rfl rfl
  | cons part parts ih => exact (periodPart_shrinks tag h part s).trans (ih _)

/-! ### The parts with nothing settled between them -/

/-- The parts of a period one after the other, with nothing settled between them. -/
def acted (tag : Option Nat) (h : Handed) (parts : List PeriodPart) (s : State) : State :=
  parts.foldl (fun t part => partAction tag h part t) s

theorem acted_segments (tag : Option Nat) (h : Handed) (parts : List PeriodPart) (s : State) :
    (acted tag h parts s).segments.queue = s.segments.queue ∧
      (acted tag h parts s).segments.completions = s.segments.completions ∧
      (acted tag h parts s).segments.running.map Context.segment = s.segments.running.map Context.segment := by
  induction parts generalizing s with
  | nil => exact ⟨rfl, rfl, rfl⟩
  | cons part parts ih =>
    obtain ⟨queue, completions, running⟩ := ih (partAction tag h part s)
    exact ⟨queue.trans (partAction_queue tag h part s), completions.trans (partAction_completions tag h part s),
      running.trans (partAction_segment tag h part s)⟩

theorem acted_append (tag : Option Nat) (h : Handed) (first last : List PeriodPart) (s : State) :
    acted tag h (first ++ last) s = acted tag h last (acted tag h first s) := List.foldl_append ..

/-- A property of the parts that have acted, carried from part to part. -/
theorem acted_invariant {tag : Option Nat} {h : Handed} {parts : List PeriodPart} {s : State}
    {P : List PeriodPart → State → Prop} (start : P [] s)
    (step : ∀ before part after t, parts = before ++ part :: after → P before t → P (before ++ [part]) (partAction tag h part t))
    (before after : List PeriodPart) (split : parts = before ++ after) : P before (acted tag h before s) := by
  induction before using List.reverseRecOn generalizing after with
  | nil => exact start
  | append_singleton before part ih =>
    rw [List.append_assoc] at split
    rw [acted_append]
    exact step before part after _ split (ih _ split)

/-- What came before a part of the order, by its place (log 7). -/
theorem mem_before_iff {parts before after : List PeriodPart} {part other : PeriodPart} (nodup : parts.Nodup)
    (split : parts = before ++ part :: after) : other ∈ before ↔ parts.idxOf other < parts.idxOf part := by
  subst split
  obtain ⟨-, -, apart⟩ := List.nodup_append.mp nodup
  have absent : part ∉ before := fun mem => apart _ mem _ List.mem_cons_self rfl
  rw [List.idxOf_append_of_notMem absent, List.idxOf_cons_self, Nat.add_zero]
  by_cases mem : other ∈ before
  · rw [List.idxOf_append_of_mem mem]
    exact ⟨fun _ => List.idxOf_lt_length_of_mem mem, fun _ => mem⟩
  · rw [List.idxOf_append_of_notMem mem]
    exact ⟨fun other => absurd other mem, fun less => absurd less (by omega)⟩

/-- A period either only acts on the running segment `g`, or writes its record at a first part where that is due; `g` is
gone then, and its record stands (R92). -/
theorem periodParts_split (tag : Option Nat) (h : Handed) {g : Segment} (parts : List PeriodPart) {s : State}
    (running : s.segments.running.map Context.segment = some g) (ok : SegmentsOk s.segments) :
    (parts.foldl (fun t part => periodPart tag h part t) s = acted tag h parts s ∧
      ∀ before after, parts = before ++ after → before ≠ [] → (acted tag h before s).canWrite = false) ∨
    ∃ before after, parts = before ++ after ∧ before ≠ [] ∧ (acted tag h before s).canWrite = true ∧
      Shrinks (writeRecord (acted tag h before s)) (parts.foldl (fun t part => periodPart tag h part t) s) := by
  induction parts generalizing s with
  | nil => exact .inl ⟨rfl, fun before after split nonempty => absurd (List.append_eq_nil_iff.mp split.symm).1 nonempty⟩
  | cons part parts ih =>
    obtain ⟨w, hw⟩ : ∃ w, w = partAction tag h part s := ⟨_, rfl⟩
    have wrunning : w.segments.running.map Context.segment = some g := by rw [hw, partAction_segment, running]
    have wok : SegmentsOk w.segments := hw ▸ partAction_ok tag h part ok
    have next : periodPart tag h part s = settle w := by rw [periodPart_eq, hw]
    rw [List.foldl_cons, next]
    cases due : w.canWrite with
    | true =>
      have only : acted tag h [part] s = w := hw.symm
      refine .inr ⟨[part], parts, rfl, List.cons_ne_nil _ _, only ▸ due, ?_⟩
      rw [only]
      exact (settle_due_shrinks due).trans (periodParts_shrinks tag h parts _)
    | false =>
      obtain ⟨c, wc⟩ : ∃ c, w.segments.running = some c := by
        cases is : w.segments.running with
        | none => simp [is] at wrunning
        | some c => exact ⟨c, rfl⟩
      obtain ⟨rest, queue⟩ := wok.queue_of_running wc
      have settled : settle w = w := settle_of_no_write w c wc due (by simp [queue])
      rw [settled]
      rcases ih wrunning wok with ⟨same, noWrite⟩ | ⟨before, after, split, nonempty, due', shrinks⟩
      · refine .inl ⟨by rw [same, hw]; rfl, fun before after split nonempty => ?_⟩
        obtain ⟨tail, rfl, htail⟩ : ∃ tail, before = part :: tail ∧ parts = tail ++ after := by
          cases before with
          | nil => exact absurd rfl nonempty
          | cons first tail =>
            obtain ⟨rfl, rfl⟩ := List.cons_eq_cons.mp split
            exact ⟨tail, rfl, rfl⟩
        show (acted tag h tail (partAction tag h part s)).canWrite = false
        rw [← hw]
        cases tail with
        | nil => exact due
        | cons first tail => exact noWrite _ after htail (List.cons_ne_nil _ _)
      · refine .inr ⟨part :: before, after, by rw [split]; rfl, List.cons_ne_nil _ _, ?_, ?_⟩
        · show (acted tag h before (partAction tag h part s)).canWrite = true
          rw [← hw]
          exact due'
        · show Shrinks (writeRecord (acted tag h before (partAction tag h part s))) _
          rw [← hw]
          exact shrinks

/-- A segment whose record was written does not run again: the tags of the queue differ (R73, R92). -/
theorem gone_of_shrinks {w t : State} {g : Segment} (ok : SegmentsOk w.segments)
    (running : w.segments.running.map Context.segment = some g) (due : w.canWrite = true)
    (shrinks : Shrinks (writeRecord w) t) (tok : SegmentsOk t.segments) {e : Context}
    (runs : t.segments.running = some e) : e.segment ≠ g := by
  obtain ⟨c, wc⟩ := running_of_canWrite w due
  obtain rfl : c.segment = g := by simpa [wc] using running
  obtain ⟨rest, queue⟩ := ok.queue_of_running wc
  obtain ⟨tail, tqueue⟩ := tok.queue_of_running runs
  have left : e.segment ∈ rest := by
    have mem : e.segment ∈ t.segments.queue := by simp [tqueue]
    have sub := shrinks.queue.subset mem
    rw [writeRecord_queue w due, queue] at sub
    exact sub
  intro same
  have distinct := ok.tags_distinct
  rw [queue, List.map_cons] at distinct
  exact (List.nodup_cons.mp distinct).1 (same ▸ List.mem_map_of_mem left)

end Sys2Proof.Machine
end

section
/-! The progress that a control period gives the running segment, and the endings it leads to (R77 to R80, R110, R161). -/

namespace Sys2Proof.Machine

variable {h : Handed} {z : State} {e : Context}

/-! ### One part on the running segment -/

theorem combineStop_ramp_later {cfg : Settings} {straight held : Bool} {d : Drive} (stop : d.stop ≠ .none) :
    combineStop cfg straight held .ramp d = d := by
  cases is : d.stop with
  | none => exact absurd is stop
  | _ => simp [combineStop, is]

theorem combineStop_ramp_first {cfg : Settings} {straight : Bool} {hold : Option Nat} {d : Drive} (stop : d.stop = .none) :
    combineStop cfg straight hold.isSome .ramp d = rampFrom hold d :=
  (combineStop_none _ _ _ _ _ stop).trans (beginRamp_eq hold d)

theorem rampBaseOf_rampFrom (hold : Option Nat) (d : Drive) : rampBaseOf hold (rampFrom hold d) = rampBaseOf hold d := by
  obtain ⟨left, right⟩ := rampFrom_wheels hold d
  cases hold with
  | none => rfl
  | some _ => rw [rampBaseOf, rampBaseOf, left, right]

/-- A context after a period's travel and turn (R77, R79). -/
def progressed (h : Handed) (e : Context) : Context := { e with progress := grownProgress h e }

/-- The ending of its own that a running segment reaches and takes (R77, R79, R91). -/
def endsWith (h : Handed) (e : Context) : Option EndKind := (ownEnding (progressed h e)).filter (takesCause e)

theorem takeProgress_goes (running : z.segments.running = some e) (goes : endsWith h e = none) :
    takeProgress (some e.segment.tag) h z =
      { z with segments := { z.segments with running := some (progressed h e) } } := by
  unfold takeProgress
  rw [running]
  dsimp only
  rw [if_pos rfl]
  split
  next kind ending =>
    have dropped : takesCause e kind = false := by
      have out : (ownEnding (progressed h e)).filter (takesCause e) = none := goes
      rw [show ownEnding (progressed h e) = some kind from ending] at out
      simpa using out
    exact handCause_dropped _ _ _ (progressed h e) rfl dropped
  · rfl

theorem ownEnding_ramp {cfg : Settings} {kind : EndKind} (ending : ownEnding e = some kind) :
    stopForCause cfg e.segment.motion kind = some .ramp := by
  unfold ownEnding at ending
  cases motion : e.segment.motion <;> simp only [motion] at ending <;> (repeat' split at ending) <;> cases ending <;> rfl

theorem takeProgress_ends {kind : EndKind} (running : z.segments.running = some e) (ends : endsWith h e = some kind) :
    takeProgress (some e.segment.tag) h z = { z with
      segments := { z.segments with running := some (withCause (progressed h e) kind none) }
      drive := combineStop z.config e.segment.motion.isStraight e.holdTarget.isSome .ramp z.drive } := by
  obtain ⟨ending, takes⟩ := Option.filter_eq_some_iff.mp ends
  have own := ownEnding_ofPeriod ending
  unfold takeProgress
  rw [running]
  dsimp only
  rw [if_pos rfl]
  split
  next other is =>
    obtain rfl : kind = other := Option.some.inj (ending.symm.trans is)
    rw [handCause_taken _ _ _ (progressed h e) rfl takes, dropPendingResponse_other _ _
      (by rcases own with rfl | rfl | rfl | rfl <;> simp) (by rcases own with rfl | rfl | rfl | rfl <;> simp)]
    dsimp only
    have ramp := ownEnding_ramp (cfg := z.config) ending
    rw [show stopForCause z.config (progressed h e).segment.motion kind = some .ramp from ramp]
    rfl
  next none => exact absurd (ending.symm.trans none) nofun

/-- An evaluation leaves the running segment, or blocks a LINE or a DOCK that has no cause (R64, R65, R91). -/
theorem evaluate_acts (running : z.segments.running = some e) : ∃ judged,
    evaluate z = { z with clearance := judged } ∨
      (e.cause = none ∧ e.segment.motion.isStraight = true ∧ ∃ x : EndCause, (x.kind = .blocked ∨ x.kind = .blockedZone) ∧
        evaluate z = { z with
          clearance := judged
          segments := { z.segments with running := some (withCause e x.kind x.record) }
          drive := combineStop z.config e.segment.motion.isStraight e.holdTarget.isSome .ramp z.drive }) := by
  have hand (kind : EndKind) (record : Option Ref) (own : kind = .blocked ∨ kind = .blockedZone) (judged : Clearance)
      (first : e.cause = none) : handCause kind record { z with clearance := judged } = { z with
        clearance := judged
        segments := { z.segments with running := some (withCause e kind record) }
        drive := combineStop z.config e.segment.motion.isStraight e.holdTarget.isSome .ramp z.drive } := by
    rw [handCause_taken kind record { z with clearance := judged } e running (takesCause_first e kind first)]
    rcases own with rfl | rfl <;> rfl
  rcases isStraight_or e.segment.motion with straight | turning
  · refine ⟨evaluation z e, ?_⟩
    by_cases first : e.cause = none
    · rw [evaluate_straight z e running straight]
      unfold handPending
      split
      · exact .inl rfl
      next r _ => exact .inr ⟨first, straight, ⟨.blocked, some r⟩, .inl rfl, hand _ _ (.inl rfl) _ first⟩
      next r _ => exact .inr ⟨first, straight, ⟨.blockedZone, some r⟩, .inr rfl, hand _ _ (.inr rfl) _ first⟩
    · exact .inl (evaluate_stopping running straight first)
  · refine ⟨freshClearance, .inl (evaluate_of_not_straight z (straightRunning_none z fun d is => ?_))⟩
    cases Option.some.inj (running.symm.trans is)
    exact turning

theorem takeBackoff_other (stop : ¬ z.drive.stop.reverses) : takeBackoff h z = z := by
  cases is : z.drive.stop with
  | backoffReverse p => exact absurd ⟨p, is⟩ stop
  | _ => simp [takeBackoff, is]

theorem takeBackoff_reverse {p : Int} (stop : z.drive.stop = .backoffReverse p) (running : z.segments.running = some e) :
    takeBackoff h z = { z with drive :=
      if (backoffDistance z.config : Int) * 1000 ≤ max 0 (p - e.segment.motion.sigma * h.travel) then closeBackoff z.drive
      else { z.drive with stop := .backoffReverse (max 0 (p - e.segment.motion.sigma * h.travel)) } } := by
  rw [takeBackoff, stop, show z.sigma = e.segment.motion.sigma by rw [State.sigma, running]; rfl]

/-- What a segment's own ending calls for, in the terms of the statements (R77, R79, R161). -/
theorem ownEnding_iff {kind : EndKind} : ownEnding e = some kind ↔ ReachedEnding e.segment.motion e.progress kind := by
  unfold ownEnding ReachedEnding remainingMm travelledMm truncDiv
  cases motion : e.segment.motion with
  | line r distance speed hold =>
    show (if (distance : Int) - _ ≤ 2 then _ else _) = _ ↔ _
    split <;> simp_all [eq_comm]
  | dock distance speed =>
    show (if (distance : Int) - _ ≤ 0 then _ else _) = _ ↔ _
    split <;> simp_all [eq_comm]
  | spin angle speed =>
    dsimp only
    split <;> split <;> simp_all [eq_comm]
  | pause time => simp

/-! ### The running segment from part to part -/

/-- The part that a period's segment belongs to has acted (log 7). -/
def grownBy (h : Handed) (c : Context) (before : List PeriodPart) : Int :=
  if .segment ∈ before then grownProgress h c else c.progress

/-- The running segment once the parts `before` have acted: its progress is the only item that they must have changed,
and the record, the retries and the time are those of the period's start (R74, R77, R79). -/
structure Followed (h : Handed) (c : Context) (s : State) (before : List PeriodPart) (z : State) (e : Context) : Prop where
  running : z.segments.running = some e
  segment : e.segment = c.segment
  progress : e.progress = grownBy h c before
  startHeading : e.startHeading = c.startHeading
  holdTarget : e.holdTarget = c.holdTarget
  cancelSeen : e.cancelSeen = c.cancelSeen
  retries : z.drive.retries = s.drive.retries
  time : z.link.timeBase = s.link.timeBase
  config : z.config = s.config
  pending : z.floor.resultPending = s.floor.resultPending

variable {c : Context} {s : State} {order before after : List PeriodPart} {part : PeriodPart}

theorem grownBy_segment (h : Handed) (c : Context) (before : List PeriodPart) :
    grownBy h c (before ++ [.segment]) = grownProgress h c := if_pos (by simp)

theorem grownBy_other (h : Handed) (c : Context) (before : List PeriodPart) (other : part ≠ .segment) :
    grownBy h c (before ++ [part]) = grownBy h c before := by
  unfold grownBy
  simp [other.symm]

theorem grownProgress_of_same (segment : e.segment = c.segment) (progress : e.progress = c.progress) :
    grownProgress h e = grownProgress h c := by
  unfold grownProgress
  rw [segment, progress]

theorem not_mem_of_split (nodup : order.Nodup) (split : order = before ++ part :: after) : part ∉ before := by
  subst split
  exact fun mem => (List.nodup_append.mp nodup).2.2 _ mem _ List.mem_cons_self rfl

theorem Followed.segment_progress (followed : Followed h c s before z e) (absent : .segment ∉ before) :
    grownProgress h e = grownProgress h c :=
  grownProgress_of_same followed.segment (followed.progress.trans (if_neg absent))

theorem combineStop_ramp_retries (cfg : Settings) (straight held : Bool) (d : Drive) :
    (combineStop cfg straight held .ramp d).retries = d.retries := by
  unfold combineStop
  cases d.stop <;> simp [beginRamp]
  split <;> rfl

/-- What one part makes of the running segment (R44, R64, R65, R77, R79, R91). -/
inductive PartLeaves (h : Handed) (part : PeriodPart) (z : State) (e : Context) : State → Prop where
  /-- the segment's part, with no ending of its own -/
  | grown : part = .segment → endsWith h e = none → PartLeaves h part z e
      { z with segments := { z.segments with running := some (progressed h e) } }
  /-- the segment's part, with its own ending -/
  | own (kind : EndKind) : part = .segment → endsWith h e = some kind → PartLeaves h part z e { z with
      segments := { z.segments with running := some (withCause (progressed h e) kind none) }
      drive := combineStop z.config e.segment.motion.isStraight e.holdTarget.isSome .ramp z.drive }
  /-- the drive's part -/
  | drive (d : Drive) : part = .drive → d = (takeBackoff h z).drive → d.retries = z.drive.retries → d.wheels.left.setpoint = z.drive.wheels.left.setpoint →
      d.wheels.right.setpoint = z.drive.wheels.right.setpoint → d.unjam = z.drive.unjam →
      (¬ z.drive.stop.reverses → d = z.drive) → PartLeaves h part z e { z with drive := d }
  /-- an evaluation that blocks nothing -/
  | judged (found : Clearance) : part = .monitor → evaluate z = { z with clearance := found } →
      PartLeaves h part z e { z with clearance := found }
  /-- an evaluation that blocks -/
  | blocked (found : Clearance) (x : EndCause) : part = .monitor → e.cause = none → e.segment.motion.isStraight = true →
      x.kind = .blocked ∨ x.kind = .blockedZone → evaluate z = { z with
        clearance := found
        segments := { z.segments with running := some (withCause e x.kind x.record) }
        drive := combineStop z.config e.segment.motion.isStraight e.holdTarget.isSome .ramp z.drive } →
      PartLeaves h part z e { z with
        clearance := found
        segments := { z.segments with running := some (withCause e x.kind x.record) }
        drive := combineStop z.config e.segment.motion.isStraight e.holdTarget.isSome .ramp z.drive }
  /-- the slew step -/
  | slew : part = .slew → PartLeaves h part z e (slewStep z)

theorem partAction_leaves (running : z.segments.running = some e) :
    PartLeaves h part z e (partAction (some e.segment.tag) h part z) := by
  cases part with
  | segment =>
    cases ending : endsWith h e with
    | none =>
      rw [partAction, takeProgress_goes running ending]
      exact .grown rfl ending
    | some kind =>
      rw [partAction, takeProgress_ends running ending]
      exact .own kind rfl ending
  | drive =>
    have stands := (takeBackoff_stands h z).drive
    have only : takeBackoff h z = { z with drive := (takeBackoff h z).drive } := by
      unfold takeBackoff
      split <;> rfl
    rw [partAction, only]
    refine .drive _ rfl rfl ?_ stands.left_stands stands.right_stands ?_ fun stop => by rw [takeBackoff_other stop]
    · unfold takeBackoff
      split
      · dsimp only
        split <;> rfl
      · rfl
    · unfold takeBackoff
      split
      · dsimp only
        split <;> rfl
      · rfl
  | monitor =>
    obtain ⟨judged, leaves | ⟨first, straight, x, kind, leaves⟩⟩ := evaluate_acts running
    · rw [partAction, leaves]
      exact .judged judged rfl leaves
    · rw [partAction, leaves]
      exact .blocked judged x rfl first straight kind leaves
  | slew => exact .slew rfl

theorem Followed.next (followed : Followed h c s before z e) (nodup : order.Nodup)
    (split : order = before ++ part :: after) {t : State} (leaves : PartLeaves h part z e t) :
    ∃ d, Followed h c s (before ++ [part]) t d := by
  have absent := not_mem_of_split nodup split
  obtain ⟨running, segment, progress, startHeading, holdTarget, cancelSeen, retries, time, config, pending⟩ := followed
  have stays (other : part ≠ .segment) : e.progress = grownBy h c (before ++ [part]) :=
    progress.trans (grownBy_other h c before other).symm
  have grows (own : part = .segment) : grownProgress h e = grownBy h c (before ++ [part]) := by
    subst own
    rw [grownBy_segment]
    exact grownProgress_of_same segment (progress.trans (if_neg absent))
  cases leaves with
  | grown own _ => exact ⟨_, rfl, segment, grows own, startHeading, holdTarget, cancelSeen, retries, time, config, pending⟩
  | own kind own _ =>
    exact ⟨_, rfl, segment, grows own, startHeading, holdTarget, cancelSeen,
      (combineStop_ramp_retries _ _ _ _).trans retries, time, config, pending⟩
  | drive d own _ same _ _ _ _ =>
    exact ⟨e, running, segment, stays (by simp [own]), startHeading, holdTarget, cancelSeen, same.trans retries, time, config,
      pending⟩
  | judged found own _ =>
    exact ⟨e, running, segment, stays (by simp [own]), startHeading, holdTarget, cancelSeen, retries, time, config, pending⟩
  | blocked found x own _ _ _ _ =>
    exact ⟨_, rfl, segment, stays (by simp [own]), startHeading, holdTarget, cancelSeen,
      (combineStop_ramp_retries _ _ _ _).trans retries, time, config, pending⟩
  | slew own =>
    exact ⟨e, running, segment, stays (by simp [own]), startHeading, holdTarget, cancelSeen, retries, time, config, pending⟩

/-- A property of the running segment, carried from part to part until its record is written. -/
theorem followed_invariant {Q : List PeriodPart → State → Context → Prop} {x : State} (nodup : order.Nodup)
    (first : Followed h c s [] x c) (start : Q [] x c)
    (step : ∀ before part after z e t d, order = before ++ part :: after → Followed h c s before z e →
      Followed h c s (before ++ [part]) t d → PartLeaves h part z e t → Q before z e → Q (before ++ [part]) t d)
    (before after : List PeriodPart) (split : order = before ++ after) :
    ∃ e, Followed h c s before (acted (some c.segment.tag) h before x) e ∧
      Q before (acted (some c.segment.tag) h before x) e := by
  refine acted_invariant (P := fun before z => ∃ e, Followed h c s before z e ∧ Q before z e) ⟨c, first, start⟩ ?_ before after split
  rintro before part after z split ⟨e, followed, q⟩
  have leaves : PartLeaves h part z e (partAction (some c.segment.tag) h part z) := by
    rw [← followed.segment]
    exact partAction_leaves followed.running
  obtain ⟨d, next⟩ := followed.next nodup split leaves
  exact ⟨d, next, step before part after z e _ d split followed next leaves q⟩

theorem followed_start (running : s.segments.running = some c) : Followed h c s [] (periodUpdate s) c :=
  ⟨by simpa [periodUpdate] using running, rfl, (if_neg List.not_mem_nil).symm, rfl, rfl, rfl, by simp [periodUpdate],
    (classify_answer _ _).timeBase, by simp [periodUpdate], by simp [periodUpdate, Floor.resultPending]⟩

theorem order_nodup (wf : (Instr.controlPeriodExpiry order).wellFormed = true) : order.Nodup :=
  (List.isPerm_iff.mp wf).nodup_iff.mpr (by decide)

theorem mem_order (wf : (Instr.controlPeriodExpiry order).wellFormed = true) (part : PeriodPart) : part ∈ order :=
  (List.isPerm_iff.mp wf).mem_iff.mpr (by cases part <;> decide)

/-! ### A BACKOFF move -/

theorem later_drive {e : Context} {d : Drive} (cfg : Settings) (moves : d.stop.moveInProgress = true ∨ d.stop = .backoffClose) :
    combineStop cfg e.segment.motion.isStraight e.holdTarget.isSome .ramp d = d :=
  combineStop_ramp_later fun none => by simp [none, Stop.moveInProgress] at moves

/-- A move in REVERSE: the drive's part alone takes it on (R110). -/
structure Reversing (h : Handed) (c : Context) (s : State) (p : Int) (before : List PeriodPart) (z : State) : Prop where
  early : .drive ∉ before → z.drive.stop = .backoffReverse p
  far : .drive ∈ before → (backoffDistance s.config : Int) * 1000 ≤ max 0 (p - c.segment.motion.sigma * h.travel) →
    z.drive.stop = .backoffClose ∧ TargetsZero z.drive
  near : .drive ∈ before → max 0 (p - c.segment.motion.sigma * h.travel) < (backoffDistance s.config : Int) * 1000 →
    z.drive.stop = .backoffReverse (max 0 (p - c.segment.motion.sigma * h.travel))

theorem Reversing.of_same {p : Int} {t : State} (rev : Reversing h c s p before z) (other : part ≠ .drive)
    (stop : (∃ q, z.drive.stop = .backoffReverse q) ∨ z.drive.stop = .backoffClose → t.drive.stop = z.drive.stop)
    (targets : TargetsZero z.drive → z.drive.stop = .backoffClose → TargetsZero t.drive) :
    Reversing h c s p (before ++ [part]) t where
  early absent := by
    have was := rev.early fun mem => absent (by simp [mem])
    exact (stop (.inl ⟨_, was⟩)).trans was
  far mem far := by
    obtain ⟨was, zero⟩ := rev.far (by simpa [other.symm] using mem) far
    exact ⟨(stop (.inr was)).trans was, targets zero was⟩
  near mem near := by
    have was := rev.near (by simpa [other.symm] using mem) near
    exact (stop (.inl ⟨_, was⟩)).trans was

theorem Reversing.stops {p : Int} (rev : Reversing h c s p before z) :
    (∃ q, z.drive.stop = .backoffReverse q) ∨ z.drive.stop = .backoffClose := by
  by_cases mem : .drive ∈ before
  · rcases lt_or_ge (max 0 (p - c.segment.motion.sigma * h.travel)) ((backoffDistance s.config : Int) * 1000) with near | far
    · exact .inl ⟨_, rev.near mem near⟩
    · exact .inr (rev.far mem far).1
  · exact .inl ⟨_, rev.early mem⟩

theorem Reversing.keepsDrive {p : Int} (rev : Reversing h c s p before z) (cfg : Settings) (e : Context) :
    combineStop cfg e.segment.motion.isStraight e.holdTarget.isSome .ramp z.drive = z.drive := by
  refine combineStop_ramp_later fun none => ?_
  rcases rev.stops with ⟨q, is⟩ | is <;> exact absurd (none.symm.trans is) nofun

theorem Reversing.next {p : Int} {t : State} (rev : Reversing h c s p before z) (nodup : order.Nodup)
    (split : order = before ++ part :: after) (followed : Followed h c s before z e) (leaves : PartLeaves h part z e t) :
    Reversing h c s p (before ++ [part]) t := by
  cases leaves with
  | grown own _ => exact rev.of_same (by simp [own]) (fun _ => rfl) fun zero _ => zero
  | own kind own _ =>
    dsimp only
    rw [rev.keepsDrive]
    exact rev.of_same (by simp [own]) (fun _ => rfl) fun zero _ => zero
  | judged found own _ => exact rev.of_same (by simp [own]) (fun _ => rfl) fun zero _ => zero
  | blocked found x own _ _ _ _ =>
    dsimp only
    rw [rev.keepsDrive]
    exact rev.of_same (by simp [own]) (fun _ => rfl) fun zero _ => zero
  | slew own =>
    refine rev.of_same (by simp [own]) (fun stops => ?_) fun _ close => slewStep_targetsOk.stopped ?_
    · rw [slewStep_stop]
      rcases stops with ⟨q, is⟩ | is <;> rw [is] <;> rfl
    · rw [slewStep_stop, close]
      trivial
  | drive d own is _ _ _ _ _ =>
    subst own is
    have stop := rev.early (not_mem_of_split nodup split)
    have taken := takeBackoff_reverse (h := h) stop followed.running
    rw [followed.segment, followed.config] at taken
    refine ⟨fun absent => absurd (by simp) absent, fun _ far => ?_, fun _ near => ?_⟩
    · rw [taken]
      dsimp only
      rw [if_pos far]
      exact ⟨rfl, ⟨rfl, rfl⟩⟩
    · rw [taken]
      dsimp only
      rw [if_neg (by omega)]

/-- A move in HALT, which the slew step takes to REVERSE (R110). -/
structure Halting (before : List PeriodPart) (z : State) : Prop where
  early : .slew ∉ before → z.drive.stop = .backoffHalt
  late : .slew ∈ before → z.drive.stop = .backoffReverse 0

theorem Halting.stops (halt : Halting before z) : z.drive.stop = .backoffHalt ∨ z.drive.stop = .backoffReverse 0 := by
  by_cases mem : .slew ∈ before
  · exact .inr (halt.late mem)
  · exact .inl (halt.early mem)

theorem Halting.keepsDrive (halt : Halting before z) (cfg : Settings) (e : Context) :
    combineStop cfg e.segment.motion.isStraight e.holdTarget.isSome .ramp z.drive = z.drive := by
  refine combineStop_ramp_later fun none => ?_
  rcases halt.stops with is | is <;> exact absurd (none.symm.trans is) nofun

theorem Halting.of_stop {t : State} (halt : Halting before z) (other : part ≠ .slew)
    (stop : t.drive.stop = z.drive.stop) : Halting (before ++ [part]) t where
  early absent := stop.trans (halt.early fun mem => absent (by simp [mem]))
  late mem := stop.trans (halt.late (by simpa [other.symm] using mem))

theorem Halting.next {t : State} (halt : Halting before z) (nodup : order.Nodup)
    (split : order = before ++ part :: after) (first : order.idxOf .drive < order.idxOf .slew)
    (leaves : PartLeaves h part z e t) : Halting (before ++ [part]) t := by
  cases leaves with
  | grown own _ => exact halt.of_stop (by simp [own]) rfl
  | own kind own _ => exact halt.of_stop (by simp [own]) (congrArg Drive.stop (halt.keepsDrive _ _))
  | judged found own _ => exact halt.of_stop (by simp [own]) rfl
  | blocked found x own _ _ _ _ => exact halt.of_stop (by simp [own]) (congrArg Drive.stop (halt.keepsDrive _ _))
  | drive d own is _ _ _ _ still =>
    subst own
    have absent : .slew ∉ before := fun mem => by
      have := (mem_before_iff nodup split).mp mem
      omega
    refine halt.of_stop nofun (congrArg Drive.stop (still ?_))
    rintro ⟨p, reverse⟩
    exact absurd ((halt.early absent).symm.trans reverse) nofun
  | slew own =>
    subst own
    have stop := halt.early (not_mem_of_split nodup split)
    exact ⟨fun absent => absurd (by simp) absent, fun _ => by rw [slewStep_stop, stop]; rfl⟩

/-! ### The end cause -/

theorem endsWith_of_same (segment : e.segment = c.segment) (progress : e.progress = c.progress) (cause : e.cause = c.cause) :
    endsWith h e = endsWith h c := by
  have own : ownEnding (progressed h e) = ownEnding (progressed h c) := Option.eq_of_eq_some fun kind => by
    have grown : (progressed h e).progress = (progressed h c).progress := grownProgress_of_same segment progress
    have motion : (progressed h e).segment = (progressed h c).segment := segment
    rw [ownEnding_iff, ownEnding_iff, grown, motion]
  have takes : takesCause e = takesCause c := by
    funext kind
    rw [takesCause, takesCause, cause, segment]
  rw [endsWith, endsWith, own, takes]

theorem endsWith_first (first : c.cause = none) : endsWith h c = ownEnding (progressed h c) := by
  unfold endsWith
  cases ownEnding (progressed h c) with
  | none => rfl
  | some kind => exact if_pos (takesCause_first c kind first)

/-- Over a standing cause a segment's own ending is taken as COMPLETED over CANCELLED alone (R91). -/
theorem endsWith_standing {kind : EndKind} {x : EndCause} (stands : c.cause = some x) (ends : endsWith h c = some kind) :
    kind = .completed ∧ x.kind = .cancelled := by
  obtain ⟨ending, takes⟩ := Option.filter_eq_some_iff.mp ends
  have replaces : replacesCause c.segment.motion x.kind kind = true := by simpa [takesCause, stands] using takes
  exact replacesCause_ofPeriod (ownEnding_ofPeriod ending) replaces

/-- The end cause of the running segment once the parts `before` have acted (R64, R65, R77, R79, R91). -/
inductive CauseNow (h : Handed) (c : Context) (order before : List PeriodPart) : Option EndCause → Prop where
  | first : c.cause = none → (.segment ∈ before → ownEnding (progressed h c) = none) → CauseNow h c order before none
  | own (kind : EndKind) : .segment ∈ before → endsWith h c = some kind → CauseNow h c order before (some ⟨kind, none⟩)
  | blocked (x : EndCause) : c.cause = none → c.segment.motion.isStraight = true →
      x.kind = .blocked ∨ x.kind = .blockedZone →
      (∀ kind, ownEnding (progressed h c) = some kind → order.idxOf .monitor < order.idxOf .segment) →
      CauseNow h c order before (some x)
  | stands (x : EndCause) : c.cause = some x → (.segment ∈ before → endsWith h c = none) →
      CauseNow h c order before (some x)

theorem CauseNow.of_other {cause : Option EndCause} (now : CauseNow h c order before cause) (other : part ≠ .segment) :
    CauseNow h c order (before ++ [part]) cause := by
  have mem : .segment ∈ before ++ [part] → .segment ∈ before := by simp [other.symm]
  cases now with
  | first none left => exact .first none (left ∘ mem)
  | own kind acts ends => exact .own kind (by simp [acts]) ends
  | blocked x none straight kind earlier => exact .blocked x none straight kind earlier
  | stands x was left => exact .stands x was (left ∘ mem)

theorem CauseNow.next {t : State} {d : Context} (now : CauseNow h c order before e.cause) (nodup : order.Nodup)
    (split : order = before ++ part :: after) (there : .segment ∈ order) (followed : Followed h c s before z e)
    (next : Followed h c s (before ++ [part]) t d) (leaves : PartLeaves h part z e t) :
    CauseNow h c order (before ++ [part]) d.cause := by
  have absent := not_mem_of_split nodup split
  cases leaves with
  | grown own ends =>
    subst own
    obtain rfl := Option.some.inj next.running
    have progress : e.progress = c.progress := followed.progress.trans (if_neg absent)
    show CauseNow h c order _ e.cause
    cases cause : e.cause with
    | none =>
      rw [cause] at now
      cases now with
      | first none _ =>
        exact .first none fun _ => by
          rw [← endsWith_first none, ← endsWith_of_same followed.segment progress (cause.trans none.symm), ends]
    | some x =>
      rw [cause] at now
      cases now with
      | own kind acts _ => exact absurd acts absent
      | blocked _ none straight kind earlier => exact .blocked x none straight kind earlier
      | stands _ was _ =>
        exact .stands x was fun _ => by
          rw [← endsWith_of_same followed.segment progress (cause.trans was.symm), ends]
  | own kind own ends =>
    subst own
    obtain rfl := Option.some.inj next.running
    have progress : e.progress = c.progress := followed.progress.trans (if_neg absent)
    have same (cause : e.cause = c.cause) : endsWith h c = some kind :=
      (endsWith_of_same followed.segment progress cause).symm.trans ends
    refine .own kind (by simp) ?_
    cases cause : e.cause with
    | none =>
      rw [cause] at now
      cases now with
      | first none _ => exact same (cause.trans none.symm)
    | some x =>
      obtain ⟨-, cancelled⟩ := endsWith_standing cause ends
      rw [cause] at now
      cases now with
      | own kind acts _ => exact absurd acts absent
      | blocked _ none straight kind earlier => rcases kind with is | is <;> exact absurd (cancelled.symm.trans is) nofun
      | stands _ was _ => exact same (cause.trans was.symm)
  | drive d own _ _ _ _ _ _ =>
    obtain rfl := Option.some.inj (followed.running.symm.trans next.running)
    exact now.of_other (by simp [own])
  | judged found own _ =>
    obtain rfl := Option.some.inj (followed.running.symm.trans next.running)
    exact now.of_other (by simp [own])
  | slew own =>
    obtain rfl := Option.some.inj (followed.running.symm.trans next.running)
    exact now.of_other (by simp [own])
  | blocked found x own none straight kind _ =>
    subst own
    obtain rfl := Option.some.inj next.running
    rw [none] at now
    cases now with
    | first free left =>
      refine .blocked x free (by rw [← followed.segment]; exact straight) kind fun own ending => ?_
      have later : .segment ∉ before := fun mem => absurd (ending.symm.trans (left mem)) nofun
      have notBefore := (not_congr (mem_before_iff (other := .segment) nodup split)).mp later
      have apart : order.idxOf .segment ≠ order.idxOf .monitor := fun same => by
        cases (List.idxOf_inj there).mp same
      omega

theorem takesCause_completed {x : EndCause} (ending : ownEnding (progressed h c) = some .completed)
    (stands : c.cause = some x) (cancelled : x.kind = .cancelled) : takesCause c .completed = true := by
  have reaches : ReachedEnding c.segment.motion (grownProgress h c) .completed :=
    (ownEnding_iff (e := progressed h c)).mp ending
  cases motion : c.segment.motion <;> simp_all [takesCause, replacesCause, ReachedEnding]

theorem CauseNow.replaced {cause : Option EndCause} {kind : EndKind} {x : EndCause} (now : CauseNow h c order before cause)
    (acts : .segment ∈ before) (ending : ownEnding (progressed h c) = some kind) (stands : c.cause = some x)
    (cancelled : x.kind = .cancelled) (completed : kind = .completed) : cause = some ⟨.completed, none⟩ := by
  subst completed
  cases now with
  | first none _ => exact absurd (none.symm.trans stands) nofun
  | own kind _ ends => rw [(endsWith_standing stands ends).1]
  | blocked x none _ _ _ => exact absurd (none.symm.trans stands) nofun
  | stands _ _ left =>
    have takes : endsWith h c = some .completed :=
      Option.filter_eq_some_iff.mpr ⟨ending, takesCause_completed ending stands cancelled⟩
    exact absurd (takes.symm.trans (left acts)) nofun

theorem CauseNow.of_ending {cause : Option EndCause} {kind : EndKind} (now : CauseNow h c order before cause)
    (acts : .segment ∈ before) (ending : ownEnding (progressed h c) = some kind) (first : c.cause = none) :
    cause = some ⟨kind, none⟩ ∨ (c.segment.motion.isStraight = true ∧ order.idxOf .monitor < order.idxOf .segment ∧
      ∃ x, cause = some x ∧ (x.kind = .blocked ∨ x.kind = .blockedZone)) := by
  cases now with
  | first _ left => exact absurd (ending.symm.trans (left acts)) nofun
  | own other _ ends =>
    rw [endsWith_first first, ending] at ends
    rw [Option.some.inj ends]
    exact .inl rfl
  | blocked x _ straight kind earlier => exact .inr ⟨straight, earlier _ ending, x, rfl, kind⟩
  | stands _ was _ => exact absurd (first.symm.trans was) nofun

theorem CauseNow.of_standing {cause : Option EndCause} {x : EndCause} (now : CauseNow h c order before cause)
    (stands : c.cause = some x) (keeps : x.kind ≠ .cancelled ∨ ownEnding (progressed h c) ≠ some .completed) :
    cause = some x := by
  cases now with
  | first none _ => exact absurd (none.symm.trans stands) nofun
  | own kind _ ends =>
    obtain ⟨completed, cancelled⟩ := endsWith_standing stands ends
    obtain ⟨ending, -⟩ := Option.filter_eq_some_iff.mp ends
    subst completed
    rcases keeps with other | far
    · exact absurd cancelled other
    · exact absurd ending far
  | blocked x none _ _ _ => exact absurd (none.symm.trans stands) nofun
  | stands _ was _ => exact was.symm.trans stands

theorem CauseNow.of_turning {cause : Option EndCause} (now : CauseNow h c order before cause) (first : c.cause = none)
    (turning : c.segment.motion.isStraight = false) (goes : ∀ kind, ownEnding (progressed h c) ≠ some kind) : cause = none := by
  cases now with
  | first _ _ => rfl
  | own kind _ ends => exact absurd ((endsWith_first first).symm.trans ends) (goes kind)
  | blocked _ _ straight _ _ => exact absurd (turning.symm.trans straight) nofun
  | stands _ was _ => exact absurd (first.symm.trans was) nofun

/-! ### The stop of a segment's own ending -/

/-- A ramp base after its slew step (R107). -/
def movedBase (cfg : Settings) (r : Int) : Int := if 0 < r then max 0 (r - decelStep cfg) else min 0 (r + decelStep cfg)

theorem advanceStop_ramp (cfg : Settings) (base : Option Int) : advanceStop cfg (.ramp base) = .ramp (base.map (movedBase cfg)) := by
  cases base with
  | none => rfl
  | some r => exact congrArg (fun v => Stop.ramp (some v)) (approach_zero _ _)

/-- A segment with no cause and no stop that ends by itself in this period: what stands before its part and after it
(R77, R79, R90, R107, R161). -/
structure OwnEnds (kind : EndKind) (c : Context) (s : State) (order before : List PeriodPart) (z : State) (e : Context) :
    Prop where
  waits : .segment ∉ before → e.cause = none ∧ z.drive.stop = .none
  still : .slew ∉ before → z.drive.wheels.left.setpoint = s.drive.wheels.left.setpoint ∧
    z.drive.wheels.right.setpoint = s.drive.wheels.right.setpoint
  ends : .segment ∈ before → e.cause = some ⟨kind, none⟩ ∧ e.phase = .stopping ∧ z.drive.unjam = none
  late : .segment ∈ before → order.idxOf .slew < order.idxOf .segment →
    z.drive.stop = .ramp (rampBaseOf c.holdTarget z.drive)
  early : .segment ∈ before → order.idxOf .segment < order.idxOf .slew → z.drive.stop =
    .ramp (if .slew ∈ before then (rampBaseOf c.holdTarget s.drive).map (movedBase s.config) else rampBaseOf c.holdTarget s.drive)

theorem rampBaseOf_of_setpoints {d d' : Drive} (hold : Option Nat)
    (left : d'.wheels.left.setpoint = d.wheels.left.setpoint) (right : d'.wheels.right.setpoint = d.wheels.right.setpoint) :
    rampBaseOf hold d' = rampBaseOf hold d := by
  cases hold with
  | none => rfl
  | some _ => rw [rampBaseOf, rampBaseOf, left, right]

theorem OwnEnds.of_same {kind : EndKind} {t : State} (own : OwnEnds kind c s order before z e) (noSegment : part ≠ .segment)
    (noSlew : part ≠ .slew) (drive : t.drive = z.drive) : OwnEnds kind c s order (before ++ [part]) t e := by
  have segment : .segment ∈ before ++ [part] ↔ .segment ∈ before := by simp [noSegment.symm]
  have slew : .slew ∈ before ++ [part] ↔ .slew ∈ before := by simp [noSlew.symm]
  refine ⟨?_, ?_, ?_, ?_, ?_⟩
  · rw [segment, drive]
    exact own.waits
  · rw [slew, drive]
    exact own.still
  · rw [segment, drive]
    exact own.ends
  · rw [segment, drive]
    exact own.late
  · rw [segment, drive]
    simp only [slew]
    exact own.early

theorem OwnEnds.no_reverse {kind : EndKind} (own : OwnEnds kind c s order before z e) (slews : .slew ∈ order) :
    ¬ z.drive.stop.reverses := by
  rintro ⟨p, reverse⟩
  by_cases acts : .segment ∈ before
  · rcases Nat.lt_trichotomy (order.idxOf .slew) (order.idxOf .segment) with less | same | less
    · exact absurd ((own.late acts less).symm.trans reverse) nofun
    · cases (List.idxOf_inj slews).mp same
    · exact absurd ((own.early acts less).symm.trans reverse) nofun
  · exact absurd ((own.waits acts).2.symm.trans reverse) nofun

theorem OwnEnds.next {kind : EndKind} {t : State} {d : Context} (ends : OwnEnds kind c s order before z e)
    (ending : ownEnding (progressed h c) = some kind) (first : c.cause = none)
    (early : order.idxOf .segment < order.idxOf .monitor ∨ c.segment.motion.isStraight = false)
    (nodup : order.Nodup) (split : order = before ++ part :: after) (slews : .slew ∈ order)
    (followed : Followed h c s before z e)
    (next : Followed h c s (before ++ [part]) t d) (leaves : PartLeaves h part z e t) :
    OwnEnds kind c s order (before ++ [part]) t d := by
  have absent := not_mem_of_split nodup split
  have reach (free : .segment ∉ before) : endsWith h e = some kind := by
    rw [endsWith_of_same followed.segment (followed.progress.trans (if_neg free)) ((ends.waits free).1.trans first.symm),
      endsWith_first first, ending]
  cases leaves with
  | grown own none =>
    subst own
    exact absurd (none.symm.trans (reach absent)) nofun
  | own kind' own ends' =>
    subst own
    obtain rfl := Option.some.inj next.running
    obtain rfl : kind' = kind := Option.some.inj (ends'.symm.trans (reach absent))
    obtain ⟨-, stop⟩ := ends.waits absent
    have ramp : combineStop z.config e.segment.motion.isStraight e.holdTarget.isSome .ramp z.drive =
        rampFrom c.holdTarget z.drive := by rw [combineStop_ramp_first stop, followed.holdTarget]
    have slewed : .slew ∈ before ↔ order.idxOf .slew < order.idxOf .segment := mem_before_iff nodup split
    have there : .slew ∈ before ++ [PeriodPart.segment] ↔ .slew ∈ before := by simp
    refine ⟨fun waits => absurd (by simp) waits, fun free => ?_, fun _ => ⟨rfl, rfl, ?_⟩, fun _ late => ?_, fun _ early => ?_⟩
    · obtain ⟨left, right⟩ := ends.still (fun mem => free (there.mpr mem))
      obtain ⟨left', right'⟩ := rampFrom_wheels c.holdTarget z.drive
      dsimp only
      rw [ramp]
      exact ⟨left'.trans left, right'.trans right⟩
    · dsimp only
      rw [ramp]
      rfl
    · dsimp only
      rw [ramp, rampBaseOf_rampFrom]
      rfl
    · have free : .slew ∉ before := fun mem => by
        have := slewed.mp mem
        omega
      obtain ⟨left, right⟩ := ends.still free
      dsimp only
      rw [ramp, if_neg (fun mem => free (there.mp mem)), ← rampBaseOf_of_setpoints c.holdTarget left right]
      rfl
  | drive d own _ _ _ _ _ still =>
    obtain rfl := Option.some.inj (followed.running.symm.trans next.running)
    exact ends.of_same (by simp [own]) (by simp [own]) (still (ends.no_reverse slews))
  | judged found own _ =>
    obtain rfl := Option.some.inj (followed.running.symm.trans next.running)
    exact ends.of_same (by simp [own]) (by simp [own]) rfl
  | slew own =>
    subst own
    obtain rfl := Option.some.inj (followed.running.symm.trans next.running)
    have segment : .segment ∈ before ++ [PeriodPart.slew] ↔ .segment ∈ before := by simp
    have acted : .segment ∈ before ↔ order.idxOf .segment < order.idxOf .slew := mem_before_iff nodup split
    refine ⟨fun free => ?_, fun free => absurd (by simp) free, fun mem => ends.ends (segment.mp mem), fun mem late => ?_,
      fun mem early => ?_⟩
    · obtain ⟨none, stop⟩ := ends.waits fun mem => free (segment.mpr mem)
      exact ⟨none, by rw [slewStep_stop, stop]; rfl⟩
    · have := acted.mp (segment.mp mem)
      omega
    · rw [slewStep_stop, ends.early (segment.mp mem) early, if_neg absent, if_pos (by simp), advanceStop_ramp, followed.config]
  | blocked found x own none straight _ _ =>
    subst own
    rcases early with before' | turning
    · have acts := (mem_before_iff (other := .segment) nodup split).mpr before'
      exact absurd (none.symm.trans (ends.ends acts).1) nofun
    · rw [followed.segment, turning] at straight
      exact absurd straight nofun

/-! ### A whole period -/

theorem periodUpdate_drive (s : State) : (periodUpdate s).drive = { s.drive with periodMs := 0 } := by simp [periodUpdate]

theorem controlPeriod_eq (wf : (Instr.controlPeriodExpiry order).wellFormed = true) (running : s.segments.running = some c) :
    controlPeriodEffect order s =
      order.foldl (fun t part => periodPart (some c.segment.tag) (handedOn s) part t) (periodUpdate s) := by
  rw [controlPeriodEffect, orderOf_wellFormed wf, State.runningTag, running]
  rfl

theorem periodParts_ok (tag : Option Nat) (h : Handed) (parts : List PeriodPart) {s : State} (ok : SegmentsOk s.segments) :
    SegmentsOk (parts.foldl (fun t part => periodPart tag h part t) s).segments := by
  induction parts generalizing s with
  | nil => exact ok
  | cons part parts ih =>
    refine ih (s := periodPart tag h part s) ?_
    rw [periodPart_eq]
    exact settle_ok _ (partAction_ok tag h part ok)

theorem acted_stands (tag : Option Nat) (h : Handed) (parts : List PeriodPart) (u : State)
    (noSlew : PeriodPart.slew ∉ parts) : Stands u.drive (acted tag h parts u).drive := by
  induction parts generalizing u with
  | nil => exact .refl _
  | cons part parts ih =>
    exact (partAction_stands tag h (List.ne_of_not_mem_cons noSlew).symm u).trans
      (ih _ (List.not_mem_of_not_mem_cons noSlew))

/-- The parts of the period that runs `c`, with nothing settled between them. -/
def ranOn (c : Context) (s : State) (parts : List PeriodPart) : State :=
  acted (some c.segment.tag) (handedOn s) parts (periodUpdate s)

theorem ranOn_running (running : s.segments.running = some c) (parts : List PeriodPart) :
    (ranOn c s parts).segments.running.map Context.segment = some c.segment := by
  rw [ranOn, (acted_segments _ _ parts _).2.2, periodUpdate_segments, running]
  rfl

theorem ranOn_ok (ok : SegmentsOk s.segments) (parts : List PeriodPart) : SegmentsOk (ranOn c s parts).segments := by
  obtain ⟨queue, completions, running⟩ := acted_segments (some c.segment.tag) (handedOn s) parts (periodUpdate s)
  exact segmentsOk_of_same (by rw [periodUpdate_segments]; exact ok) queue completions running

/-- How a period with a running segment goes: it runs on, or its record is written (R92). -/
inductive PeriodGoes (c : Context) (s : State) (order : List PeriodPart) : Prop where
  | runs : controlPeriodEffect order s = ranOn c s order →
      (∀ before after, order = before ++ after → before ≠ [] → (ranOn c s before).canWrite = false) → PeriodGoes c s order
  | written (before after : List PeriodPart) : order = before ++ after → before ≠ [] → (ranOn c s before).canWrite = true →
      Shrinks (writeRecord (ranOn c s before)) (controlPeriodEffect order s) → PeriodGoes c s order

theorem travelledOf_of_same {d : Context} (segment : d.segment = e.segment) (progress : d.progress = e.progress) :
    travelledOf d = travelledOf e := by
  rw [travelledOf, travelledOf, travelledMm, travelledMm, segment, progress]

section RunningSegment

variable (wf : (Instr.controlPeriodExpiry order).wellFormed = true) (ok : SegmentsOk s.segments)
  (running : s.segments.running = some c)
include wf ok running

theorem period_goes : PeriodGoes c s order := by
  have segment : (periodUpdate s).segments.running.map Context.segment = some c.segment := by
    rw [periodUpdate_segments, running]
    rfl
  rcases periodParts_split (some c.segment.tag) (handedOn s) order segment (by rw [periodUpdate_segments]; exact ok) with
    ⟨same, noWrite⟩ | ⟨before, after, split, nonempty, due, shrinks⟩
  · exact .runs ((controlPeriod_eq wf running).trans same) noWrite
  · exact .written before after split nonempty due (by rw [controlPeriod_eq wf running]; exact shrinks)

/-- Where the segment runs at the end of the period, nothing was settled in it. -/
theorem period_runs (runs : (controlPeriodEffect order s).segments.running = some e) (same : e.segment = c.segment) :
    controlPeriodEffect order s = ranOn c s order := by
  cases period_goes wf ok running with
  | runs acted _ => exact acted
  | written before after split nonempty due shrinks =>
    have tok : SegmentsOk (controlPeriodEffect order s).segments := by
      rw [controlPeriod_eq wf running]
      exact periodParts_ok _ _ _ (by rw [periodUpdate_segments]; exact ok)
    exact absurd same (gone_of_shrinks (ranOn_ok ok before) (ranOn_running running before) due shrinks tok runs)

theorem period_holds (held : ∀ before after, order = before ++ after → before ≠ [] → (ranOn c s before).canWrite = false) :
    controlPeriodEffect order s = ranOn c s order := by
  cases period_goes wf ok running with
  | runs acted _ => exact acted
  | written before after split nonempty due _ => exact absurd (due.symm.trans (held before after split nonempty)) nofun

omit ok in
theorem ranOn_followed (before after : List PeriodPart) (split : order = before ++ after) :
    ∃ e, Followed (handedOn s) c s before (ranOn c s before) e :=
  (followed_invariant (Q := fun _ _ _ => True) (order_nodup wf) (followed_start running) trivial
    (fun _ _ _ _ _ _ _ _ _ _ _ _ => trivial) before after split).imp fun _ both => both.1

omit ok in
theorem ranOn_reversing {p : Int} (stop : s.drive.stop = .backoffReverse p) (before after : List PeriodPart)
    (split : order = before ++ after) : Reversing (handedOn s) c s p before (ranOn c s before) := by
  have nodup := order_nodup wf
  obtain ⟨e, -, rev⟩ := followed_invariant (Q := fun before z _ => Reversing (handedOn s) c s p before z) nodup
    (followed_start running) ⟨fun _ => by rw [periodUpdate_drive, stop], nofun, nofun⟩
    (fun before part after z e t d split followed _ leaves rev => rev.next nodup split followed leaves) before after split
  exact rev

omit ok in
theorem ranOn_halting (stop : s.drive.stop = .backoffHalt) (first : order.idxOf .drive < order.idxOf .slew)
    (before after : List PeriodPart) (split : order = before ++ after) : Halting before (ranOn c s before) := by
  have nodup := order_nodup wf
  obtain ⟨e, -, halt⟩ := followed_invariant (Q := fun before z _ => Halting before z) nodup
    (followed_start running) ⟨fun _ => by rw [periodUpdate_drive, stop], nofun⟩
    (fun before part after z e t d split _ _ leaves halt => halt.next nodup split first leaves) before after split
  exact halt

omit ok in
theorem ranOn_cause (before after : List PeriodPart) (split : order = before ++ after) :
    ∃ e, Followed (handedOn s) c s before (ranOn c s before) e ∧ CauseNow (handedOn s) c order before e.cause := by
  have nodup := order_nodup wf
  refine followed_invariant (Q := fun before _ e => CauseNow (handedOn s) c order before e.cause) nodup
    (followed_start running) ?_ (fun before part after z e t d split followed next leaves now =>
      now.next nodup split (mem_order wf _) followed next leaves) before after split
  cases cause : c.cause with
  | none => exact .first cause nofun
  | some x => exact .stands x cause nofun

omit ok in
theorem ranOn_ends {kind : EndKind} (ending : ownEnding (progressed (handedOn s) c) = some kind) (first : c.cause = none)
    (stop : s.drive.stop = .none) (early : order.idxOf .segment < order.idxOf .monitor ∨ c.segment.motion.isStraight = false)
    (before after : List PeriodPart) (split : order = before ++ after) :
    ∃ e, Followed (handedOn s) c s before (ranOn c s before) e ∧ OwnEnds kind c s order before (ranOn c s before) e := by
  have nodup := order_nodup wf
  refine followed_invariant (Q := fun before z e => OwnEnds kind c s order before z e) nodup (followed_start running)
    ⟨fun _ => ⟨first, by rw [periodUpdate_drive, stop]⟩, fun _ => by rw [periodUpdate_drive]; exact ⟨rfl, rfl⟩, nofun, nofun,
      nofun⟩
    (fun before part after z e t d split followed next leaves ends =>
      ends.next ending first early nodup split (mem_order wf _) followed next leaves) before after split

/-- With the slew step first, a segment whose wheels turn at the end of the period runs on (R92). -/
theorem period_moving {rest : List PeriodPart} (slewFirst : order = .slew :: rest)
    (turns : (controlPeriodEffect order s).drive.wheels.left.setpoint ≠ 0 ∨
      (controlPeriodEffect order s).drive.wheels.right.setpoint ≠ 0) :
    controlPeriodEffect order s = ranOn c s order := by
  refine period_holds wf ok running fun before after split nonempty => ?_
  obtain ⟨tail, rfl, htail⟩ : ∃ tail, before = .slew :: tail ∧ rest = tail ++ after := by
    cases before with
    | nil => exact absurd rfl nonempty
    | cons part tail =>
      obtain ⟨rfl, rfl⟩ := List.cons_eq_cons.mp (slewFirst.symm.trans split)
      exact ⟨tail, rfl, rfl⟩
  have noSlew : PeriodPart.slew ∉ rest := (List.nodup_cons.mp (slewFirst ▸ order_nodup wf)).1
  have wheels : Stands (slewStep (periodUpdate s)).drive (controlPeriodEffect order s).drive := by
    rw [controlPeriod_eq wf running, slewFirst]
    exact ((settle_stands _).thenStands (periodParts_stand _ _ rest _ noSlew)).drive
  have same := acted_stands (some c.segment.tag) (handedOn s) tail (slewStep (periodUpdate s)) fun mem => noSlew (htail ▸ List.mem_append_left _ mem)
  refine canWrite_of_moving _ (Bool.eq_false_iff.mpr fun still => ?_)
  obtain ⟨left, right⟩ := (atRest_iff _).mp still
  rcases turns with turn | turn
  · exact turn (wheels.left_stands.trans (same.left_stands.symm.trans left))
  · exact turn (wheels.right_stands.trans (same.right_stands.symm.trans right))

omit ok in
theorem moveInProgress_held {before : List PeriodPart} (moves : (ranOn c s before).drive.stop.moveInProgress = true)
    (split : order = before ++ after) : (ranOn c s before).canWrite = false := by
  obtain ⟨e, followed⟩ := ranOn_followed wf running before after split
  refine Bool.eq_false_iff.mpr fun due => ?_
  have rest := ((canWrite_iff _ e followed.running).mp due).2
  exact absurd (moves.symm.trans rest.no_move) nofun

/-- A move in REVERSE goes on below its distance, and ends in CLOSE where it reaches it (R110). -/
theorem period_reverse {p q : Int} (stop : s.drive.stop = .backoffReverse p)
    (hq : q = max 0 (p - c.segment.motion.sigma * (handedOn s).travel)) :
    (q < (backoffDistance s.config : Int) * 1000 → (controlPeriodEffect order s).drive.stop = .backoffReverse q ∧
      (controlPeriodEffect order s).segments.running.map Context.segment = some c.segment) ∧
    ((backoffDistance s.config : Int) * 1000 ≤ q → ∀ e, (controlPeriodEffect order s).segments.running = some e →
      e.segment = c.segment →
      (controlPeriodEffect order s).drive.stop = .backoffClose ∧ TargetsZero (controlPeriodEffect order s).drive) := by
  subst hq
  have whole := ranOn_reversing wf running stop order [] (List.append_nil _).symm
  refine ⟨fun near => ?_, fun far e runs same => ?_⟩
  · have acted := period_holds wf ok running fun before after split _ => by
      have rev := ranOn_reversing wf running stop before after split
      refine moveInProgress_held wf running ?_ split
      by_cases mem : .drive ∈ before
      · rw [rev.near mem near]; rfl
      · rw [rev.early mem]; rfl
    rw [acted]
    exact ⟨whole.near (mem_order wf _) near, ranOn_running running order⟩
  · rw [period_runs wf ok running runs same]
    exact whole.far (mem_order wf _) far

/-- A move in HALT passes to REVERSE at the slew step (R110). -/
theorem period_halt (stop : s.drive.stop = .backoffHalt) (first : order.idxOf .drive < order.idxOf .slew) :
    (controlPeriodEffect order s).drive.stop = .backoffReverse 0 := by
  have acted := period_holds wf ok running fun before after split _ => by
    refine moveInProgress_held wf running ?_ split
    rcases (ranOn_halting wf running stop first before after split).stops with is | is <;> rw [is] <;> rfl
  rw [acted]
  exact (ranOn_halting wf running stop first order [] (List.append_nil _).symm).late (mem_order wf _)

/-- The stop of a segment that ends by itself in this period, where its record is not written in it (R77, R79, R107). -/
theorem period_ends {kind : EndKind} (ending : ownEnding (progressed (handedOn s) c) = some kind) (first : c.cause = none)
    (stop : s.drive.stop = .none) (early : order.idxOf .segment < order.idxOf .monitor ∨ c.segment.motion.isStraight = false)
    (runs : (controlPeriodEffect order s).segments.running = some e) (same : e.segment = c.segment) :
    e.phase = .stopping ∧ (controlPeriodEffect order s).drive.unjam = none ∧
      (order.idxOf .slew < order.idxOf .segment → (controlPeriodEffect order s).drive.stop =
        .ramp (rampBaseOf c.holdTarget (controlPeriodEffect order s).drive)) ∧
      (order.idxOf .segment < order.idxOf .slew → (controlPeriodEffect order s).drive.stop =
        .ramp ((rampBaseOf c.holdTarget s.drive).map (movedBase s.config))) := by
  have acted := period_runs wf ok running runs same
  obtain ⟨d, followed, ends⟩ := ranOn_ends wf running ending first stop early order [] (List.append_nil _).symm
  rw [acted] at runs ⊢
  obtain rfl := Option.some.inj (runs.symm.trans followed.running)
  have there := mem_order wf .segment
  obtain ⟨-, phase, unjam⟩ := ends.ends there
  refine ⟨phase, unjam, ends.late there, fun slewLast => ?_⟩
  rw [ends.early there slewLast, if_pos (mem_order wf .slew)]

/-- A segment at rest that ends by itself before the slew step has its record at once (R92, R93). -/
theorem period_writes {kind : EndKind} (ending : ownEnding (progressed (handedOn s) c) = some kind) (first : c.cause = none)
    (stop : s.drive.stop = .none) (early : order.idxOf .segment < order.idxOf .monitor ∨ c.segment.motion.isStraight = false)
    (rest : s.atRest = true) (quiet : s.floor.resultPending = false) (slewLast : order.idxOf .segment < order.idxOf .slew) :
    ∃ more, (controlPeriodEffect order s).segments.completions = s.segments.completions ++ ⟨c.segment, kind, c.cancelSeen,
      travelledOf (progressed (handedOn s) c), none, s.drive.retries, s.link.timeBase⟩ :: more := by
  cases period_goes wf ok running with
  | runs _ noWrite =>
    obtain ⟨before, after, split⟩ := List.append_of_mem (mem_order wf .segment)
    have split' : order = (before ++ [.segment]) ++ after := by rw [split, List.append_assoc]; rfl
    obtain ⟨d, followed, ends⟩ := ranOn_ends wf running ending first stop early _ after split'
    obtain ⟨cause, -, unjam⟩ := ends.ends (by simp)
    have free : .slew ∉ before ++ [PeriodPart.segment] := by
      have := mem_before_iff (other := .slew) (order_nodup wf) split
      simp only [List.mem_append, List.mem_singleton]
      rintro (mem | mem)
      · have := this.mp mem
        omega
      · cases mem
    obtain ⟨left, right⟩ := ends.still free
    have ramp := ends.early (by simp) slewLast
    have due := (canWrite_iff _ d followed.running).mpr ⟨by simp [cause], (atRest_of_setpoints left right).trans rest,
      by rw [ramp]; rfl, unjam, followed.pending.trans quiet⟩
    exact absurd (due.symm.trans (noWrite _ after split' (by simp))) nofun
  | written before after split nonempty due shrinks =>
    obtain ⟨d, followed, ends⟩ := ranOn_ends wf running ending first stop early before after split
    have stands := ((canWrite_iff _ d followed.running).mp due).1
    have mem : .segment ∈ before := by
      by_contra absent
      simp [(ends.waits absent).1] at stands
    obtain ⟨more, extended⟩ := shrinks.completions
    have segments := (acted_segments (some c.segment.tag) (handedOn s) before (periodUpdate s)).2.1
    have written : (writeRecord (ranOn c s before)).segments.completions = s.segments.completions ++ [⟨c.segment, kind,
        c.cancelSeen, travelledOf (progressed (handedOn s) c), none, s.drive.retries, s.link.timeBase⟩] := by
      have grown : d.progress = (progressed (handedOn s) c).progress := followed.progress.trans (if_pos mem)
      rw [writeRecord_running_eq _ d _ followed.running (ends.ends mem).1,
        travelledOf_of_same (e := progressed (handedOn s) c) followed.segment grown, followed.segment, followed.cancelSeen, followed.retries, followed.time]
      exact congrArg (· ++ _) (segments.trans (by rw [periodUpdate_segments]))
    exact ⟨more, by rw [extended, written, List.append_assoc]; rfl⟩

/-- What the period leaves of the context of a segment that still runs (R44, R74, R77, R79, R91). -/
theorem period_context (runs : (controlPeriodEffect order s).segments.running = some e) (same : e.segment = c.segment) :
    e.progress = grownProgress (handedOn s) c ∧ e.startHeading = c.startHeading ∧ e.holdTarget = c.holdTarget ∧
      e.cancelSeen = c.cancelSeen ∧ CauseNow (handedOn s) c order order e.cause := by
  have acted := period_runs wf ok running runs same
  obtain ⟨d, followed, now⟩ := ranOn_cause wf running order [] (List.append_nil _).symm
  rw [acted] at runs
  obtain rfl := Option.some.inj (runs.symm.trans followed.running)
  exact ⟨followed.progress.trans (if_pos (mem_order wf _)), followed.startHeading, followed.holdTarget, followed.cancelSeen,
    now⟩

end RunningSegment

theorem sampled_eq (ticks : Int) : sampled ticks = max (-2000) (min 2000 ticks) := clampTo_eq _ _ _ (by decide)

/-- The travel and the turn of a period, in the terms of the statements (R37, R38, R40, R44). -/
theorem handedOn_eq {dl dr dh : Int} (hl : dl = max (-2000) (min 2000 s.pose.ticks.left))
    (hr : dr = max (-2000) (min 2000 s.pose.ticks.right))
    (hh : dh = (s.pose.remainder + (dr - dl) * 4096) / (spinTicks s.config : Int)) :
    handedOn s = ⟨((dl + dr) * tickLength s.config).tdiv 2, dh⟩ := by
  rw [← sampled_eq] at hl hr
  subst hl hr hh
  rfl

/-- Settles O41: part by part, until the segment's record is written. -/
theorem travelJoinsTheProgress : Obligations.TravelJoinsTheProgress := by
  intro order s c dl dr dh grown ready wf ok running hl hr hh hgrown
  have handed := handedOn_eq hl hr hh
  obtain rfl : grown = grownProgress (handedOn s) c := by
    rw [hgrown, handed, grownProgress]
    cases motion : c.segment.motion with
    | line | dock => exact (clampTo_eq _ _ _ (by decide)).symm
    | spin => exact (clampTo_eq _ _ _ (by decide)).symm
    | pause => rfl
  have travel : (handedOn s).travel = ((dl + dr) * tickLength s.config).tdiv 2 := by rw [handed]
  have reached (kind : EndKind) : ReachedEnding c.segment.motion (grownProgress (handedOn s) c) kind ↔
      ownEnding (progressed (handedOn s) c) = some kind :=
    (ownEnding_iff (e := progressed (handedOn s) c)).symm
  refine ⟨_, exec_effect rfl ready rfl, fun p q stop hq => ?_, fun stop first => period_halt wf ok running stop first,
    fun rest slewFirst turns => ?_, fun kind reaches first stop early => ⟨fun e runs same => ?_, fun rest quiet slewLast => ?_⟩,
    fun e runs same => ?_⟩
  · rw [← travel] at hq
    exact period_reverse wf ok running stop hq
  · rw [refresh_segments, period_moving wf ok running slewFirst turns]
    exact ranOn_running running order
  · exact period_ends wf ok running ((reached kind).mp reaches) first stop early runs same
  · exact period_writes wf ok running ((reached kind).mp reaches) first stop early rest quiet slewLast
  · obtain ⟨progress, startHeading, holdTarget, cancelSeen, now⟩ := period_context wf ok running runs same
    have acts := mem_order wf .segment
    exact ⟨progress, startHeading, holdTarget, cancelSeen, fun kind reaches =>
      ⟨fun x stands cancelled completed => now.replaced acts ((reached kind).mp reaches) stands cancelled completed,
        fun first => now.of_ending acts ((reached kind).mp reaches) first⟩,
      fun x stands keeps => now.of_standing stands (keeps.imp_right fun far ending => far ((reached _).mpr ending)),
      fun first turning goes => now.of_turning first turning fun kind ending => goes kind ((reached kind).mpr ending)⟩

end Sys2Proof.Machine
end

section
/-! The pose and the Classifier through a control period (R28, R37 to R44), and an idle part (R44, R102). -/

namespace Sys2Proof.Machine

/-! ### The odometry update -/

/-- The odometry update, in the terms of the statements (R37 to R42). -/
theorem odometry_eq (cfg : Settings) (dl dr : Int) (p : Pose) {d acc dh : Int} {i dist : Nat}
    (hd : d = (dl + dr) * tickLength cfg) (hacc : acc = p.remainder + (dr - dl) * 4096)
    (hdh : dh = acc / (spinTicks cfg : Int)) (hi : i = (p.heading + 32) / 64 % 64)
    (hdist : dist = min (p.distance + d.natAbs / 2) 2147483647) : odometry cfg dl dr p =
      { xUm := max (-30000000) (min 30000000 (p.xUm + (d * cosAt i).tdiv 8192))
        yUm := max (-30000000) (min 30000000 (p.yUm + (d * sinAt i).tdiv 8192))
        heading := ((p.heading + dh) % 4096).toNat
        remainder := (acc - dh * spinTicks cfg).toNat
        uFix := p.uFix
        distance := dist
        u := min 255 (p.uFix + dist / 1000 * driftRate cfg / 1000)
        ticks := ⟨0, 0⟩
        levels := p.levels } := by
  subst hd hacc hdh hi hdist
  have step (v e trig : Int) : stepUm v e trig = max (-30000000) (min 30000000 (v + (e * trig).tdiv 8192)) :=
    clampTo_eq _ _ _ (by decide)
  simp only [odometry, step]
  rfl

/-- What a heading step leaves, over the remainder it divides (R40). -/
theorem odometry_heading (cfg : Settings) (dl dr : Int) (p : Pose) {ticks : Int} (hticks : ticks = spinTicks cfg)
    (pos : 0 < ticks) : ((odometry cfg dl dr p).heading : Int) =
        (p.heading + (p.remainder + (dr - dl) * 4096) / ticks) % 4096 ∧
      ((odometry cfg dl dr p).remainder : Int) = (p.remainder + (dr - dl) * 4096) % ticks := by
  have rest : (p.remainder + (dr - dl) * 4096) - (p.remainder + (dr - dl) * 4096) / ticks * ticks =
      (p.remainder + (dr - dl) * 4096) % ticks := by
    rw [Int.emod_def, Int.mul_comm ticks]
  have heading : (odometry cfg dl dr p).heading =
      ((p.heading + (p.remainder + (dr - dl) * 4096) / ticks) % 4096).toNat := by rw [hticks]; rfl
  have remainder : (odometry cfg dl dr p).remainder = ((p.remainder + (dr - dl) * 4096) % ticks).toNat := by
    rw [← rest, hticks]
    rfl
  rw [heading, remainder, Int.toNat_of_nonneg (Int.emod_nonneg _ (by decide)),
    Int.toNat_of_nonneg (Int.emod_nonneg _ pos.ne')]
  exact ⟨rfl, rfl⟩

/-- A turn and its reverse cancel (R40). -/
theorem odometry_cancels {cfg : Settings} {p : Pose} (dl dr : Int) (ok : ConfigOk cfg) (ranges : PoseRanges cfg p) :
    (odometry cfg dr dl (odometry cfg dl dr p)).heading = p.heading ∧
      (odometry cfg dr dl (odometry cfg dl dr p)).remainder = p.remainder := by
  obtain ⟨ticks, hticks⟩ : ∃ ticks : Int, ticks = spinTicks cfg := ⟨_, rfl⟩
  have pos : 0 < ticks := by
    rw [hticks]
    exact_mod_cast ok.spinTicks_pos
  have small : (p.remainder : Int) < ticks := by
    rw [hticks]
    exact_mod_cast ranges.remainder_range
  obtain ⟨h1, r1⟩ := odometry_heading cfg dl dr p hticks pos
  obtain ⟨h2, r2⟩ := odometry_heading cfg dr dl (odometry cfg dl dr p) hticks pos
  have divided := Int.emod_add_mul_ediv (p.remainder + (dr - dl) * 4096) ticks
  rw [← r1] at divided
  have back : ((odometry cfg dl dr p).remainder : Int) + (dl - dr) * 4096 =
      p.remainder + ticks * -((p.remainder + (dr - dl) * 4096) / ticks) := by
    linarith
  rw [back, Int.add_mul_ediv_left _ _ pos.ne', Int.ediv_eq_zero_of_lt (Int.natCast_nonneg _) small, h1] at h2
  rw [back, Int.add_mul_emod_self_left, Int.emod_eq_of_lt (Int.natCast_nonneg _) small] at r2
  refine ⟨?_, by exact_mod_cast r2⟩
  have range := ranges.heading_range
  omega

/-! ### The period's frame -/

theorem handCause_periodMs {kind : EndKind} (own : kind.ofPeriod) (record : Option Ref) (s : State) :
    (handCause kind record s).drive.periodMs = s.drive.periodMs := by
  cases running : s.segments.running with
  | none => rw [handCause_idle _ _ _ running]
  | some c =>
    cases taken : takesCause c kind with
    | false => rw [handCause_dropped _ _ _ c running taken]
    | true =>
      rw [handCause_taken _ _ _ c running taken]
      rcases stopForCause_ramp s.config c.segment.motion (kind := kind) (by rcases own with rfl | rfl | rfl | rfl <;> simp)
        (by rcases own with rfl | rfl | rfl | rfl <;> simp) with stop | stop <;> simp only [stop]
      exact (combineStop_ramp_wheels _ _ _ _).2

theorem partAction_periodMs (tag : Option Nat) (h : Handed) (part : PeriodPart) (s : State) :
    (partAction tag h part s).drive.periodMs = s.drive.periodMs := by
  cases part with
  | segment =>
    show (takeProgress tag h s).drive.periodMs = _
    unfold takeProgress
    split
    · rfl
    · split
      · dsimp only
        split
        next kind ending => exact handCause_periodMs (ownEnding_ofPeriod ending) none _
        · rfl
      · rfl
  | drive =>
    show (takeBackoff h s).drive.periodMs = _
    unfold takeBackoff
    split
    · dsimp only
      split <;> rfl
    · rfl
  | monitor =>
    show (evaluate s).drive.periodMs = _
    unfold evaluate
    split
    · rfl
    · unfold handPending
      split
      · rfl
      · exact handCause_periodMs (.inr (.inr (.inl rfl))) _ _
      · exact handCause_periodMs (.inr (.inr (.inr rfl))) _ _
  | slew => rfl

theorem periodFold_periodMs (tag : Option Nat) (h : Handed) (parts : List PeriodPart) {s : State}
    (zero : s.drive.periodMs = 0) : (parts.foldl (fun t part => periodPart tag h part t) s).drive.periodMs = 0 := by
  induction parts generalizing s with
  | nil => exact zero
  | cons part parts ih =>
    refine ih (s := periodPart tag h part s) ?_
    rw [periodPart_eq]
    exact settle_drive (P := fun d => d.periodMs = 0) (fun _ _ was _ same => same.trans was) (fun _ _ was => was)
      ((partAction_periodMs tag h part s).trans zero)

theorem partAction_centreOk (tag : Option Nat) (h : Handed) (part : PeriodPart) {s : State} (ok : CentreOk s) :
    CentreOk (partAction tag h part s) := by
  cases part <;> exact centreOk_of_same ok (by simp [partAction]) (by simp [partAction]) (by simp [partAction])

theorem periodFold_centreOk (tag : Option Nat) (h : Handed) (parts : List PeriodPart) {s : State} (ok : CentreOk s) :
    CentreOk (parts.foldl (fun t part => periodPart tag h part t) s) := by
  induction parts generalizing s with
  | nil => exact ok
  | cons part parts ih =>
    refine ih (s := periodPart tag h part s) ?_
    rw [periodPart_eq]
    exact settle_centreOk _ (partAction_centreOk tag h part ok)

/-! ### The Classifier with nothing started and nothing written -/

/-- The results of the Classifier stand, unless a record was written or a segment started (R28, R62). -/
def ZonesStand (s t : State) : Prop :=
  s.segments.completions.length < t.segments.completions.length ∨
    (t.segments.completions.length = s.segments.completions.length ∧
      ((s.segments.running = none ∧ t.segments.running.isSome = true) ∨
        (t.zones = s.zones ∧ t.segments.running.map Context.segment = s.segments.running.map Context.segment)))

theorem ZonesStand.refl (s : State) : ZonesStand s s := .inr ⟨rfl, .inr ⟨rfl, rfl⟩⟩

theorem ZonesStand.trans {s t u : State} (h : ZonesStand s t) (k : ZonesStand t u) : ZonesStand s u := by
  rcases h with longer | ⟨length, started | ⟨zones, segment⟩⟩ <;> rcases k with longer' | ⟨length', started' | ⟨zones', segment'⟩⟩
  · exact .inl (longer.trans longer')
  · exact .inl (longer.trans_eq length'.symm)
  · exact .inl (longer.trans_eq length'.symm)
  · exact .inl (length ▸ longer')
  · rw [started'.1] at started
    exact absurd started.2 nofun
  · refine .inr ⟨length'.trans length, .inl ⟨started.1, ?_⟩⟩
    rw [← Option.isSome_map, segment', Option.isSome_map]
    exact started.2
  · exact .inl (length ▸ longer')
  · refine .inr ⟨length'.trans length, .inl ⟨?_, started'.2⟩⟩
    rw [started'.1] at segment
    exact Option.map_eq_none_iff.mp segment.symm
  · exact .inr ⟨length'.trans length, .inr ⟨zones'.trans zones, segment'.trans segment⟩⟩

theorem settleOnce_zonesStand {s : State} (due : (s.canWrite || s.canStart) = true) : ZonesStand s (settleOnce s) := by
  by_cases write : s.canWrite = true
  · rw [settleOnce_write write]
    exact .inl (by simpa using writeRecord_longer write)
  · have start : s.canStart = true := by simpa [write] using due
    obtain ⟨queued, idle, -⟩ := (canStart_iff s).mp start
    obtain ⟨g, rest, queue⟩ := List.exists_cons_of_ne_nil queued
    rw [settleOnce_start (by simpa using write) start]
    refine .inr ⟨by rw [startSegment_completions], .inl ⟨idle, ?_⟩⟩
    rw [← Option.isSome_map, startSegment_segment s g rest queue]
    rfl

theorem settle_zonesStand (s : State) : ZonesStand s (settle s) := by
  have loop : ∀ n (s : State), ZonesStand s (settleLoop n s) := by
    intro n
    induction n with
    | zero => exact ZonesStand.refl
    | succ n ih =>
      intro s
      by_cases due : (s.canWrite || s.canStart) = true
      · rw [settleLoop, if_pos due]
        exact (settleOnce_zonesStand due).trans (ih _)
      · rw [settleLoop, if_neg due]
        exact .refl s
  exact (loop _ s).trans (.inr ⟨by rw [settle, parkIfDrained_segments], .inr ⟨by rw [settle, parkIfDrained_zones],
    by rw [settle, parkIfDrained_segments]⟩⟩)

theorem partAction_zones (tag : Option Nat) (h : Handed) (part : PeriodPart) (s : State) :
    (partAction tag h part s).zones = s.zones := by cases part <;> simp [partAction]

theorem periodFold_zonesStand (tag : Option Nat) (h : Handed) (parts : List PeriodPart) (s : State) :
    ZonesStand s (parts.foldl (fun t part => periodPart tag h part t) s) := by
  induction parts generalizing s with
  | nil => exact .refl s
  | cons part parts ih =>
    have acted : ZonesStand s (partAction tag h part s) := .inr ⟨by rw [partAction_completions], .inr
      ⟨partAction_zones tag h part s, partAction_segment tag h part s⟩⟩
    refine acted.trans ?_
    rw [List.foldl_cons, periodPart_eq]
    exact (settle_zonesStand _).trans (ih _)

theorem centreClassified_of_same {s t : State} (h : CentreClassified s) (zones : t.zones = s.zones)
    (config : t.config = s.config) (table : t.table = s.table) (pose : t.pose = s.pose) : CentreClassified t := by
  obtain ⟨centre, probe, limit⟩ := h
  exact ⟨by rw [zones, table, pose]; exact centre, by rw [zones]; exact probe,
    by rw [zones, config, table, pose]; exact limit⟩

theorem periodUpdate_centre {s : State} (straight : s.straightRunning = none) : CentreClassified (periodUpdate s) := by
  refine centreClassified_of_same (classifySilently_centre { s with
      pose := odometry s.config (sampled s.pose.ticks.left) (sampled s.pose.ticks.right) s.pose
      drive := { s.drive with periodMs := 0 } } straight) ?_ ?_ ?_ ?_ <;> simp [periodUpdate, classifySilently]

/-! ### An idle part -/

/-- The update of a period changes the pose, the Classifier and what it reports, and starts the timer again (R38, R102). -/
theorem periodUpdate_frame (s : State) : periodUpdate s = { s with
    pose := (periodUpdate s).pose
    zones := (periodUpdate s).zones
    drive := { s.drive with periodMs := 0 }
    latches := (periodUpdate s).latches
    link := { s.link with
      notices := (periodUpdate s).link.notices
      noticeTimer := (periodUpdate s).link.noticeTimer } } := by
  unfold periodUpdate
  rcases classify_cases .odometry { s with
      pose := odometry s.config (sampled s.pose.ticks.left) (sampled s.pose.ticks.right) s.pose
      drive := { s.drive with periodMs := 0 } } with ⟨silent, -⟩ | ⟨reported, -⟩
  · rw [silent]
    rfl
  · rw [reported, offerNotice]
    split <;> rfl

/-- What a period's parts leave of an idle part: its wheels and its stop alone may change (R102). -/
theorem idle_parts (tag : Option Nat) (h : Handed) (parts : List PeriodPart) {x : State} (idle : Idle x) :
    ∃ judged wheels stop, parts.foldl (fun t part => periodPart tag h part t) x = { x with
        clearance := judged
        drive := { x.drive with wheels := wheels, stop := stop } } ∧
      (judged = freshClearance ∨ (.monitor ∉ parts ∧ judged = x.clearance)) ∧ (x.drive.stop = .none → stop = .none) := by
  induction parts generalizing x with
  | nil => exact ⟨_, _, _, rfl, .inr ⟨List.not_mem_nil, rfl⟩, id⟩
  | cons part parts ih =>
    obtain ⟨judged, wheels, stop, acts, fresh, none⟩ : ∃ judged wheels stop, partAction tag h part x = { x with
        clearance := judged
        drive := { x.drive with wheels := wheels, stop := stop } } ∧
        (judged = freshClearance ∨ (part ≠ .monitor ∧ judged = x.clearance)) ∧ (x.drive.stop = .none → stop = .none) := by
      cases part with
      | segment => exact ⟨_, _, _, takeProgress_idle tag h idle.no_running, .inr ⟨nofun, rfl⟩, id⟩
      | drive =>
        refine ⟨x.clearance, (takeBackoff h x).drive.wheels, (takeBackoff h x).drive.stop, ?_, .inr ⟨nofun, rfl⟩, fun none => ?_⟩
        · show takeBackoff h x = _
          unfold takeBackoff
          split
          · dsimp only
            split <;> rfl
          · rfl
        · rw [takeBackoff_other fun ⟨p, reverse⟩ => absurd (none.symm.trans reverse) nofun, none]
      | monitor => exact ⟨_, _, _, evaluate_idle idle.no_running, .inl rfl, id⟩
      | slew =>
        refine ⟨x.clearance, (slewStep x).drive.wheels, (slewStep x).drive.stop, rfl, .inr ⟨nofun, rfl⟩, fun none => ?_⟩
        rw [slewStep_stop, none]
        rfl
    obtain ⟨y, hy⟩ : ∃ y, y = partAction tag h part x := ⟨_, rfl⟩
    have yidle : Idle y := by
      rw [hy, acts]
      exact ⟨idle.no_running, idle.no_queue, idle.not_parking⟩
    have settled : periodPart tag h part x = y := by rw [periodPart_eq, ← hy, settle_of_idle y yidle]
    obtain ⟨judged', wheels', stop', later, fresh', none'⟩ := ih yidle
    refine ⟨judged', wheels', stop', ?_, ?_, fun was => none' ?_⟩
    · rw [List.foldl_cons, settled, later, hy, acts]
    · rcases fresh' with is | ⟨absent, is⟩
      · exact .inl is
      · rw [hy, acts] at is
        rcases fresh with was | ⟨other, was⟩
        · exact .inl (is.trans was)
        · exact .inr ⟨fun mem => (List.mem_cons.mp mem).elim (fun same => other same.symm) absent, is.trans was⟩
    · rw [hy, acts]
      exact none was

/-- What a classification reports stands in the Classifier, the notices and the latches (R31, R180). -/
theorem zoneReported_of_same {cause : NoticeCause} {s s' t t' : State} (h : ZoneReported cause s t)
    (zones : s'.zones = s.zones) (link : s'.link = s.link) (latches : s'.latches = s.latches) (config : s'.config = s.config)
    (zones' : t'.zones = t.zones) (link' : t'.link = t.link) (latches' : t'.latches = t.latches)
    (pose' : t'.pose = t.pose) : ZoneReported cause s' t' := by
  have joined (l : List Notice) (was : NoticesJoined l s t) : NoticesJoined l s' t' := by
    obtain ⟨queue, loaded, left⟩ := was
    exact ⟨by rw [link, link']; exact queue, by rw [link, link', config]; exact loaded, by rw [link, link']; exact left⟩
  obtain ⟨same, reports, overflows⟩ := h
  unfold ZoneReported
  rw [zones, link, latches, zones', latches', pose']
  exact ⟨fun is => (same is).imp_left (joined _), fun other room => (reports other room).imp_right (joined _),
    fun other full => (overflows other full).imp_left (joined _)⟩

/-- A control period of an idle part (R31, R102). -/
theorem period_idle {order : List PeriodPart} {s : State} (wf : (Instr.controlPeriodExpiry order).wellFormed = true)
    (idle : Idle s) : ZoneReported .odometry s (controlPeriodEffect order s) ∧
      (s.drive.stop = .none → (controlPeriodEffect order s).drive.stop = .none) ∧
      controlPeriodEffect order s = { s with
        pose := (controlPeriodEffect order s).pose
        zones := (controlPeriodEffect order s).zones
        clearance := freshClearance
        drive := { s.drive with
          wheels := (controlPeriodEffect order s).drive.wheels
          stop := (controlPeriodEffect order s).drive.stop
          periodMs := 0 }
        latches := (controlPeriodEffect order s).latches
        link := { s.link with
          notices := (controlPeriodEffect order s).link.notices
          noticeTimer := (controlPeriodEffect order s).link.noticeTimer } } := by
  obtain ⟨x, hx⟩ : ∃ x, x = periodUpdate s := ⟨_, rfl⟩
  have xidle : Idle x := by
    rw [hx]
    exact ⟨by simpa using idle.no_running, by simpa using idle.no_queue, by simpa using idle.not_parking⟩
  have reported : ZoneReported .odometry s x := by
    rw [hx]
    exact zoneReported_of_same (classify_reported .odometry { s with
      pose := odometry s.config (sampled s.pose.ticks.left) (sampled s.pose.ticks.right) s.pose
      drive := { s.drive with periodMs := 0 } }) rfl rfl rfl rfl rfl rfl rfl rfl
  obtain ⟨judged, wheels, stop, acts, fresh, none⟩ := idle_parts s.runningTag (handedOn s) order xidle
  obtain rfl : judged = freshClearance := fresh.resolve_right fun stale => stale.1 (mem_order wf _)
  have effect : controlPeriodEffect order s = { x with
      clearance := freshClearance
      drive := { x.drive with wheels := wheels, stop := stop } } := by
    rw [controlPeriodEffect, orderOf_wellFormed wf, ← hx, acts]
  have drive : x.drive = { s.drive with periodMs := 0 } := by rw [hx, periodUpdate_drive]
  refine ⟨?_, fun was => ?_, ?_⟩
  · rw [effect]
    exact zoneReported_of_same reported rfl rfl rfl rfl rfl rfl rfl rfl
  · rw [effect]
    exact none (by rw [drive, was])
  · rw [effect]
    dsimp only
    rw [drive]
    dsimp only
    have frame := periodUpdate_frame s
    rw [← hx] at frame
    rw [frame]

end Sys2Proof.Machine
end

section
/-! A control period of a running LINE or DOCK: its judgement in any order of the blocks (R53, R64, R65, R77, R161). -/

namespace Sys2Proof.Machine

variable {h : Handed} {z t x : State} {e d c : Context} {s : State} {order before after : List PeriodPart} {part : PeriodPart}

/-! ### What an evaluation looks at -/

/-- Two states whose Classifier, configuration, table, pose and floor sensors are the same: an evaluation finds the same
in both (R53). -/
structure SamePlace (s t : State) : Prop where
  zones : t.zones = s.zones
  config : t.config = s.config
  table : t.table = s.table
  pose : t.pose = s.pose
  floor : t.floor = s.floor

theorem SamePlace.refl (s : State) : SamePlace s s := ⟨rfl, rfl, rfl, rfl, rfl⟩

theorem SamePlace.trans (h : SamePlace s z) (k : SamePlace z t) : SamePlace s t :=
  ⟨k.zones.trans h.zones, k.config.trans h.config, k.table.trans h.table, k.pose.trans h.pose, k.floor.trans h.floor⟩

theorem SamePlace.symm (h : SamePlace s t) : SamePlace t s :=
  ⟨h.zones.symm, h.config.symm, h.table.symm, h.pose.symm, h.floor.symm⟩

theorem pathOf_of_same (config : t.config = s.config) (table : t.table = s.table) (pose : t.pose = s.pose) (m : Motion) :
    pathOf t m = pathOf s m := by
  unfold pathOf
  rw [config, table, pose]

theorem probeOf_of_same (config : t.config = s.config) (table : t.table = s.table) (pose : t.pose = s.pose) (m : Motion) :
    probeOf t m = probeOf s m := by
  unfold probeOf
  rw [config, table, pose]

theorem SamePlace.path (place : SamePlace s t) (m : Motion) : pathOf t m = pathOf s m :=
  pathOf_of_same place.config place.table place.pose m

theorem SamePlace.probe (place : SamePlace s t) (m : Motion) : probeOf t m = probeOf s m :=
  probeOf_of_same place.config place.table place.pose m

/-- A LINE or a DOCK is free exactly where no cause blocks it (R64, R65). -/
theorem free_iff_not_blocks (s : State) (m : Motion) :
    ((∀ p, pathOf s m = some p → blockGap s.config ≤ p.gap) ∧ (probeOf s m).cls ≠ .keepout) ↔ ∀ b, ¬ Blocks s m b := by
  constructor
  · rintro ⟨apart, passable⟩ b (⟨p, found, close, -⟩ | ⟨-, keepout, -⟩)
    · exact absurd (apart p found) (by omega)
    · exact passable keepout
  · exact fun free => (blocks_or_free s m).resolve_left fun ⟨b, blocks⟩ => free b blocks

theorem SamePlace.classified {m : Motion} (place : SamePlace s t) (classified : PathClassified s m) : PathClassified t m :=
  pathClassified_of_same classified place.zones place.config place.table place.pose

theorem SamePlace.blocks {m : Motion} {b : EndCause} (place : SamePlace s t) (blocks : Blocks s m b) : Blocks t m b := by
  unfold Blocks
  rw [place.path, place.probe, place.config]
  exact blocks

theorem SamePlace.suspects (place : SamePlace s t) : t.anySuspect = s.anySuspect := by
  unfold State.anySuspect
  rw [place.floor]

theorem leaves_place (leaves : PartLeaves h part z e t) : SamePlace z t := by
  cases leaves <;> exact ⟨rfl, rfl, rfl, rfl, rfl⟩

theorem leaves_clearance (leaves : PartLeaves h part z e t) (other : part ≠ .monitor) : t.clearance = z.clearance := by
  cases leaves with
  | judged _ own _ => exact absurd own other
  | blocked _ _ own _ _ _ _ => exact absurd own other
  | _ => rfl

/-- A cause that stands is never taken away (R90). -/
theorem leaves_cause (leaves : PartLeaves h part z e t) (running : z.segments.running = some e)
    (runs : t.segments.running = some d) (stands : e.cause ≠ none) : d.cause ≠ none := by
  cases leaves with
  | grown _ _ =>
    obtain rfl := Option.some.inj runs
    exact stands
  | own kind _ _ =>
    obtain rfl := Option.some.inj runs
    exact nofun
  | drive _ _ _ _ _ _ _ _ | judged _ _ _ | slew _ =>
    obtain rfl := Option.some.inj (running.symm.trans runs)
    exact stands
  | blocked _ x _ _ _ _ _ =>
    obtain rfl := Option.some.inj runs
    exact nofun

theorem leaves_monitor (leaves : PartLeaves h .monitor z e t) : t = evaluate z := by
  cases leaves with
  | grown own _ => cases own
  | own _ own _ => cases own
  | drive _ own _ _ _ _ _ _ => cases own
  | judged _ _ is => exact is.symm
  | blocked _ _ _ _ _ _ is => exact is.symm
  | slew own => cases own

/-- A blocking evaluation of a segment with no cause sets one (R64, R65, R90). -/
theorem evaluate_sets {b : EndCause} (running : z.segments.running = some e)
    (straight : e.segment.motion.isStraight = true) (classified : PathClassified z e.segment.motion)
    (blocks : Blocks z e.segment.motion b) (first : e.cause = none) :
    (evaluate z).segments.running = some (withCause e b.kind b.record) := by
  rw [evaluate_blocked running straight classified blocks,
    handCause_taken b.kind b.record { z with clearance := evaluation z e } e running (takesCause_first e b.kind first)]
  rfl

/-! ### A LINE or a DOCK through the period -/

/-- Once the monitor has acted, its items are those of an evaluation, and what blocks has set a cause (R53, R64, R65). -/
structure Judging (h : Handed) (c : Context) (x : State) (order before : List PeriodPart) (z : State) (e : Context) :
    Prop where
  place : SamePlace x z
  judged : .monitor ∈ before → ∃ w d, z.clearance = evaluation w d ∧ SamePlace x w ∧ d.segment = c.segment ∧
    d.progress = (if order.idxOf .segment < order.idxOf .monitor then grownProgress h c else c.progress)
  blocked : .monitor ∈ before → (∃ b, Blocks x c.segment.motion b) → e.cause ≠ none

theorem Judging.next (judging : Judging h c x order before z e) (nodup : order.Nodup)
    (split : order = before ++ part :: after) (followed : Followed h c s before z e)
    (next : Followed h c s (before ++ [part]) t d) (leaves : PartLeaves h part z e t)
    (straight : c.segment.motion.isStraight = true) (classified : PathClassified x c.segment.motion) :
    Judging h c x order (before ++ [part]) t d := by
  obtain ⟨place, judged, blocked⟩ := judging
  have running := followed.running
  refine ⟨place.trans (leaves_place leaves), fun mem => ?_, fun mem blocks => ?_⟩
  · by_cases monitor : part = .monitor
    · subst monitor
      have straight' : e.segment.motion.isStraight = true := by rw [followed.segment]; exact straight
      refine ⟨z, e, ?_, place, followed.segment, ?_⟩
      · rw [leaves_monitor leaves, evaluate_straight_clearance running straight']
      · rw [followed.progress, grownBy]
        simp only [mem_before_iff (other := .segment) nodup split]
    · rw [leaves_clearance leaves monitor]
      exact judged (by simpa [Ne.symm monitor] using mem)
  · by_cases monitor : part = .monitor
    · subst monitor
      obtain ⟨b, blocks⟩ := blocks
      by_cases first : e.cause = none
      · have sets := evaluate_sets running (by rw [followed.segment]; exact straight)
          (by rw [followed.segment]; exact place.classified classified)
          (by rw [followed.segment]; exact place.blocks blocks) first
        rw [← leaves_monitor leaves] at sets
        obtain rfl := Option.some.inj (sets.symm.trans next.running)
        exact nofun
      · exact leaves_cause leaves running next.running first
    · exact leaves_cause leaves running next.running (blocked (by simpa [Ne.symm monitor] using mem) blocks)

/-- What a segment with a free path and more than its ending before it keeps: no cause, its phase and no stop (R64, R65,
R77, R161). -/
structure Going (c : Context) (x : State) (z : State) (e : Context) : Prop where
  place : SamePlace x z
  cause : e.cause = none
  phase : e.phase = c.phase
  stop : z.drive.stop = .none

theorem Going.next (going : Going c x z e) (nodup : order.Nodup) (split : order = before ++ part :: after)
    (followed : Followed h c s before z e) (next : Followed h c s (before ++ [part]) t d) (leaves : PartLeaves h part z e t)
    (straight : c.segment.motion.isStraight = true) (classified : PathClassified x c.segment.motion)
    (free : ∀ b, ¬ Blocks x c.segment.motion b) (first : c.cause = none)
    (far : ownEnding (progressed h c) = none) : Going c x t d := by
  obtain ⟨place, cause, phase, stop⟩ := going
  have running := followed.running
  have place' := place.trans (leaves_place leaves)
  cases leaves with
  | grown _ _ =>
    obtain rfl := Option.some.inj next.running
    exact ⟨place', cause, phase, stop⟩
  | own kind own ends =>
    subst own
    have progress : e.progress = c.progress := followed.progress.trans (if_neg (not_mem_of_split nodup split))
    rw [endsWith_of_same followed.segment progress (cause.trans first.symm), endsWith_first first, far] at ends
    cases ends
  | drive dd _ _ _ _ _ _ still =>
    obtain rfl := Option.some.inj (running.symm.trans next.running)
    refine ⟨place', cause, phase, (congrArg Drive.stop (still ?_)).trans stop⟩
    rintro ⟨p, reverse⟩
    exact absurd (stop.symm.trans reverse) nofun
  | judged _ _ _ =>
    obtain rfl := Option.some.inj (running.symm.trans next.running)
    exact ⟨place', cause, phase, stop⟩
  | blocked _ b _ _ _ _ is =>
    rw [← followed.segment] at straight classified free
    obtain blocks | ⟨apart, passable⟩ := blocks_or_free z e.segment.motion
    · obtain ⟨b, blocks⟩ := blocks
      exact absurd (place.symm.blocks blocks) (free b)
    · have clear := evaluate_clear running straight (place.classified classified) apart passable
      have both := congrArg (fun y : State => y.segments.running) (clear.symm.trans is)
      have taken : e.cause = some ⟨b.kind, b.record⟩ :=
        congrArg Context.cause (Option.some.inj (running.symm.trans both))
      exact absurd (cause.symm.trans taken) nofun
  | slew _ =>
    obtain rfl := Option.some.inj (running.symm.trans next.running)
    exact ⟨place', cause, phase, by rw [slewStep_stop, stop]; rfl⟩

/-- What a blocking cause leaves of the segment and the drive: it stands, with a RAMP in progress (R90, R107). -/
structure BlockedBy (b : EndCause) (z : State) (e : Context) : Prop where
  cause : e.cause = some b
  phase : e.phase = .stopping
  stop : ∃ base, z.drive.stop = .ramp base

theorem BlockedBy.next {b : EndCause} (blocked : BlockedBy b z e) (kind : b.kind = .blocked ∨ b.kind = .blockedZone)
    (running : z.segments.running = some e) (runs : t.segments.running = some d) (leaves : PartLeaves h part z e t) :
    BlockedBy b t d := by
  obtain ⟨cause, phase, base, stop⟩ := blocked
  cases leaves with
  | grown _ _ =>
    obtain rfl := Option.some.inj runs
    exact ⟨cause, phase, base, stop⟩
  | own _ _ ends =>
    have cancelled := (endsWith_standing cause ends).2
    rcases kind with is | is <;> exact absurd (cancelled.symm.trans is) nofun
  | drive dd _ _ _ _ _ _ still =>
    obtain rfl := Option.some.inj (running.symm.trans runs)
    refine ⟨cause, phase, base, (congrArg Drive.stop (still ?_)).trans stop⟩
    rintro ⟨p, reverse⟩
    exact absurd (stop.symm.trans reverse) nofun
  | judged _ _ _ =>
    obtain rfl := Option.some.inj (running.symm.trans runs)
    exact ⟨cause, phase, base, stop⟩
  | blocked _ _ _ first _ _ _ => exact absurd (first.symm.trans cause) nofun
  | slew _ =>
    obtain rfl := Option.some.inj (running.symm.trans runs)
    exact ⟨cause, phase, _, by rw [slewStep_stop, stop, advanceStop_ramp]⟩

/-- An evaluation that blocks a segment with no cause and no stop in progress (R64, R65, R90, R107). -/
theorem evaluate_hands {b : EndCause} (running : z.segments.running = some e)
    (straight : e.segment.motion.isStraight = true) (classified : PathClassified z e.segment.motion)
    (blocks : Blocks z e.segment.motion b) (first : e.cause = none) (stop : z.drive.stop = .none) :
    evaluate z = { z with
      clearance := evaluation z e
      segments := { z.segments with running := some { e with cause := some b, phase := .stopping } }
      drive := rampFrom e.holdTarget z.drive } :=
  (evaluate_blocked running straight classified blocks).trans
    (blocked_first (s := { z with clearance := evaluation z e }) running first (blocks_kind blocks) stop)

/-! ### The period of a running LINE or DOCK -/

section Judged

variable (wf : (Instr.controlPeriodExpiry order).wellFormed = true) (ok : SegmentsOk s.segments)
  (running : s.segments.running = some c) (straight : c.segment.motion.isStraight = true)
include wf running straight

omit wf in
theorem periodUpdate_path : PathClassified (periodUpdate s) c.segment.motion :=
  classify_path .odometry (straightRunning_of_running running straight)

theorem ranOn_judging : ∃ e, Followed (handedOn s) c s order (ranOn c s order) e ∧
    Judging (handedOn s) c (periodUpdate s) order order (ranOn c s order) e := by
  have nodup := order_nodup wf
  exact followed_invariant (Q := fun before z e => Judging (handedOn s) c (periodUpdate s) order before z e) nodup
    (followed_start running) ⟨.refl _, nofun, nofun⟩
    (fun before part after z e t d split followed next leaves judging =>
      judging.next nodup split followed next leaves straight (periodUpdate_path running straight)) order []
    (List.append_nil _).symm

theorem ranOn_going (free : ∀ b, ¬ Blocks (periodUpdate s) c.segment.motion b) (first : c.cause = none)
    (stop : s.drive.stop = .none) (far : ownEnding (progressed (handedOn s) c) = none) (before after : List PeriodPart)
    (split : order = before ++ after) :
    ∃ e, Followed (handedOn s) c s before (ranOn c s before) e ∧ Going c (periodUpdate s) (ranOn c s before) e := by
  have nodup := order_nodup wf
  exact followed_invariant (Q := fun _ z e => Going c (periodUpdate s) z e) nodup (followed_start running)
    ⟨.refl _, first, rfl, by rw [periodUpdate_drive, stop]⟩
    (fun before part after z e t d split followed next leaves going =>
      going.next nodup split followed next leaves straight (periodUpdate_path running straight) free first far)
    before after split

theorem ranOn_blocked {b : EndCause} {rest : List PeriodPart} (monitor : order = .monitor :: rest)
    (blocks : Blocks (periodUpdate s) c.segment.motion b) (first : c.cause = none) (stop : s.drive.stop = .none) :
    ∃ e, Followed (handedOn s) c s order (ranOn c s order) e ∧ BlockedBy b (ranOn c s order) e := by
  have nodup := order_nodup wf
  have start := followed_start (h := handedOn s) running
  have handed := evaluate_hands start.running straight (periodUpdate_path running straight) blocks first
    (by rw [periodUpdate_drive, stop])
  obtain ⟨e, followed, -, blocked⟩ := followed_invariant (Q := fun before z e =>
      (before = [] → z = periodUpdate s) ∧ (before ≠ [] → BlockedBy b z e)) nodup start
    ⟨fun _ => rfl, fun nonempty => absurd rfl nonempty⟩
    (fun before part after z e t d split followed next leaves ⟨early, late⟩ => by
      refine ⟨fun empty => absurd empty (by simp), fun _ => ?_⟩
      cases before with
      | nil =>
        obtain ⟨rfl, -⟩ := List.cons_eq_cons.mp (monitor.symm.trans split)
        have is := leaves_monitor leaves
        rw [early rfl, handed] at is
        have runs := next.running
        rw [is] at runs ⊢
        obtain rfl := Option.some.inj runs
        exact ⟨rfl, rfl, _, rfl⟩
      | cons _ _ => exact (late (List.cons_ne_nil _ _)).next (blocks_kind blocks) followed.running next.running leaves)
    order [] (List.append_nil _).symm
  exact ⟨e, followed, blocked (by rw [monitor]; exact List.cons_ne_nil _ _)⟩

include ok

/-- What a period leaves of a LINE or a DOCK that nothing ends: its progress (R64, R65, R77). -/
theorem period_going (free : ∀ b, ¬ Blocks (periodUpdate s) c.segment.motion b) (first : c.cause = none)
    (stop : s.drive.stop = .none) (far : ownEnding (progressed (handedOn s) c) = none) :
    (controlPeriodEffect order s).segments = { s.segments with running := some (progressed (handedOn s) c) } ∧
      (controlPeriodEffect order s).drive.stop = .none := by
  have acted := period_holds wf ok running fun before after split _ => by
    obtain ⟨e, followed, going⟩ := ranOn_going wf running straight free first stop far before after split
    exact canWrite_of_no_cause _ e followed.running going.cause
  obtain ⟨e, followed, going⟩ := ranOn_going wf running straight free first stop far order [] (List.append_nil _).symm
  obtain ⟨queue, completions, -⟩ := acted_segments (some c.segment.tag) (handedOn s) order (periodUpdate s)
  have context : e = progressed (handedOn s) c := by
    obtain ⟨-, segment, progress, startHeading, holdTarget, cancelSeen, -⟩ := followed
    obtain ⟨-, cause, phase, -⟩ := going
    rw [grownBy, if_pos (mem_order wf _)] at progress
    cases e
    simp_all [progressed]
  refine ⟨?_, by rw [acted]; exact going.stop⟩
  rw [acted]
  have runs := followed.running
  rw [periodUpdate_segments] at queue completions
  rw [context] at runs
  calc (ranOn c s order).segments
      = ⟨(ranOn c s order).segments.queue, (ranOn c s order).segments.running, (ranOn c s order).segments.completions⟩ := rfl
    _ = _ := by rw [runs, show (ranOn c s order).segments.queue = _ from queue,
      show (ranOn c s order).segments.completions = _ from completions]

omit ok in
/-- A blocking cause that the monitor finds first at rest has its record at once (R92, R93). -/
theorem period_blocked_writes {b : EndCause} {rest : List PeriodPart} (monitor : order = .monitor :: rest)
    (blocks : Blocks (periodUpdate s) c.segment.motion b) (first : c.cause = none) (stop : s.drive.stop = .none)
    (still : s.atRest = true) (quiet : s.floor.resultPending = false) :
    ∃ more, (controlPeriodEffect order s).segments.completions = s.segments.completions ++ ⟨c.segment, b.kind, c.cancelSeen,
      c.progress.tdiv 1000, b.record, s.drive.retries, s.link.timeBase⟩ :: more := by
  have start := followed_start (h := handedOn s) running
  obtain ⟨v, hv⟩ : ∃ v, v = evaluate (periodUpdate s) := ⟨_, rfl⟩
  have handed := hv.trans (evaluate_hands start.running straight (periodUpdate_path running straight) blocks first
    (by rw [periodUpdate_drive, stop]))
  have rest' : AtRest v := by
    refine atRest_of_ramp (s := periodUpdate s) (hold := c.holdTarget) (by rw [handed]) ?_ ?_
    · rw [atRest_of_setpoints (s := s) (by rw [periodUpdate_drive]) (by rw [periodUpdate_drive]), still]
    · rw [hv, evaluate_floor, start.pending, quiet]
  have vrunning : v.segments.running = some { c with cause := some b, phase := .stopping } := by rw [handed]
  obtain ⟨more, written⟩ := settle_writes v _ b vrunning rfl rest'
  have vcompletions : v.segments.completions = s.segments.completions := by rw [handed, ← periodUpdate_segments s]
  have vretries : v.drive.retries = s.drive.retries := by
    rw [handed]
    exact start.retries
  have vtime : v.link.timeBase = s.link.timeBase := by rw [hv, evaluate_link, start.time]
  have travelled : travelledOf { c with cause := some b, phase := .stopping } = c.progress.tdiv 1000 :=
    travelledOf_straight straight
  rw [vcompletions, travelled, vretries, vtime] at written
  obtain ⟨later, extended⟩ := (periodParts_shrinks (some c.segment.tag) (handedOn s) rest (settle v)).completions
  refine ⟨more ++ later, ?_⟩
  have effect : controlPeriodEffect order s =
      rest.foldl (fun t part => periodPart (some c.segment.tag) (handedOn s) part t) (settle v) := by
    rw [controlPeriod_eq wf running, monitor, hv]
    rfl
  rw [effect, extended, written, List.append_assoc]
  rfl

end Judged

end Sys2Proof.Machine
end

section
/-! What a control period makes of the pose, the Classifier and the running segment (R26 to R31, R37 to R42, R53, R90). -/

namespace Sys2Proof.Machine

variable {e c : Context} {s t : State} {order : List PeriodPart}

/-! ### The judgement at the end of the period -/

theorem clearanceJudged_of_same {found : Option InPath} {probe : ClassResult} (judged : ClearanceJudged c found probe t)
    (segment : e.segment = c.segment) (progress : e.progress = c.progress) : ClearanceJudged e found probe t := by
  obtain ⟨gap, constraining, gapTerm, allowance, probeClass, centreClass, zoneLimit, blocked, blockedZone, clear⟩ := judged
  refine ⟨gap, constraining, gapTerm, ?_, probeClass, centreClass, ?_, blocked, blockedZone, clear⟩
  · unfold AllowanceIsLeast
    rw [segment, progress]
    exact allowance
  · rw [segment]
    exact zoneLimit

/-- A LINE or a DOCK that reaches no ending of its own (R77, R161). -/
theorem ownEnding_none (far : match c.segment.motion with
      | .line _ distance _ _ => 2 < (distance : Int) - c.progress.tdiv 1000
      | .dock distance _ => 0 < (distance : Int) - c.progress.tdiv 1000
      | _ => False) : ownEnding c = none := by
  refine Option.eq_none_iff_forall_ne_some.mpr fun kind ending => ?_
  have reached := ownEnding_iff.mp ending
  cases motion : c.segment.motion with
  | line | dock =>
    simp only [motion, ReachedEnding] at far reached
    omega
  | spin => simp only [motion] at far
  | pause => simp only [motion] at far

/-- The progress of a LINE or a DOCK, in the terms of the statements (R44). -/
theorem grownProgress_straight (straight : c.segment.motion.isStraight = true) : grownProgress (handedOn s) c =
    max (-32767000) (min 32767000 (c.progress + c.segment.motion.sigma *
      ((max (-2000) (min 2000 s.pose.ticks.left) + max (-2000) (min 2000 s.pose.ticks.right)) *
        tickLength s.config).tdiv 2)) := by
  rw [handedOn_eq rfl rfl rfl, grownProgress]
  cases motion : c.segment.motion with
  | line | dock => exact clampTo_eq _ _ _ (by decide)
  | spin | pause => simp [motion, Motion.isStraight] at straight

theorem controlPeriodEffect_pose (order : List PeriodPart) (s : State) :
    (controlPeriodEffect order s).pose = (periodUpdate s).pose := by
  rw [controlPeriodEffect, periodFold_pose]

theorem periodUpdate_pose (s : State) : (periodUpdate s).pose =
    odometry s.config (sampled s.pose.ticks.left) (sampled s.pose.ticks.right) s.pose := by simp [periodUpdate]

section Straight

variable (wf : (Instr.controlPeriodExpiry order).wellFormed = true) (ok : SegmentsOk s.segments)
  (running : s.segments.running = some c) (straight : c.segment.motion.isStraight = true)
include wf ok running straight

/-- A LINE or a DOCK that still runs was judged in the period, by its progress at the monitor's part (R53, R62 to R66). -/
theorem period_judged (ends : t = refresh (controlPeriodEffect order s)) (runs : t.segments.running = some e)
    (same : e.segment = c.segment) :
    ClearanceJudged (if order.idxOf .segment < order.idxOf .monitor then e else c) (pathOf t c.segment.motion)
        (probeOf t c.segment.motion) t ∧
      ((∃ b, Blocks (periodUpdate s) c.segment.motion b) → e.cause ≠ none) := by
  subst ends
  rw [refresh_segments] at runs
  obtain ⟨progress, -⟩ := period_context wf ok running runs same
  have acted := period_runs wf ok running runs same
  obtain ⟨d, followed, place, judged, blocked⟩ := ranOn_judging wf running straight
  rw [acted] at runs ⊢
  obtain rfl := Option.some.inj (runs.symm.trans followed.running)
  have there := mem_order wf .monitor
  obtain ⟨w, d, clearance, before, segment, grown⟩ := judged there
  refine ⟨?_, blocked there⟩
  have after := before.symm.trans place
  have now := clearanceJudged_of_evaluation (w := w) (t := refresh (ranOn c s order)) (c := d) clearance after.zones
    after.config after.table after.pose after.suspects
    (by rw [segment]; exact before.classified (periodUpdate_path running straight))
  rw [segment] at now
  split at grown
  next early => exact if_pos early ▸ clearanceJudged_of_same now (same.trans segment.symm) (progress.trans grown.symm)
  next late => exact if_neg late ▸ clearanceJudged_of_same now segment.symm grown.symm

end Straight

theorem ZonesStand.zones {s t : State} (stand : ZonesStand s t)
    (completions : t.segments.completions = s.segments.completions)
    (running : t.segments.running.map Context.segment = s.segments.running.map Context.segment) : t.zones = s.zones := by
  rcases stand with longer | ⟨-, ⟨idle, started⟩ | ⟨zones, -⟩⟩
  · rw [completions] at longer
    exact absurd longer (lt_irrefl _)
  · rw [idle, Option.map_none, Option.map_eq_none_iff] at running
    rw [running] at started
    cases started
  · exact zones

/-- Settles O40: the update of the period, and its parts one by one. -/
theorem controlPeriodIntegratesThePose : Obligations.ControlPeriodIntegratesThePose := by
  refine ⟨fun order s dl dr d acc dh i dist ready wf hl hr hd hacc hdh hi hdist => ?_,
    fun order s c ready wf ok running straight => ?_,
    fun cfg p dl dr ok ranges => odometry_cancels dl dr ok ranges⟩
  · have pose : (refresh (controlPeriodEffect order s)).pose = odometry s.config dl dr s.pose := by
      rw [refresh_pose, controlPeriodEffect_pose, periodUpdate_pose, sampled_eq, sampled_eq, ← hl, ← hr]
    have period : (controlPeriodEffect order s).drive.periodMs = 0 :=
      periodFold_periodMs _ _ _ (by rw [periodUpdate_drive])
    have classified : CentreOk (periodUpdate s) := classify_centreOk _ _
    have parts : CentreOk (controlPeriodEffect order s) := periodFold_centreOk _ _ _ classified
    have centre : CentreOk (refresh (controlPeriodEffect order s)) :=
      centreOk_of_same parts (refresh_zones _) (refresh_table _) (refresh_pose _)
    unfold CentreOk at centre
    rw [refresh_table, controlPeriodEffect_table] at centre
    refine ⟨_, exec_effect rfl ready rfl, pose.trans (odometry_eq s.config dl dr s.pose hd hacc hdh hi hdist), period,
      centre, by constructor <;> simp, by simp, by simp, by simp, fun idle completions segment => ?_, fun idle => ?_⟩
    · have stand := periodFold_zonesStand s.runningTag (handedOn s) (orderOf order) (periodUpdate s)
      rw [refresh_segments] at completions segment
      have zones := stand.zones (t := controlPeriodEffect order s)
        (completions.trans (by rw [periodUpdate_segments])) (segment.trans (by rw [periodUpdate_segments]))
      exact centreClassified_of_same (periodUpdate_centre idle) (by rw [refresh_zones, zones]) (by simp) (by simp)
        (by rw [refresh_pose, controlPeriodEffect_pose])
    · obtain ⟨reported, stop, frame⟩ := period_idle wf idle
      exact ⟨zoneReported_of_same reported rfl rfl rfl rfl rfl rfl rfl rfl, stop, congrArg refresh frame⟩
  · obtain ⟨t, ht⟩ : ∃ t, t = refresh (controlPeriodEffect order s) := ⟨_, rfl⟩
    refine ⟨t, ht ▸ exec_effect rfl ready rfl, ?_⟩
    have segments : t.segments = (controlPeriodEffect order s).segments := by rw [ht, refresh_segments]
    have drive : t.drive = (controlPeriodEffect order s).drive := by rw [ht]; rfl
    have config : t.config = s.config := by rw [ht]; simp
    have table : t.table = s.table := by rw [ht]; simp
    have pose : (periodUpdate s).pose = t.pose := by rw [ht, refresh_pose, controlPeriodEffect_pose]
    have xconfig : (periodUpdate s).config = s.config := periodUpdate_config s
    have path := pathOf_of_same (xconfig.trans config.symm) ((periodUpdate_table s).trans table.symm) pose c.segment.motion
    have point := probeOf_of_same (xconfig.trans config.symm) ((periodUpdate_table s).trans table.symm) pose c.segment.motion
    rintro d found probe free rfl hfound hprobe hfree
    rw [← config, ← table] at hfound hprobe
    have hfound : found = pathOf (periodUpdate s) c.segment.motion := hfound.trans path.symm
    have hprobe : probe = probeOf (periodUpdate s) c.segment.motion := hprobe.trans point.symm
    rw [hfound, hprobe, ← xconfig, free_iff_not_blocks] at hfree
    refine ⟨fun e runs same => ?_, fun first stop isFree grown hgrown far => ?_,
      fun rest b monitor first stop blocks => ?_⟩
    · obtain ⟨judged, stands⟩ := period_judged wf ok running straight ht runs same
      rw [hfound, hprobe, path, point]
      exact ⟨judged, fun held => stands (by rw [hfree] at held; push Not at held; exact held)⟩
    · obtain rfl : grown = grownProgress (handedOn s) c := hgrown.trans (grownProgress_straight straight).symm
      rw [segments, drive]
      exact period_going wf ok running straight (hfree.mp isFree) first stop (ownEnding_none (c := progressed (handedOn s) c) far)
    · rw [hfound, hprobe, ← xconfig] at blocks
      have blocks : Blocks (periodUpdate s) c.segment.motion b := blocks
      refine ⟨fun _ e runs same => ?_, fun still quiet => ?_⟩
      · rw [segments] at runs
        rw [drive]
        have acted := period_runs wf ok running runs same
        obtain ⟨d, followed, blocked⟩ := ranOn_blocked wf running straight monitor blocks first stop
        rw [acted] at runs ⊢
        obtain rfl := Option.some.inj (runs.symm.trans followed.running)
        exact ⟨blocked.cause, blocked.phase, blocked.stop⟩
      · rw [segments]
        exact period_blocked_writes wf running straight monitor blocks first stop still quiet

end Sys2Proof.Machine
end
